-- ==== Sys2Proof/Word.lean ====
section
/-! DEFINITION. The plainest data of the GS316 model: bytes, station addresses, zone sets, fixed-size
tables, the unit of time and a running timer. Nothing here is specific to one chapter of the data book. -/

namespace Sys2Proof

/-- One byte of a frame or of the phrase store. -/
abbrev Byte := BitVec 8

/-- A 16-bit station address (R165). -/
abbrev Addr := BitVec 16

/-- A set of zones 0 to 15, zone z being bit z. -/
abbrev ZoneMask := BitVec 16

/-- One audio sample: 12 bits, two's complement (R148). -/
abbrev Sample := BitVec 12

/-- A moment or a length of time in bit times of the store line (1 µs, R1). -/
abbrev Micros := Nat

/-- A timer: `none` when stopped, `some t` when running, `t` being the moment at which it runs out (R1). -/
abbrev Timer := Option Micros

/-- A length given in milliseconds. -/
def ms (n : Nat) : Micros := n * 1000

/-- A length given in seconds. -/
def sec (n : Nat) : Micros := n * 1000000

/-- A table of exactly `n` entries, numbered from 0. The size is carried with the cells, so that no operation can change it. -/
structure Tab (α : Type) (n : Nat) where
  cells : List α
  size_cells : cells.length = n
deriving DecidableEq, Repr

namespace Tab

variable {α β : Type} {n : Nat}

/-- A table holding one value throughout. -/
def replicate (n : Nat) (a : α) : Tab α n := ⟨List.replicate n a, List.length_replicate⟩

/-- The entry at an index, if the index lies in the table. -/
def get? (t : Tab α n) (i : Nat) : Option α := t.cells[i]?

/-- The entry at an index, or `d` outside the table. -/
def getD (t : Tab α n) (i : Nat) (d : α) : α := (t.get? i).getD d

/-- The table with one entry replaced; an index outside the table changes nothing. -/
def set (t : Tab α n) (i : Nat) (a : α) : Tab α n := ⟨t.cells.set i a, by simp [t.size_cells]⟩

/-- The table with `f` applied to one entry; an index outside the table changes nothing. -/
def modify (t : Tab α n) (i : Nat) (f : α → α) : Tab α n :=
  match t.get? i with
  | some a => t.set i (f a)
  | none => t

/-- The table with `f` applied to every entry. -/
def map (f : α → β) (t : Tab α n) : Tab β n := ⟨t.cells.map f, by simp [t.size_cells]⟩

/-- The table with `f` applied to every entry and its index. -/
def mapIdx (f : Nat → α → β) (t : Tab α n) : Tab β n :=
  ⟨(List.range n).zipWith f t.cells, by simp [t.size_cells]⟩

/-- The table whose entry at index i is `f i`. -/
def ofFn (n : Nat) (f : Nat → α) : Tab α n := ⟨(List.range n).map f, by simp⟩

/-- The entry of an optional table at an index: `none` outside the table and where the entry is free. -/
def at? (t : Tab (Option α) n) (i : Nat) : Option α := (t.get? i).join

end Tab

/-- The indices 0 to n − 1 at which `p` holds, in increasing order. -/
def indicesWhere (n : Nat) (p : Nat → Bool) : List Nat := (List.range n).filter p

/-- The lowest index 0 to n − 1 at which `p` holds. -/
def firstIndex (n : Nat) (p : Nat → Bool) : Option Nat := (List.range n).find? p

/-- The zones of a mask, in increasing order. -/
def ZoneMask.zones (m : ZoneMask) : List Nat := indicesWhere 16 m.getLsbD

/-- The mask holding one zone. -/
def ZoneMask.single (z : Nat) : ZoneMask := BitVec.ofNat 16 (2 ^ z)

end Sys2Proof
end

