-- ==== Sys2Proof/Syntax.lean ====
section
/-! DEFINITION. The commands of the GS316: one constructor of `Instr` for each row of spec/opcode_table.json,
with the operand types they carry.

An event of a pin, a clock or a timer names its object (a shaft, a port, a station record …). A step that takes a
frame from the intake queue reads the frame's bytes from the head of that queue; the contents of a SETUP, QUERY or
ORDER payload after its tag are operands, because the data book gives those payloads no codes and no layout
(R178: "fields of the table entry or the order"). See notes/assumptions/1.md and 2.md. -/

namespace Sys2Proof

/-! ### Values of the tables -/

/-- Station roles (R2), coded 1 to 9 in a BEAT (R178). -/
inductive Role where
  | callPoint | annunciator | sounder | shutterDrive | landingStation | detectionPanel | speaker | console | other
deriving DecidableEq, Repr

/-- A set drawn from CHIME and FADE (R2). -/
structure Abilities where
  chime : Bool := false
  fade : Bool := false
deriving DecidableEq, Repr

/-- The kind of a detector point (R57). -/
inductive PointKind where
  | automatic | manual
deriving DecidableEq, Repr

/-- The side of a shaft on which a sill lies (R16). -/
inductive Side where
  | up | down
deriving DecidableEq, Repr

/-- A landing reference: a shaft and one of its landings (R76). -/
structure LandingRef where
  shaft : Nat
  landing : Nat
deriving DecidableEq, Repr

/-- A timed bell pattern: STROKES n × repeats, or CHIME × repeats (R118). -/
inductive Pattern where
  | strokes (n repeats : Nat)
  | chime (repeats : Nat)
deriving DecidableEq, Repr

/-- The actions of a schedule entry (R137). -/
inductive DayAction where
  | announce | beginClosing | lastCall | close | open | bell
deriving DecidableEq, Repr

/-- The four mode actions of ORDER STORE_MODE (R146). -/
inductive ModeAction where
  | beginClosing | lastCall | close | open
deriving DecidableEq, Repr

/-- The sounder mode of GLOBAL (R131). -/
inductive SounderMode where
  | rotating | fixed
deriving DecidableEq, Repr

/-- The mode of a notice kind (R184). -/
inductive NoticeMode where
  | edge | level
deriving DecidableEq, Repr

/-- The route of a notice kind (R184). -/
inductive NoticeRoute where
  | console0 | console1 | both
deriving DecidableEq, Repr

/-- The trim direction (R133). -/
inductive TrimDirection where
  | fast | slow
deriving DecidableEq, Repr

/-- The two channels that play from the phrase store, and so have a BLOCK_MOMENT (R152). -/
inductive PhraseChannel where
  | evac | stored
deriving DecidableEq, Repr

/-- The kinds of notice, in the order of GLOBAL entries 1 to 23 (R184). -/
inductive NoticeKind where
  | zoneState | zonePoint | shaftTrip | shutterForced | safetyRefused | evacUnavailable | stationLost | roleMismatch
  | zoneFault | shutterFault | shaftUnclearable | shaftDegraded | portState | clockInvalid | storeInvalid | shaftHeld
  | shutterState | stationStatus | stationBack | callOffice | storeMode | storedAbandoned | pageEnded
deriving DecidableEq, Repr

/-! ### Fields of a request -/

/-- An enumerated field of a request: left out, a value outside the listed ones, or a listed value. -/
inductive Given (α : Type) where
  | left
  | bad
  | val (a : α)
deriving DecidableEq, Repr

/-- A SETUP of a table with free entries: a request to free the entry, or fields to write (R180). -/
inductive Write (φ : Type) where
  | free
  | fields (f : φ)
deriving DecidableEq, Repr

/-- Fields of SETUP STATION (R2). `none` is a field left out. `zone := some none` removes the zone. -/
structure StationFields where
  address : Option Nat := none
  homePort : Option Nat := none
  role : Option Nat := none
  zone : Option (Option Nat) := none
  beatPeriod : Option Nat := none
  abilities : Option Abilities := none
deriving DecidableEq, Repr

/-- Fields of SETUP POINT (R57). -/
structure PointFields where
  panel : Option Nat := none
  number : Option Nat := none
  zone : Option Nat := none
  kind : Given PointKind := .left
deriving DecidableEq, Repr

/-- Fields of SETUP ZONE (R62). -/
structure ZoneFields where
  doubleKnock : Option Bool := none
  knockWindow : Option Nat := none
  clearanceTimeout : Option Nat := none
  warningTime : Option Nat := none
  voice : Option Bool := none
  neighbours : Option ZoneMask := none
  storedIsolated : Option Bool := none
deriving DecidableEq, Repr

/-- Fields of SETUP SHUTTER (R76). `landing := some none` removes the landing reference. -/
structure ShutterFields where
  drive : Option Nat := none
  zone : Option Nat := none
  landing : Option (Option LandingRef) := none
  descentLimit : Option Nat := none
  raiseLimit : Option Nat := none
deriving DecidableEq, Repr

/-- Fields of SETUP ROUTE (R98). -/
structure RouteFields where
  callPoint : Option Nat := none
  primary : Option Nat := none
  secondary : Option (Option Nat) := none
  sounder : Option (Option Nat) := none
  bellCode : Option Nat := none
deriving DecidableEq, Repr

/-- Fields of SETUP SHAFT (R15). -/
structure ShaftFields where
  enabled : Option Bool := none
  L : Option Nat := none
  N : Option Nat := none
  C : Option Nat := none
  H : Option Nat := none
  Gb : Option Nat := none
  Ga : Option Nat := none
  tol : Option Nat := none
  Vc : Option Nat := none
  a : Option Nat := none
  sc : Option Nat := none
  Vmax : Option Nat := none
  slip : Option Nat := none
deriving DecidableEq, Repr

/-- Fields of SETUP SILL (R16). -/
structure SillFields where
  position : Option Nat := none
  landing : Option Nat := none
  side : Given Side := .left
  station : Option Nat := none
deriving DecidableEq, Repr

/-- Fields of SETUP SCHEDULE (R137). `some none` removes the phrase or the bell pattern. -/
structure ScheduleFields where
  enabled : Option Bool := none
  weekdays : Option (BitVec 7) := none
  hour : Option Nat := none
  minute : Option Nat := none
  action : Given DayAction := .left
  phrase : Option (Option Nat) := none
  zones : Option ZoneMask := none
  gain : Option Nat := none
  bell : Option (Option Pattern) := none
deriving DecidableEq, Repr

/-- Fields of SETUP PORT (R173). -/
structure PortFields where
  filter : Option (BitVec 64) := none
  mirror : Option Bool := none
deriving DecidableEq, Repr

/-- Fields of GLOBAL entry 0 (R181). `some none` makes a console or a phrase absent. -/
structure GlobalFields where
  own : Option Nat := none
  console0 : Option (Option Nat) := none
  console1 : Option (Option Nat) := none
  escalation : Option Nat := none
  sounderMode : Given SounderMode := .left
  preemptWait : Option Nat := none
  bellStrokes : Option Nat := none
  bellRepeats : Option Nat := none
  evacPhrase : Option (Option Nat) := none
  evacGain : Option Nat := none
  standbyPhrase : Option (Option Nat) := none
deriving DecidableEq, Repr

/-- Fields of a notice configuration entry (R184). -/
structure NoticeFields where
  enable : Given Bool := .left
  mode : Given NoticeMode := .left
  route : Given NoticeRoute := .left
deriving DecidableEq, Repr

/-- What SETUP GLOBAL writes: entry 0, an entry with notice fields, or (R180) a SETUP whose table code is none of the ten. -/
inductive GlobalWrite where
  | settings (f : GlobalFields)
  | notice (f : NoticeFields)
  | unknownTable
deriving DecidableEq, Repr

/-- The codes of QUERY: the ten tables of R180 and the codes of R182. -/
inductive QueryCode where
  | station | point | zone | shutter | route | shaft | sill | schedule | port | global
  | clock | store | calls | sounder | playback | phrase | exchange | management
  | unknown
deriving DecidableEq, Repr

/-- Fields of SET_CLOCK (R136). -/
structure ClockFields where
  seconds : Nat
  minutes : Nat
  hours : Nat
  weekday : Nat
  day : Nat
deriving DecidableEq, Repr

/-- Fields of SET_TRIM (R133). -/
structure TrimFields where
  direction : Given TrimDirection
  interval : Nat
deriving DecidableEq, Repr

/-- Fields of ORDER STORE_MODE (R146). A field left out takes the default of a schedule entry (R137). -/
structure ModeFields where
  action : Given ModeAction
  phrase : Option Nat := none
  zones : Option ZoneMask := none
  gain : Option Nat := none
deriving DecidableEq, Repr

/-- Fields of PLAY (R158). -/
structure PlayFields where
  phrase : Nat
  zones : ZoneMask
  gain : Nat
  urgent : Bool
deriving DecidableEq, Repr

/-- Fields of PAGE_START (R160). -/
structure PageFields where
  zones : ZoneMask
  gain : Nat
deriving DecidableEq, Repr

/-! ### Events from outside -/

/-- What a port's receiver has seen when the line returns to quiet: activity without an opening mark, or the bytes
after the mark (more than 56 when the line stayed active past the 56th) (R165, R166). -/
inductive LineEvent where
  | noMark
  | bytes (bs : List Byte)
deriving DecidableEq, Repr

/-- How the writing and read-back of the settings image ended (R189). -/
inductive SaveResult where
  | agrees
  | differs
  | noAcknowledge
deriving DecidableEq, Repr

/-- The object a notice is about; with its kind it names a LEVEL repeat timer (R185). -/
structure NoticeKey where
  kind : NoticeKind
  object : Nat
  part : Nat := 0
deriving DecidableEq, Repr

/-! ### The commands -/

/-- The steps of the GS316, in the order of spec/opcode_table.json. -/
inductive Instr where
  -- start-up and the store clock
  | powerOn
  | resetPin
  | autoloadEnd (acknowledged : Bool)
  | secondBoundary
  | crystalLoss
  -- the shaft interfaces and shaft timers
  | forwardCount (shaft : Nat)
  | backwardCount (shaft : Nat)
  | homeMark (shaft : Nat)
  | readyLost (shaft : Nat)
  | readyGained (shaft : Nat)
  | faultRaised (shaft : Nat)
  | faultCleared (shaft : Nat)
  | speedWindowEnd (shaft : Nat)
  | homeTimeout (shaft : Nat)
  | lampRefresh (shaft landing : Nat)
  -- stations and the store line
  | supervisionTimeout (station : Nat)
  | frameReceive (port : Nat) (line : LineEvent)
  | portSilenceTimeout (port : Nat)
  | keepInterval (port : Nat)
  | keep
  | forward
  | deferralEnd (port : Nat)
  | frameSent (port : Nat)
  | earlyClash (port : Nat)
  | lateClash (port : Nat)
  | backoffEnd (port : Nat)
  | beat
  -- fire zones and shutters
  | detect
  | knockWindowExpiry (zone : Nat)
  | shutstat
  | resendTimer (shutter : Nat)
  | clearanceTimeout (shutter : Nat)
  | warningTimeout (shutter : Nat)
  | motionTimeout (shutter : Nat)
  | landing
  -- staff calls
  | callPress
  | callCancel
  | callAck
  | escalationStep1 (record : Nat)
  | escalationStep2 (record : Nat)
  -- sounders
  | patternEnd (sounder : Nat)
  | startLimit (sounder : Nat)
  | preemptTimeout (sounder : Nat)
  | evacRefresh (sounder : Nat)
  -- the trading day
  | closeWaitExpiry
  -- announcements
  | tuneEvacRefresh
  | blockMoment (channel : PhraseChannel)
  | pageSamples
  | pageBlockMoment
  | underrunTimeout
  | pageIdleTimeout
  -- SETUP and QUERY
  | setupStation (index : Nat) (w : Write StationFields)
  | setupPoint (index : Nat) (w : Write PointFields)
  | setupZone (zone : Nat) (f : ZoneFields)
  | setupShutter (index : Nat) (w : Write ShutterFields)
  | setupRoute (index : Nat) (w : Write RouteFields)
  | setupShaft (shaft : Nat) (f : ShaftFields)
  | setupSill (shaft index : Nat) (w : Write SillFields)
  | setupSchedule (index : Nat) (w : Write ScheduleFields)
  | setupPort (port : Nat) (f : PortFields)
  | setupGlobal (index : Nat) (w : GlobalWrite)
  | query (code : QueryCode) (index sub : Nat) (part : Option Nat) (clear : Bool)
  -- ORDERs
  | setClock (f : Option ClockFields)
  | stepClock (seconds : Option Int)
  | setTrim (f : Option TrimFields)
  | startShaft (shaft : Nat)
  | stopShaft (shaft : Nat)
  | resetShaft (shaft : Nat)
  | silenceZone (zone : Nat)
  | resetZone (zone : Nat)
  | isolateZone (zone : Nat)
  | restoreZone (zone : Nat)
  | storeMode (f : Option ModeFields)
  | play (f : Option PlayFields)
  | pageStart (f : Option PageFields)
  | pageEnd
  | clearCalls (address : Option Nat)
  | lineTest (port : Nat)
  | lineTestReceive (port : Nat) (line : LineEvent)
  | lineTestTimeout (port : Nat)
  | clearCounters
  | saveSettings
  | saveEnd (result : SaveResult)
  | writePhraseBlock (address : Option Nat) (data : List Byte)
  | phraseWriteEnd (readBack : List Byte)
  | lockPhrases
  | restart
  | restartTimeout
  | unknownOrder
  | noticeRepeat (key : NoticeKey)
  | crystalCyclesResume
deriving DecidableEq, Repr

end Sys2Proof
end

