-- ==== Sys2Proof/Config.lean ====
section
/-! DEFINITION. What the data book fixes for the part (the fixed values and figures of R1 and section 1.10), and the
free values: constants with no body, standing for values that the data book leaves open. No proof can see what a
free value is, so a statement that mentions one holds whatever it is. -/

namespace Sys2Proof
namespace Config

/-! ### Fixed times -/

/-- The KEEP interval (R167). -/
def keepInterval : Micros := ms 10
/-- The port silence limit (R168). -/
def silenceLimit : Micros := ms 30
/-- The line-test limit (R169). -/
def lineTestLimit : Micros := ms 2
/-- The close wait (R143). -/
def closeWait : Micros := sec 300
/-- The speed window (R23). -/
def speedWindow : Micros := ms 100
/-- The lamp refresh interval (R33). -/
def lampRefresh : Micros := sec 5
/-- The resend time of a shutter command (R80). -/
def resend : Micros := sec 1
/-- The start limit of a bell pattern (R124). -/
def startLimit : Micros := sec 2
/-- The evacuation refresh interval (R126). -/
def evacRefresh : Micros := sec 10
/-- The TUNE EVAC refresh interval (R151). -/
def tuneRefresh : Micros := sec 10
/-- The block period of a playing channel (R152). -/
def blockPeriod : Micros := ms 3
/-- The underrun limit of a page (R162). -/
def underrunLimit : Micros := ms 70
/-- The page idle limit (R163). -/
def pageIdle : Micros := ms 200
/-- The LEVEL repeat time of a notice (R185). -/
def noticeRepeat : Micros := sec 30
/-- The longest a pending restart waits (R192). -/
def restartLimit : Micros := ms 100
/-- The jam: 32 bits (R175). -/
def jam : Micros := 32
/-- One backoff slot (R175). -/
def backoffSlot : Micros := 128

/-! ### Sizes -/

/-- Frames in the intake queue (R170). -/
def intakeSize : Nat := 16
/-- Frames in the transmit queues of a port (R172). -/
def safetySize : Nat := 8
def streamSize : Nat := 4
def normalSize : Nat := 16
/-- Notices in the notice queue (R186). -/
def noticeSize : Nat := 16
/-- Records in the call table (R100). -/
def callSize : Nat := 48
/-- Requests in a sounder's pending list (R119). -/
def pendingSize : Nat := 8
/-- Requests in the stored-announcement queue (R155). -/
def storedSize : Nat := 8
/-- Blocks in the jitter buffer (R161). -/
def jitterSize : Nat := 8
/-- Attempts at a frame before it is abandoned (R175). -/
def maxAttempts : Nat := 12
/-- Where a counter holds (R1). -/
def counterMax : Nat := 65535
/-- Bytes of the phrase store (R148). -/
def phraseStoreSize : Nat := 8388608
/-- Crystal cycles in an untrimmed second (R132). -/
def secondCycles : Nat := 32768
/-- The office line, L4 (section 1.4). -/
def officePort : Nat := 4

/-! ### Addresses -/

/-- The own station address by default (R165). -/
def ownDefault : Addr := 0x0100#16
/-- All stations (R165). -/
def allStations : Addr := 0xFFFF#16

/-! ### Free values -/

/-- The random draws of R175, the n-th draw being `backoffDraw n`. "drawn by the port at random": only the range is
stated, and the draw is taken modulo the number of slots. See notes/assumptions/5.md. -/
opaque backoffDraw : Nat → Nat

/-- How many crystal cycles have ended by a given moment, from a fixed start; the cycles of a span of time are the
difference. The crystal is not tied to the main clock (R134), so the data book fixes no pattern. See
notes/assumptions/4.md. -/
opaque crystalCycles : Micros → Nat

/-- How many bytes of a return one REPLY payload has room for, less one. R178 gives a REPLY at most 48 bytes and lays
none of them out. See notes/assumptions/6.md. -/
opaque replyRoom : Nat

/-- What a byte of a block reads as when a power-on or a reset pin cuts its programming short: arguments the draw
number and the address. The data book states no result. See notes/assumptions/7.md. -/
opaque cutShortByte : Nat → Nat → Byte

end Config
end Sys2Proof
end

