-- ==== Sys2Proof/Machine/Types.lean ====
section
/-! DEFINITION. The pieces of the GS316's state, chapter by chapter: the loaded tables (what the settings image
holds, R187) and the live state of each block. Every structure's default value is the value after a reset. -/

namespace Sys2Proof.Machine

/-! ## The loaded tables -/

/-- Configured fields of a station record in use (R2). -/
structure StationCfg where
  address : Addr
  homePort : Nat
  role : Role
  zone : Option Nat := none
  beatPeriod : Nat := 2
  abilities : Abilities := {}
deriving DecidableEq, Repr

/-- Configured fields of a detector-point record in use (R57). -/
structure PointCfg where
  panel : Nat
  number : Nat
  zone : Nat
  kind : PointKind := .automatic
deriving DecidableEq, Repr

/-- Configured fields of a zone (R62). -/
structure ZoneCfg where
  doubleKnock : Bool := false
  knockWindow : Nat := 120
  clearanceTimeout : Nat := 20
  warningTime : Nat := 5
  voice : Bool := false
  neighbours : ZoneMask := 0#16
  storedIsolated : Bool := false
deriving DecidableEq, Repr

/-- Configured fields of a shutter record in use (R76). -/
structure ShutterCfg where
  drive : Nat
  zone : Nat
  landing : Option LandingRef := none
  descentLimit : Nat := 30
  raiseLimit : Nat := 60
deriving DecidableEq, Repr

/-- A route record in use (R98). -/
structure Route where
  callPoint : Nat
  primary : Nat
  secondary : Option Nat := none
  sounder : Option Nat := none
  bellCode : Nat := 1
deriving DecidableEq, Repr

/-- The geometry record of a shaft (R15). -/
structure Geometry where
  enabled : Bool := false
  L : Nat := 9600
  N : Nat := 16
  C : Nat := 480
  H : Nat := 0
  Gb : Nat := 20
  Ga : Nat := 20
  tol : Nat := 8
  Vc : Nat := 100
  a : Nat := 400
  sc : Nat := 12
  Vmax : Nat := 4000
  slip : Nat := 20
deriving DecidableEq, Repr

/-- A sill record in use (R16). -/
structure Sill where
  position : Nat
  landing : Nat
  side : Side
  station : Nat
deriving DecidableEq, Repr

/-- The table entries of one shaft. -/
structure ShaftCfg where
  geometry : Geometry := {}
  sills : Tab (Option Sill) 24 := Tab.replicate 24 none
deriving DecidableEq, Repr

/-- A schedule entry in use, less its last-fired stamp (R137). -/
structure ScheduleEntry where
  enabled : Bool := true
  weekdays : BitVec 7 := 0x7F#7
  hour : Nat
  minute : Nat
  action : DayAction
  phrase : Option Nat := none
  zones : ZoneMask := 0xFFFF#16
  gain : Nat := 256
  bell : Option Pattern := none
deriving DecidableEq, Repr

/-- A PORT entry (R173). -/
structure PortCfg where
  filter : BitVec 64 := BitVec.allOnes 64
  mirror : Bool := false
deriving DecidableEq, Repr

/-- GLOBAL entry 0 (R131, R149, R181). -/
structure Global where
  own : Addr := Config.ownDefault
  console0 : Option Addr := none
  console1 : Option Addr := none
  escalation : Nat := 60
  sounderMode : SounderMode := .rotating
  preemptWait : Nat := 20
  bellStrokes : Nat := 5
  bellRepeats : Nat := 3
  evacPhrase : Option Nat := none
  evacGain : Nat := 256
  standbyPhrase : Option Nat := none
deriving DecidableEq, Repr

/-- A notice configuration entry (R184). -/
structure NoticeCfg where
  enable : Bool := true
  mode : NoticeMode := .edge
  route : NoticeRoute := .both
deriving DecidableEq, Repr

/-- The loaded tables (R187). The default value is the tables of an invalid or absent image (R188). -/
structure Tables where
  stations : Tab (Option StationCfg) 96 := Tab.replicate 96 none
  points : Tab (Option PointCfg) 128 := Tab.replicate 128 none
  zones : Tab ZoneCfg 16 := Tab.replicate 16 {}
  shutters : Tab (Option ShutterCfg) 32 := Tab.replicate 32 none
  routes : Tab (Option Route) 64 := Tab.replicate 64 none
  shafts : Tab ShaftCfg 2 := Tab.replicate 2 {}
  schedule : Tab (Option ScheduleEntry) 24 := Tab.replicate 24 none
  ports : Tab PortCfg 5 := Tab.replicate 5 {}
  globals : Global := {}
  notices : Tab NoticeCfg 23 := Tab.replicate 23 {}
deriving DecidableEq, Repr

/-! ## Live state of the Station Table (chapter 1) -/

/-- A station's presence (R2). -/
inductive Presence where
  | unknown | present | missing | mismatch
deriving DecidableEq, Repr

/-- Live fields of a station record (R2). The effective abilities are the configured ∩ the advertised ones, and are
computed where they are read. -/
structure StationLive where
  presence : Presence := .unknown
  missed : Nat := 0
  advertised : Abilities := {}
  lastStatus : Option Byte := none
  foreign : Nat := 0
  supervision : Timer := none
deriving DecidableEq, Repr

/-! ## Live state of the Shaft Controllers (chapters 2 and 3) -/

/-- Shaft states (section 2.4). -/
inductive ShaftState where
  | idle | homing | running | lastRun | clearing | stopping | held | tripped
deriving DecidableEq, Repr

/-- Trip causes (R30). -/
inductive TripCause where
  | overspeed | reverse | slip | homeTimeout | drive | sillTrip | landingStop | forcedRelease | localDrop
deriving DecidableEq, Repr

/-- A shaft's answer to a clear request (R41). -/
inductive Outcome where
  | clear | unclear
deriving DecidableEq, Repr

/-- The reason of a stop or of HELD (R29, R46). -/
inductive StopReason where
  | zone | park | stop
deriving DecidableEq, Repr

/-- The origin of the PARK request (R38). -/
inductive ParkOrigin where
  | day | order
deriving DecidableEq, Repr

/-- A landing's boarding lamp (R33). -/
inductive Lamp where
  | board | noBoard | flash
deriving DecidableEq, Repr

/-- What a shaft keeps for each of its landings: the stored landing report (R32), the lamp state and the moment of its
next refresh (R33). -/
structure LandingLive where
  sillTripped : Bool := false
  stopPulled : Bool := false
  lamp : Lamp := .noBoard
  refresh : Timer := none
deriving DecidableEq, Repr

/-- The part of a plan record that is present when its result is TARGET (R44). -/
structure PlanTarget where
  distance : Nat
  phase : Nat
  target : Nat
  brakePoint : Nat
deriving DecidableEq, Repr

/-- The plan record of a shaft (R44); `target` is `none` when the result is UNCLEARABLE. -/
structure Plan where
  plannedAt : Nat
  speed : Nat
  slowing : Nat
  minimum : Nat
  target : Option PlanTarget
  sills : List Sill
deriving DecidableEq, Repr

/-- Live state of one shaft (R37, R56). -/
structure Shaft where
  state : ShaftState := .idle
  posValid : Bool := false
  pos : Nat := 0
  permit : Bool := false
  creep : Bool := false
  brake : Bool := true
  ready : Bool := false
  fault : Bool := false
  windowCount : Nat := 0
  windowMoved : Bool := false
  windowEnd : Timer := none
  speed : Nat := 0
  standstill : Nat := 0
  settling : Nat := 0
  trip : Option TripCause := none
  degraded : Bool := false
  advance : Option Nat := none
  homeTimer : Timer := none
  zoneFlags : ZoneMask := 0#16
  park : Option ParkOrigin := none
  clearSet : List Sill := []
  outcome : Option Outcome := none
  heldReason : Option StopReason := none
  stopReason : Option StopReason := none
  answered : Bool := false
  reapproach : Nat := 0
  bar : Bool := false
  remaining : Option Nat := none
  plan : Option Plan := none
  clearStops : Nat := 0
  reapproaches : Nat := 0
  unclearables : Nat := 0
  heldUnclear : Nat := 0
  landings : Tab LandingLive 12 := Tab.replicate 12 {}
  unmatchedLandings : Nat := 0
deriving DecidableEq, Repr

/-! ## Live state of the Zone Controller (chapter 4) -/

/-- Live states of a detector point (R57). -/
inductive PointState where
  | normal | prealarm | alarm | manual | fault
deriving DecidableEq, Repr

/-- The source of a point's FAULT (R57). -/
inductive FaultSource where
  | report | link
deriving DecidableEq, Repr

/-- Live fields of a point record (R57). -/
structure PointLive where
  state : PointState := .normal
  source : Option FaultSource := none
deriving DecidableEq, Repr

/-- Zone states (R62). -/
inductive ZoneState where
  | normal | alert | alarm | silenced | resetting | isolated
deriving DecidableEq, Repr

/-- Alarm causes (R62). -/
inductive AlarmCause where
  | automatic | doubleKnock | manual | localDrop
deriving DecidableEq, Repr

/-- The alarm point of a zone, and the object of a ZONE_POINT notice: a detector point or a shutter (R62, R72). -/
inductive AlarmPoint where
  | point (index : Nat)
  | shutter (index : Nat)
deriving DecidableEq, Repr

/-- Live fields and counters of a zone (R62, R68, R72). -/
structure ZoneLive where
  state : ZoneState := .normal
  fault : Bool := false
  knockPoint : Option Nat := none
  knockTimer : Timer := none
  cause : Option AlarmCause := none
  alarmPoint : Option AlarmPoint := none
  furtherAlarms : Nat := 0
  ignoredDrops : Nat := 0
deriving DecidableEq, Repr

/-! ## Live state of the Shutter Controller (chapter 5) -/

/-- Shutter states (R76). -/
inductive ShutterState where
  | unknown | open | releaseWait | warning | descending | closed | raising | stalled | isolated
deriving DecidableEq, Repr

/-- Shutter faults (R79). -/
inductive ShutterFault where
  | noResponse | slow | jammed | comms | unexpected
deriving DecidableEq, Repr

/-- A fault set (R76). -/
structure FaultSet where
  noResponse : Bool := false
  slow : Bool := false
  jammed : Bool := false
  comms : Bool := false
  unexpected : Bool := false
deriving DecidableEq, Repr

/-- The command in force (R76). -/
inductive ShutCommand where
  | release | raise
deriving DecidableEq, Repr

/-- Positions a drive reports (R178). -/
inductive CurtainPos where
  | openEnd | descending | closedEnd | raising | stoppedMid | jammed
deriving DecidableEq, Repr

/-- A SHUTSTAT report (R76, R86). -/
structure DriveReport where
  position : CurtainPos
  localRelease : Bool
deriving DecidableEq, Repr

/-- Live fields of a shutter record (R76). `complied` says that a compliant report has come since the last send (R94). -/
structure ShutterLive where
  state : ShutterState := .unknown
  faults : FaultSet := {}
  command : Option ShutCommand := none
  sends : Nat := 0
  complied : Bool := false
  resend : Timer := none
  clearance : Timer := none
  warning : Timer := none
  motion : Timer := none
  lastReport : Option DriveReport := none
  forced : Bool := false
  lateOutcomes : Nat := 0
  unexpected : Nat := 0
deriving DecidableEq, Repr

/-! ## Live state of the Call Router (chapter 6) -/

/-- Call classes (R100), coded 0 to 3 in a CALL (R178). -/
inductive CallClass where
  | service | cash | floorwalker | urgent
deriving DecidableEq, Repr

/-- Targets of a call record (R99). -/
inductive Target where
  | primary | secondary | office
deriving DecidableEq, Repr

/-- A call record (R100). Its state and its rings are those of R101, computed from these fields and the arbiters. -/
structure CallRecord where
  point : Nat
  cls : CallClass
  pressed : CallClass
  number : Nat
  repeats : Nat := 0
  held : Bool := false
  target : Target
  step : Nat := 0
  timer : Timer := none
deriving DecidableEq, Repr

/-- The state of a call record (R101). -/
inductive CallState where
  | waiting | ringing | escalated | held
deriving DecidableEq, Repr

/-- Why a record took the target OFFICE (R99). -/
inductive OfficeReason where
  | unrouted | escalated | annunciatorLost
deriving DecidableEq, Repr

/-- One entry of a displayed list (R110). -/
structure ShowEntry where
  address : Addr
  bellCode : Nat
  cls : CallClass
  escalated : Bool
  repeats : Nat
deriving DecidableEq, Repr

/-- A displayed list: the entries shown and the number of records that qualify (R110). -/
structure ShowList where
  entries : List ShowEntry
  total : Nat
deriving DecidableEq, Repr

/-- Counters of the Call Router (R117). -/
structure CallCounters where
  taken : Nat := 0
  acked : Nat := 0
  cleared : Nat := 0
  refused : Nat := 0
  displaced : Nat := 0
  clearedAtClose : Nat := 0
  badCall : Nat := 0
  unmatched : Nat := 0
deriving DecidableEq, Repr

/-- Live state of the Call Router (R117). -/
structure Calls where
  records : List CallRecord := []
  lastNumber : Nat := 0
  shown : Tab (Option ShowList) 96 := Tab.replicate 96 none
  counters : CallCounters := {}
deriving DecidableEq, Repr

/-! ## Live state of the Sounder Arbiter (chapter 7) -/

/-- Classes of ring requests (R119). -/
inductive RingClass where
  | service | cash | floorwalker | urgent | closing | fallback
deriving DecidableEq, Repr

/-- Owners of ring requests (R119). A call record is named by its arrival number. -/
inductive RingOwner where
  | call (number : Nat)
  | day
  | playback
deriving DecidableEq, Repr

/-- Service of an arbiter (R120). -/
inductive Service where
  | arbitrating | evacuating | silent
deriving DecidableEq, Repr

/-- Patterns a TOLL frame carries (R118). -/
inductive Toll where
  | stop
  | timed (p : Pattern)
  | continuous
deriving DecidableEq, Repr

/-- A pending ring request (R119). -/
structure Ring where
  cls : RingClass
  pattern : Pattern
  owner : RingOwner
  arrival : Micros
deriving DecidableEq, Repr

/-- The phase of a timed pattern in force (R124): STARTING with its start limit, or SOUNDING with its end moment. -/
inductive RingPhase where
  | starting (limit : Micros)
  | sounding (until_ : Micros)
deriving DecidableEq, Repr

/-- The pattern in force at a sounder (R119). `sent` is the pattern actually sent (R118) and `token` marks its frame. -/
inductive InForce where
  | none
  | continuous
  | timed (cls : RingClass) (owner : RingOwner) (sent : Pattern) (token : Nat) (phase : RingPhase)
deriving DecidableEq, Repr

/-- Counters of an arbiter (R119). -/
structure ArbiterCounters where
  served : Nat := 0
  preempted : Nat := 0
  refusedFull : Nat := 0
  refusedAbsent : Nat := 0
  droppedAtLoss : Nat := 0
  notSent : Nat := 0
deriving DecidableEq, Repr

/-- One arbiter (R119). -/
structure Arbiter where
  service : Service := .arbitrating
  inForce : InForce := .none
  pending : List Ring := []
  lastServed : RingClass := .fallback
  lastSent : Option Toll := none
  preempt : Timer := none
  refresh : Timer := none
  counters : ArbiterCounters := {}
deriving DecidableEq, Repr

/-! ## The Store Clock and the Day Sequencer (chapter 8) -/

/-- The Store Clock (R132). `period` is the length of the present period, in cycles (R133); `running` says that crystal
cycles arrive (R134). The default value is the value after power-on. -/
structure Clock where
  valid : Bool := false
  seconds : Nat := 0
  minutes : Nat := 0
  hours : Nat := 0
  weekday : Nat := 0
  day : Nat := 0
  divider : Nat := 0
  period : Nat := Config.secondCycles
  trimDirection : TrimDirection := .fast
  trimInterval : Nat := 0
  trimCount : Nat := 0
  step : Option Int := none
  running : Bool := true
deriving DecidableEq, Repr

/-- Store modes (R140). -/
inductive StoreMode where
  | open | closing | lastCall | closed
deriving DecidableEq, Repr

/-- The source of a change of store mode (R140). -/
inductive ModeSource where
  | schedule (index : Nat)
  | order
deriving DecidableEq, Repr

/-- Live state of the Day Sequencer (R140), with the last-fired stamps of the schedule indices (R137). `source` is the
source of the mode action being carried out or waited for, named in the STORE_MODE notice. -/
structure Day where
  mode : StoreMode := .closed
  closePending : Bool := false
  closeWait : Timer := none
  overdue : Bool := false
  source : ModeSource := .order
  fired : Nat := 0
  noEffect : Nat := 0
  stamps : Tab (Option Nat) 24 := Tab.replicate 24 none
deriving DecidableEq, Repr

/-! ## The Playback Unit (chapter 9) -/

/-- Channels, as a zone-map entry or a tuning (R150). -/
inductive Chan where
  | none | evac | page | stored
deriving DecidableEq, Repr

/-- An entry of the phrase directory (R148). -/
structure PhraseEntry where
  start : Nat := 0
  count : Nat := 0
  gain : Nat := 0
deriving DecidableEq, Repr

/-- The validity of a directory entry (R148). -/
inductive PhraseValidity where
  | empty | invalid | valid
deriving DecidableEq, Repr

/-- Where a playing channel stands in its phrase: the entry, the gain g of the pass (R153) and the next sample. -/
structure Cursor where
  entry : PhraseEntry
  gain : Nat
  sample : Nat := 0
deriving DecidableEq, Repr

/-- The EVAC channel while it is PLAYING (R154). -/
structure EvacPlay where
  cursor : Cursor
  block : Nat := 0
  clock : Timer
  refresh : Timer
deriving DecidableEq, Repr

/-- Origins of a stored-announcement request (R155). -/
inductive RequestOrigin where
  | day | zone | order
deriving DecidableEq, Repr

/-- A stored-announcement request (R155). -/
structure StoredRequest where
  phrase : Nat
  zones : ZoneMask
  gain : Nat
  urgent : Bool
  origin : RequestOrigin
  number : Nat
deriving DecidableEq, Repr

/-- The current stored announcement, while STORED is PLAYING (R156). -/
structure StoredPlay where
  request : StoredRequest
  taken : ZoneMask
  cursor : Cursor
  block : Nat := 0
  clock : Timer
deriving DecidableEq, Repr

/-- States of the PAGE channel (R152, R160). -/
inductive PagePhase where
  | idle | prefill | playing
deriving DecidableEq, Repr

/-- A block of the jitter buffer (R161). -/
inductive JitterBlock where
  | silence
  | real (samples : List Sample)
deriving DecidableEq, Repr

/-- The live page (R160 to R163). `ramped` counts the samples sent since PLAYING was entered, up to 32 (R153). -/
structure Page where
  phase : PagePhase := .idle
  zones : ZoneMask := 0#16
  gain : Nat := 0
  source : Option Addr := none
  buffer : List JitterBlock := []
  next : Option Nat := none
  ramped : Nat := 0
  block : Nat := 0
  clock : Timer := none
  idle : Timer := none
  underrun : Timer := none
deriving DecidableEq, Repr

/-- Reasons of PAGE_ENDED (R163). -/
inductive PageEnd where
  | order | underrun | idle
deriving DecidableEq, Repr

/-- Counters of the Playback Unit (R164). -/
structure PlaybackCounters where
  refusedInvalid : Nat := 0
  refusedFull : Nat := 0
  displaced : Nat := 0
  skipped : Nat := 0
  bellOnly : Nat := 0
  completed : Nat := 0
  abandoned : Nat := 0
  lostZone : Nat := 0
  fallback : Nat := 0
  foreignSamples : Nat := 0
  recovered : Nat := 0
  duplicate : Nat := 0
  late : Nat := 0
  gapFilled : Nat := 0
  resync : Nat := 0
  overflow : Nat := 0
  underrun : Nat := 0
deriving DecidableEq, Repr

/-- Live state of the Playback Unit (R164). "Read afresh" leaves open what the phrase directory reads as from a power-on or
the reset pin to the end of the autoload: the model's choice is that every entry is EMPTY (notes/assumptions/38.md). -/
structure Playback where
  directory : Tab PhraseEntry 128 := Tab.replicate 128 {}
  evac : Option EvacPlay := none
  stored : Option StoredPlay := none
  queue : List StoredRequest := []
  lastRequest : Nat := 0
  page : Page := {}
  zoneMap : Tab Chan 16 := Tab.replicate 16 .none
  tuning : Tab (Option Chan) 96 := Tab.replicate 96 none
  counters : PlaybackCounters := {}
deriving DecidableEq, Repr

/-! ## Frames, notices and replies -/

/-- A frame on a store line, less its length and check bytes, which follow from it (R165). -/
structure Frame where
  dest : Addr
  src : Addr
  kind : Byte
  payload : List Byte
deriving DecidableEq, Repr

/-- A good frame of the intake queue, with its arrival port (R170). -/
structure Received where
  port : Nat
  frame : Frame
deriving DecidableEq, Repr

/-- Port states (R167). -/
inductive PortState where
  | down | trial | up | loop
deriving DecidableEq, Repr

/-- Severities of notices (R184). -/
inductive Severity where
  | alarm | fault | info
deriving DecidableEq, Repr

/-- A notice's kind, object and contents, as the requesting rule states them. -/
inductive NoticeBody where
  | zoneState (zone : Nat) (old new : ZoneState) (cause : Option AlarmCause) (point : Option AlarmPoint)
  | zonePoint (zone : Nat) (point : AlarmPoint)
  | shaftTrip (shaft : Nat) (cause : Option TripCause)
  | shutterForced (shutter : Nat)
  | safetyRefused (port : Nat) (kind : Byte) (dest : Addr)
  | evacUnavailable (zone : Nat)
  | stationLost (station : Nat)
  | roleMismatch (station : Nat)
  | zoneFault (zone : Nat) (set : Bool)
  | shutterFault (shutter : Nat) (fault : ShutterFault) (added : Bool)
  | shaftUnclearable (shaft : Nat)
  | shaftDegraded (shaft : Nat) (set : Bool)
  | portState (port : Nat) (state : PortState)
  | clockInvalid
  | storeInvalid
  | shaftHeld (shaft : Nat) (outcome : Option Outcome) (reason : Option StopReason)
  | shutterState (shutter : Nat) (old new : ShutterState)
  | stationStatus (station : Nat) (old new : Byte)
  | stationBack (station : Nat)
  | callOffice (record : Nat) (address : Addr) (cls : CallClass) (reason : OfficeReason)
  | storeMode (old new : StoreMode) (source : ModeSource)
  | storedAbandoned (request : Nat)
  | pageEnded (reason : PageEnd)
deriving DecidableEq, Repr

/-- A notice as built (R185). -/
structure Notice where
  body : NoticeBody
  severity : Severity
  route : NoticeRoute
  seq : Nat
deriving DecidableEq, Repr

/-- Reply statuses (R179). -/
inductive Status where
  | done | clamped | refusedState | badIndex | badValue | busy | unknownOrder
deriving DecidableEq, Repr

/-- The part of RESET_SHAFT's condition that failed (R36). -/
inductive ClearedPart where
  | drive | landings | standstill
deriving DecidableEq, Repr

/-- States of the settings image (R187). -/
inductive ImageState where
  | valid | invalid | absent
deriving DecidableEq, Repr

/-- Per-port counters (R177). -/
structure PortCounters where
  good : Nat := 0
  noise : Nat := 0
  runt : Nat := 0
  long : Nat := 0
  length : Nat := 0
  check : Nat := 0
  overrun : Nat := 0
  trialDiscarded : Nat := 0
  sent : Nat := 0
  clash : Nat := 0
  abandoned : Nat := 0
  lateClash : Nat := 0
  flushed : Nat := 0
  discardedDown : Nat := 0
  refusedSafety : Nat := 0
  refusedNormal : Nat := 0
  streamDropped : Nat := 0
deriving DecidableEq, Repr

/-- Sticky error flags of a port (R166). -/
structure StickyFlags where
  noise : Bool := false
  runt : Bool := false
  long : Bool := false
  length : Bool := false
  check : Bool := false
  overrun : Bool := false
  lateClash : Bool := false
deriving DecidableEq, Repr

/-- What QUERY of a PORT reports beside the entry (R177). -/
structure PortView where
  state : PortState
  trial : Nat
  badRun : Nat
  safety : Nat
  stream : Nat
  normal : Nat
  counters : PortCounters
  sticky : StickyFlags
deriving DecidableEq, Repr

/-- Counters the Frame Exchange keeps once (R177). -/
structure ExchangeCounters where
  unknownDestination : Nat := 0
  samePort : Nat := 0
  notUp : Nat := 0
  forwarded : Nat := 0
  badPayload : Nat := 0
deriving DecidableEq, Repr

/-- What QUERY of MANAGEMENT returns (R182). -/
structure ManagementView where
  noticeQueue : Nat
  sticky : BitVec 23
  rejected : Nat
  badRequest : Nat
  noticeLost : Nat
  phraseBusy : Nat
  image : ImageState
  saving : Bool
  locked : Bool
  writing : Bool
deriving DecidableEq, Repr

/-- What a QUERY returns (R182). -/
inductive QueryData where
  | free
  | station (cfg : StationCfg) (live : StationLive) (effective : Abilities)
  | stationCounters (unknownSource mismatchDrop : Nat)
  | point (cfg : PointCfg) (live : PointLive)
  | pointCounters (unknownPoint : Nat)
  | zone (cfg : ZoneCfg) (live : ZoneLive)
  | shutter (cfg : ShutterCfg) (live : ShutterLive)
  | shutterCounters (unknownDrive : Nat)
  | route (r : Route)
  | shaft (g : Geometry) (live : Shaft) (bands : List (Nat × Nat))
  | sill (s : Sill)
  | schedule (e : ScheduleEntry) (stamp : Option Nat)
  | port (cfg : PortCfg) (live : PortView)
  | settings (g : Global)
  | noticeCfg (n : NoticeCfg)
  | clock (c : Clock)
  | store (d : Day)
  | call (r : CallRecord) (state : CallState) (pendingAt soundingAt : List Nat) (timeLeft : Option Micros)
  | callCounters (c : CallCounters)
  | sounder (a : Arbiter)
  | playback (p : Playback)
  | phrase (e : PhraseEntry) (v : PhraseValidity)
  | exchange (c : ExchangeCounters)
  | management (m : ManagementView)
deriving DecidableEq, Repr

/-- Whether the book's own figures show that a return fits one payload: the word FREE, counters of 16 bits each (R1, R7,
R59, R86, R117, R177), a directory entry of 8 bytes with its validity (R148), and the return of MANAGEMENT: a queue size of
0 to 16, 23 flags, four counters of 16 bits and the states of the Settings Loader (R182, R185, R186, R189 to R191). -/
def QueryData.fitsOne : QueryData → Bool
  | .free | .stationCounters _ _ | .pointCounters _ | .shutterCounters _ | .callCounters _ | .exchange _ | .phrase _ _
  | .management _ => true
  | _ => false

end Sys2Proof.Machine

namespace Sys2Proof.Config
open Sys2Proof.Machine

/-- The bytes of a return. R182 names what a return holds, and the book gives its fields no widths and no order: a free
value. See notes/assumptions/6.md. -/
opaque returnBytes : QueryData → List Byte

/-- The bytes of a settings image before its checksum: the format marker and every table. R187 names them and gives no
layout: a free value. See notes/assumptions/39.md. -/
opaque imageBytes : Tables → List Byte

end Sys2Proof.Config

namespace Sys2Proof.Machine

/-- What a REPLY carries beside its tag and status, as the owning rule names it (R179). A return of a QUERY that is divided
is carried piece by piece (R182). -/
inductive Detail where
  | none
  | activePoint (index : Nat)
  | failedPart (p : ClearedPart)
  | mode (m : StoreMode)
  | requestNumber (n : Nat)
  | writeFailed
  | test (passed : Bool)
  | data (d : QueryData)
  | piece (bytes : List Byte) (part parts : Nat)
deriving DecidableEq, Repr

/-- The payload of a frame the part sends: the bytes of R178; or, for REPLY and NOTICE, whose bytes the data book does
not lay out, what they carry. -/
inductive TxPayload where
  | raw (bytes : List Byte)
  | reply (tag : BitVec 16) (status : Status) (detail : Detail)
  | notice (n : Notice)
deriving DecidableEq, Repr

/-- What a sent report is about (R174): a timed TOLL frame of a sounder, the REPLY to RESTART, or nothing. -/
inductive Report where
  | none
  | toll (station token : Nat)
  | restart
deriving DecidableEq, Repr

/-- A frame of a transmit queue. -/
structure TxFrame where
  dest : Addr
  src : Addr
  kind : Byte
  payload : TxPayload
  report : Report := .none
deriving DecidableEq, Repr

/-- Queue classes (R172). -/
inductive QueueClass where
  | safety | stream | normal
deriving DecidableEq, Repr

/-- Where the frame in hand comes from: a KEEP, which is outside the queues, or the head of a queue (R174). -/
inductive HandSource where
  | keep
  | queue (c : QueueClass)
deriving DecidableEq, Repr

/-- How far the frame in hand has come (R174, R175). -/
inductive HandPhase where
  | deferring
  | sending
  | backoff (slots : Nat) (ends : Micros)
deriving DecidableEq, Repr

/-- The frame in hand (R174). -/
structure Hand where
  source : HandSource
  attempts : Nat := 0
  phase : HandPhase := .deferring
deriving DecidableEq, Repr

/-- The tag and the source of a request that is answered later (R179). -/
structure Ticket where
  tag : BitVec 16
  src : Addr
deriving DecidableEq, Repr

/-- A line test in progress: its ticket, its limit and the test frame the port sends to itself (R169). -/
structure LineTest where
  ticket : Ticket
  limit : Micros
  frame : Frame
deriving DecidableEq, Repr

/-- Live state of one line port (R167 to R177). -/
structure Port where
  state : PortState := .down
  trial : Nat := 0
  badRun : Nat := 0
  silence : Timer := none
  keepTimer : Timer := none
  keepDue : Bool := false
  safety : List TxFrame := []
  stream : List TxFrame := []
  normal : List TxFrame := []
  hand : Option Hand := none
  test : Option LineTest := none
  counters : PortCounters := {}
  sticky : StickyFlags := {}
deriving DecidableEq, Repr

/-- A running LEVEL repeat timer (R185). -/
structure NoticeTimer where
  key : NoticeKey
  body : NoticeBody
  due : Micros
deriving DecidableEq, Repr

/-- The notices and counters of the Management Unit (R188). -/
structure Management where
  queue : List Notice := []
  sticky : BitVec 23 := 0#23
  timers : List NoticeTimer := []
  seq : Nat := 0
  rejected : Nat := 0
  badRequest : Nat := 0
  noticeLost : Nat := 0
  phraseBusy : Nat := 0
deriving DecidableEq, Repr

/-- The part's way out to the store lines: its ports and its notices. -/
structure Net where
  ports : Tab Port 5 := Tab.replicate 5 {}
  mgmt : Management := {}
deriving DecidableEq, Repr

/-- The intake queue and the shared counters of the Frame Exchange (R170, R177). -/
structure Exchange where
  intake : List Received := []
  counters : ExchangeCounters := {}
deriving DecidableEq, Repr

/-! ## The Settings Loader and the phrase store (chapter 11) -/

/-- The contents of the settings EEPROM (R187): whether the format marker is right, the bytes before the checksum, the
16-bit checksum at the image's end, and the tables that the bytes carry. -/
structure Eeprom where
  marker : Bool := false
  body : List Byte := []
  checksum : BitVec 16 := 0#16
  tables : Tables := {}
deriving DecidableEq, Repr

/-- The sum modulo 65,536 of a run of bytes (R187). -/
def byteSum (bs : List Byte) : BitVec 16 := bs.foldl (fun n b => n + b.zeroExtend 16) 0#16

/-- Whether the checksum agrees with the bytes before it (R187). -/
def Eeprom.agrees (e : Eeprom) : Bool := decide (e.checksum = byteSum e.body)

/-- The contents that a save of some tables leaves behind it (R187, R189). -/
def Eeprom.holding (t : Tables) : Eeprom :=
  { marker := true, body := Config.imageBytes t, checksum := byteSum (Config.imageBytes t), tables := t }

/-- The contents with the checksum invalidated, by which a save begins (R189; notes/assumptions/39.md). -/
def Eeprom.spoilt (e : Eeprom) : Eeprom := { e with checksum := ~~~ byteSum e.body }

/-- A save in progress (R189). -/
structure Saving where
  ticket : Ticket
  snapshot : Tables
deriving DecidableEq, Repr

/-- A phrase write in progress (R191). -/
structure PhraseWrite where
  ticket : Ticket
  address : Nat
  data : List Byte
deriving DecidableEq, Repr

/-- The Settings Loader (R187 to R192). `restart` is the limit of a pending restart. -/
structure Settings where
  image : ImageState := .invalid
  eeprom : Eeprom := {}
  saving : Option Saving := none
  locked : Bool := false
  writing : Option PhraseWrite := none
  restart : Timer := none
deriving DecidableEq, Repr

/-- The phrase store: the bytes written, in canonical form (R148). -/
structure PhraseStore where
  cells : List Host.Cell := []
deriving DecidableEq, Repr

end Sys2Proof.Machine
end

