-- ==== Sys2Proof/Machine/State.lean ====
section
/-! DEFINITION. The state of the GS316, its faults and refusals, and the state right after power-on. -/

namespace Sys2Proof.Machine

/-- The state of the part. Fields below the line are the model's own, not the data book's. -/
structure State where
  /-- The loaded tables (R187). -/
  tables : Tables := {}
  /-- Whether the tables are in place (R188): clear from power-on or the reset pin until the autoload ends. -/
  inPlace : Bool := false
  /-- Live fields of the station records (R2). -/
  stations : Tab StationLive 96 := Tab.replicate 96 {}
  /-- The unknown-source and mismatch-drop counters (R7). -/
  unknownSource : Nat := 0
  mismatchDrop : Nat := 0
  /-- Live state of the shafts (R37, R56). -/
  shafts : Tab Shaft 2 := Tab.replicate 2 {}
  /-- Live fields of the point records, and the unknown-point counter (R57, R59). -/
  points : Tab PointLive 128 := Tab.replicate 128 {}
  unknownPoint : Nat := 0
  /-- Live fields of the zones (R62). -/
  zones : Tab ZoneLive 16 := Tab.replicate 16 {}
  /-- Live fields of the shutter records, and the unknown-drive counter (R76, R86). -/
  shutters : Tab ShutterLive 32 := Tab.replicate 32 {}
  unknownDrive : Nat := 0
  /-- The Call Router (R117). -/
  calls : Calls := {}
  /-- The arbiters, under the index of their sounder's station record (R119). -/
  arbiters : Tab (Option Arbiter) 96 := Tab.replicate 96 none
  /-- The Store Clock (R132). -/
  clock : Clock := {}
  /-- The Day Sequencer (R140). -/
  day : Day := {}
  /-- The Playback Unit (R164). -/
  playback : Playback := {}
  /-- The ports and the notices (R177, R188). -/
  net : Net := {}
  /-- The intake queue and the shared counters of the Frame Exchange (R177). -/
  exchange : Exchange := {}
  /-- The Settings Loader with the settings EEPROM (R187). -/
  settings : Settings := {}
  /-- The phrase store (R148). -/
  store : PhraseStore := {}
  ------------------------------------------------------------------
  /-- The commands waiting, first in, first out. -/
  pending : List Instr := []
  /-- The present moment, in bit times since the first power-on (notes/assumptions/3.md). -/
  now : Micros := 0
  /-- How many free values have been drawn (notes/assumptions/5.md). -/
  draws : Nat := 0
  /-- How many TOLL frames have been marked for their sent report (notes/assumptions/9.md). -/
  tokens : Nat := 0
deriving DecidableEq, Repr

/-- Why a step stops the machine. -/
inductive Fault where
  /-- Raised by BLOCK_MOMENT when the next samples of the playing phrase lie outside the phrase store's 8,388,608 bytes
  (R148: addresses 000000h to 7FFFFFh). Only VALID entries are played, so no run from reset reaches it. Safe: the model
  stops where the data book says there is no address. -/
  | phraseStoreAddress
deriving DecidableEq, Repr

/-- Why a command has no meaning. -/
inductive Refusal where
  /-- Raised by `exec`'s arm of a command that has no meaning yet. No arm raises it now. Safe: the model stops. -/
  | notModelled (mnemonic : String)
deriving DecidableEq, Repr

/-- The part right after power-on (R188): the tables not yet in place, every live state at its starting value, the
store clock lost (R132), the EEPROM and the phrase store as notes/assumptions/10.md says, no command waiting. -/
def State.reset : State := {}

end Sys2Proof.Machine
end

