-- ==== Sys2Proof/Machine/Flags.lean ====
section
/-! DEFINITION. Counters, sticky error flags and fault sets: how each is counted, set and cleared. -/

namespace Sys2Proof.Machine

/-- A 16-bit counter after one more event: it holds at 65,535 (R1). -/
def bump (c : Nat) : Nat := if c < Config.counterMax then c + 1 else c

/-- A 16-bit counter after `k` more events (R1). -/
def bumpBy (k : Nat) (c : Nat) : Nat := if c + k < Config.counterMax then c + k else max c Config.counterMax

/-- A repeat count after one more event: it holds at 255 (R1). -/
def bumpRepeat (c : Nat) : Nat := if c < 255 then c + 1 else c

/-- The next number of a 16-bit number sequence, which wraps from 65,535 to 0 (R100, R155). -/
def nextNumber (n : Nat) : Nat := (n + 1) % 65536

/-- The checks of a receiver that give a bad or an overrun frame (R166). -/
inductive LineCheck where
  | noise | runt | long | length | check | overrun
deriving DecidableEq, Repr

/-- A port's counters with one failure of a check counted (R166). -/
def PortCounters.count (c : PortCounters) : LineCheck → PortCounters
  | .noise => { c with noise := bump c.noise }
  | .runt => { c with runt := bump c.runt }
  | .long => { c with long := bump c.long }
  | .length => { c with length := bump c.length }
  | .check => { c with check := bump c.check }
  | .overrun => { c with overrun := bump c.overrun }

/-- A port's sticky flags with the flag of a check set (R166). -/
def StickyFlags.note (f : StickyFlags) : LineCheck → StickyFlags
  | .noise => { f with noise := true }
  | .runt => { f with runt := true }
  | .long => { f with long := true }
  | .length => { f with length := true }
  | .check => { f with check := true }
  | .overrun => { f with overrun := true }

/-- Whether a fault is in a fault set (R76). -/
def FaultSet.has (f : FaultSet) : ShutterFault → Bool
  | .noResponse => f.noResponse
  | .slow => f.slow
  | .jammed => f.jammed
  | .comms => f.comms
  | .unexpected => f.unexpected

/-- A fault set with one fault in it or out of it (R79). -/
def FaultSet.put (f : FaultSet) (on : Bool) : ShutterFault → FaultSet
  | .noResponse => { f with noResponse := on }
  | .slow => { f with slow := on }
  | .jammed => { f with jammed := on }
  | .comms => { f with comms := on }
  | .unexpected => { f with unexpected := on }

/-- The place of a notice kind in the sticky request flags, and its GLOBAL entry less one (R184). -/
def noticeIndex : NoticeKind → Nat
  | .zoneState => 0
  | .zonePoint => 1
  | .shaftTrip => 2
  | .shutterForced => 3
  | .safetyRefused => 4
  | .evacUnavailable => 5
  | .stationLost => 6
  | .roleMismatch => 7
  | .zoneFault => 8
  | .shutterFault => 9
  | .shaftUnclearable => 10
  | .shaftDegraded => 11
  | .portState => 12
  | .clockInvalid => 13
  | .storeInvalid => 14
  | .shaftHeld => 15
  | .shutterState => 16
  | .stationStatus => 17
  | .stationBack => 18
  | .callOffice => 19
  | .storeMode => 20
  | .storedAbandoned => 21
  | .pageEnded => 22

/-- The fixed severity of a notice kind (R184). -/
def noticeSeverity : NoticeKind → Severity
  | .zoneState | .zonePoint | .shaftTrip | .shutterForced | .safetyRefused | .evacUnavailable => .alarm
  | .stationLost | .roleMismatch | .zoneFault | .shutterFault | .shaftUnclearable | .shaftDegraded
  | .portState | .clockInvalid | .storeInvalid => .fault
  | .shaftHeld | .shutterState | .stationStatus | .stationBack | .callOffice | .storeMode
  | .storedAbandoned | .pageEnded => .info

/-- Whether a notice kind has a standing condition for LEVEL (R184). -/
def noticeHasCondition : NoticeKind → Bool
  | .zonePoint | .safetyRefused | .shaftUnclearable | .shutterState | .stationStatus | .stationBack
  | .storeMode | .storedAbandoned | .pageEnded => false
  | _ => true

/-- The sticky request flags with one kind's flag set (R185). -/
def setSticky (f : BitVec 23) (k : NoticeKind) : BitVec 23 := f ||| BitVec.ofNat 23 (2 ^ noticeIndex k)

/-- The number of a shutter fault as part of a notice's object (R185). -/
def ShutterFault.index : ShutterFault → Nat
  | .noResponse => 0
  | .slow => 1
  | .jammed => 2
  | .comms => 3
  | .unexpected => 4

/-- The kind and object of a notice (R185). The object of a SHUTTER_FAULT is the shutter together with the fault, so that
each fault of a shutter has a repeat timer of its own: the model's choice (R79; notes/assumptions/43.md). -/
def NoticeBody.key : NoticeBody → NoticeKey
  | .zoneState z _ _ _ _ => { kind := .zoneState, object := z }
  | .zonePoint z _ => { kind := .zonePoint, object := z }
  | .shaftTrip k _ => { kind := .shaftTrip, object := k }
  | .shutterForced i => { kind := .shutterForced, object := i }
  | .safetyRefused p _ _ => { kind := .safetyRefused, object := p }
  | .evacUnavailable z => { kind := .evacUnavailable, object := z }
  | .stationLost i => { kind := .stationLost, object := i }
  | .roleMismatch i => { kind := .roleMismatch, object := i }
  | .zoneFault z _ => { kind := .zoneFault, object := z }
  | .shutterFault i f _ => { kind := .shutterFault, object := i, part := f.index }
  | .shaftUnclearable k => { kind := .shaftUnclearable, object := k }
  | .shaftDegraded k _ => { kind := .shaftDegraded, object := k }
  | .portState p _ => { kind := .portState, object := p }
  | .clockInvalid => { kind := .clockInvalid, object := 0 }
  | .storeInvalid => { kind := .storeInvalid, object := 0 }
  | .shaftHeld k _ _ => { kind := .shaftHeld, object := k }
  | .shutterState i _ _ => { kind := .shutterState, object := i }
  | .stationStatus i _ _ => { kind := .stationStatus, object := i }
  | .stationBack i => { kind := .stationBack, object := i }
  | .callOffice n _ _ _ => { kind := .callOffice, object := n }
  | .storeMode _ _ _ => { kind := .storeMode, object := 0 }
  | .storedAbandoned n => { kind := .storedAbandoned, object := n }
  | .pageEnded _ => { kind := .pageEnded, object := 0 }

end Sys2Proof.Machine
end

