-- ==== Sys2Proof/Machine/Operands.lean ====
section
/-! DEFINITION. How frames and payloads are read and written, byte by byte: the check of R165, the judging of a
received frame (R166), and the payloads of the central kinds (R178). -/

namespace Sys2Proof.Machine

/-! ### Frame kinds (R178) -/

namespace Kind
def keep : Byte := 0x01#8
def beat : Byte := 0x02#8
def detect : Byte := 0x10#8
def shut : Byte := 0x11#8
def shutstat : Byte := 0x12#8
def landing : Byte := 0x18#8
def lamp : Byte := 0x19#8
def call : Byte := 0x20#8
def callAck : Byte := 0x21#8
def showList : Byte := 0x22#8
def toll : Byte := 0x23#8
def samples : Byte := 0x30#8
def tune : Byte := 0x31#8
def setup : Byte := 0x40#8
def query : Byte := 0x41#8
def order : Byte := 0x42#8
def reply : Byte := 0x48#8
def notice : Byte := 0x49#8
end Kind

/-- The kinds that are tapped when addressed to the part (R170). -/
def tappedKinds : List Byte :=
  [Kind.beat, Kind.detect, Kind.shutstat, Kind.landing, Kind.call, Kind.callAck, Kind.samples,
   Kind.setup, Kind.query, Kind.order]

/-- The fixed payload length of a tapped kind; SETUP, QUERY and ORDER have none (R170, R178). -/
def fixedLength (kind : Byte) : Option Nat :=
  if kind = Kind.beat then some 3
  else if kind = Kind.detect then some 2
  else if kind = Kind.shutstat then some 2
  else if kind = Kind.landing then some 2
  else if kind = Kind.call then some 2
  else if kind = Kind.callAck then some 3
  else if kind = Kind.samples then some 37
  else none

/-! ### The check and the receiver -/

/-- The CRC register after one bit step: polynomial x^16 + x^12 + x^5 + 1 (R165). -/
def crcShift (c : BitVec 16) : BitVec 16 :=
  if c.msb then (c <<< 1) ^^^ 0x1021#16 else c <<< 1

/-- The CRC register after one byte, most significant bit first (R165). -/
def crcByte (c : BitVec 16) (b : Byte) : BitVec 16 :=
  crcShift (crcShift (crcShift (crcShift (crcShift (crcShift (crcShift (crcShift
    (c ^^^ (b.zeroExtend 16 <<< 8)))))))))

/-- The check over a run of bytes: initial value FFFFh, no final inversion (R165). -/
def crc (bs : List Byte) : BitVec 16 := bs.foldl crcByte 0xFFFF#16

/-- Two bytes, high byte first, as one 16-bit value (R165). -/
def word16 (hi lo : Byte) : BitVec 16 := hi ++ lo

/-- A 16-bit value as two bytes, high byte first (R165). -/
def bytes16 (w : BitVec 16) : List Byte := [w.extractLsb' 8 8, w.extractLsb' 0 8]

/-- The bytes of a frame after the mark (R165, R178). -/
def Frame.bytes (f : Frame) : List Byte :=
  let body := bytes16 f.dest ++ bytes16 f.src ++ [f.kind, BitVec.ofNat 8 f.payload.length] ++ f.payload
  body ++ bytes16 (crc body)

/-- What the receiver makes of a line event: a good frame, or the first check that fails (R166). OVERRUN is judged
with the intake queue. -/
def judgeLine : LineEvent → Except LineCheck Frame
  | .noMark => .error .noise
  | .bytes bs =>
    if bs.length < 8 then .error .runt
    else if 56 < bs.length then .error .long
    else match bs with
      | d1 :: d0 :: s1 :: s0 :: k :: len :: rest =>
        if bs.length ≠ 8 + len.toNat then .error .length
        else if bytes16 (crc (bs.take (bs.length - 2))) ≠ bs.drop (bs.length - 2) then .error .check
        else .ok { dest := word16 d1 d0, src := word16 s1 s0, kind := k, payload := rest.take len.toNat }
      | _ => .error .runt

/-! ### Payloads the part receives (R178) -/

/-- The role a code names, if it is one of the nine (R178). -/
def roleOfCode : Nat → Option Role
  | 1 => some .callPoint
  | 2 => some .annunciator
  | 3 => some .sounder
  | 4 => some .shutterDrive
  | 5 => some .landingStation
  | 6 => some .detectionPanel
  | 7 => some .speaker
  | 8 => some .console
  | 9 => some .other
  | _ => none

/-- The abilities byte of a BEAT: bit 0 CHIME, bit 1 FADE, other bits ignored. -/
def abilitiesOfByte (b : Byte) : Abilities := { chime := b.getLsbD 0, fade := b.getLsbD 1 }

/-- The state byte of a DETECT. -/
def PointState.ofByte (b : Byte) : Option PointState :=
  match b.toNat with
  | 0 => some .normal
  | 1 => some .prealarm
  | 2 => some .alarm
  | 3 => some .manual
  | 4 => some .fault
  | _ => none

/-- The position byte of a SHUTSTAT. -/
def CurtainPos.ofByte (b : Byte) : Option CurtainPos :=
  match b.toNat with
  | 0 => some .openEnd
  | 1 => some .descending
  | 2 => some .closedEnd
  | 3 => some .raising
  | 4 => some .stoppedMid
  | 5 => some .jammed
  | _ => none

/-- The class byte of a CALL and of a CALL_ACK. -/
def CallClass.ofByte (b : Byte) : Option CallClass :=
  match b.toNat with
  | 0 => some .service
  | 1 => some .cash
  | 2 => some .floorwalker
  | 3 => some .urgent
  | _ => none

/-- The code of a call class. -/
def CallClass.code : CallClass → Byte
  | .service => 0#8
  | .cash => 1#8
  | .floorwalker => 2#8
  | .urgent => 3#8

/-- Two samples from three bytes: the high 8 bits of the first; its low 4 bits then the high 4 bits of the second; the
low 8 bits of the second. -/
def samplePair (x y z : Byte) : List Sample :=
  [x ++ y.extractLsb' 4 4, y.extractLsb' 0 4 ++ z]

/-- The samples packed two to three bytes. -/
def unpackSamples : List Byte → List Sample
  | x :: y :: z :: rest => samplePair x y z ++ unpackSamples rest
  | _ => []

/-! ### Payloads the part sends (R178) -/

/-- Samples packed two to three bytes. -/
def packSamples : List Sample → List Byte
  | p :: q :: rest =>
    [p.extractLsb' 4 8, p.extractLsb' 0 4 ++ q.extractLsb' 8 4, q.extractLsb' 0 8] ++ packSamples rest
  | _ => []

/-- The payload of a SHUT frame: 0 RELEASE, 1 RAISE, 2 HALT. -/
def ShutCommand.payload : ShutCommand → List Byte
  | .release => [0#8]
  | .raise => [1#8]

/-- The payload of the SHUT frame that carries HALT. -/
def haltPayload : List Byte := [2#8]

/-- The payload of a LAMP frame. -/
def Lamp.payload : Lamp → List Byte
  | .board => [0#8]
  | .noBoard => [1#8]
  | .flash => [2#8]

/-- The payload of a TOLL frame. -/
def Toll.payload : Toll → List Byte
  | .stop => [0#8, 0#8, 0#8]
  | .timed (.strokes n r) => [1#8, BitVec.ofNat 8 n, BitVec.ofNat 8 r]
  | .timed (.chime r) => [2#8, 0#8, BitVec.ofNat 8 r]
  | .continuous => [3#8, 0#8, 0#8]

/-- The payload of a TUNE frame. -/
def tunePayload (c : Chan) (fade : Bool) : List Byte :=
  [match c with | .none => 0#8 | .evac => 1#8 | .page => 2#8 | .stored => 3#8, if fade then 1#8 else 0#8]

/-- One entry of a SHOW frame. -/
def ShowEntry.payload (e : ShowEntry) : List Byte :=
  bytes16 e.address ++ [BitVec.ofNat 8 e.bellCode, e.cls.code, if e.escalated then 1#8 else 0#8, BitVec.ofNat 8 e.repeats]

/-- The payload of a SHOW frame. -/
def ShowList.payload (l : ShowList) : List Byte :=
  [BitVec.ofNat 8 l.entries.length, BitVec.ofNat 8 l.total] ++ l.entries.flatMap ShowEntry.payload

/-- The payload of a SAMPLES frame. -/
def samplesPayload (block : Nat) (samples : List Sample) : List Byte :=
  BitVec.ofNat 8 block :: packSamples samples

/-- The payload of a CALL_ACK to a call point: one byte, "answered". -/
def answeredPayload : List Byte := [1#8]

/-- The channel groups of SAMPLES frames (R165). -/
def evacGroup : Addr := 0xFFA1#16
def pageGroup : Addr := 0xFFA2#16
def storedGroup : Addr := 0xFFA3#16

/-- The entry index or object number, byte 3 of a SETUP, QUERY or ORDER payload. -/
def requestIndex : List Byte → Option Nat
  | _ :: _ :: _ :: b :: _ => some b.toNat
  | _ => none

/-- The request tag, bytes 0 to 1 of a SETUP, QUERY or ORDER payload. -/
def requestTag : List Byte → BitVec 16
  | hi :: lo :: _ => word16 hi lo
  | _ => 0#16

end Sys2Proof.Machine
end

