-- ==== Sys2Proof/Machine/Ops.lean ====
section
/-! DEFINITION. The shared operations: reading and writing records, the phrase store's bytes, offering frames to a
port's transmit queues (R172, R174), requesting and dispatching notices (R185, R186), and replies (R179). -/

namespace Sys2Proof.Machine

/-! ### Records of the tables and their live parts -/

/-- The configured fields of a station record in use. -/
def State.station (s : State) (i : Nat) : Option StationCfg := s.tables.stations.at? i

/-- The live fields of a station record. -/
def State.stationLive (s : State) (i : Nat) : StationLive := s.stations.getD i {}

/-- The configured fields of a point record in use. -/
def State.point (s : State) (i : Nat) : Option PointCfg := s.tables.points.at? i

/-- The live fields of a point record. -/
def State.pointLive (s : State) (i : Nat) : PointLive := s.points.getD i {}

/-- The configured fields of a zone. -/
def State.zoneCfg (s : State) (z : Nat) : ZoneCfg := s.tables.zones.getD z {}

/-- The live fields of a zone. -/
def State.zone (s : State) (z : Nat) : ZoneLive := s.zones.getD z {}

/-- The configured fields of a shutter record in use. -/
def State.shutter (s : State) (i : Nat) : Option ShutterCfg := s.tables.shutters.at? i

/-- The live fields of a shutter record. -/
def State.shutterLive (s : State) (i : Nat) : ShutterLive := s.shutters.getD i {}

/-- The geometry record of a shaft. -/
def State.geometry (s : State) (k : Nat) : Geometry := (s.tables.shafts.getD k {}).geometry

/-- The in-use sills of a shaft, by increasing index. -/
def State.sills (s : State) (k : Nat) : List Sill := (s.tables.shafts.getD k {}).sills.cells.filterMap id

/-- The live state of a shaft. -/
def State.shaft (s : State) (k : Nat) : Shaft := s.shafts.getD k {}

/-- The live state of a port. -/
def State.port (s : State) (p : Nat) : Port := s.net.ports.getD p {}

/-- The arbiter of a sounder, while it is in being. -/
def State.arbiter (s : State) (i : Nat) : Option Arbiter := s.arbiters.at? i

/-- GLOBAL entry 0. -/
def State.globals (s : State) : Global := s.tables.globals

/-- A change of one station's live fields. -/
def State.modStation (s : State) (i : Nat) (f : StationLive → StationLive) : State :=
  { s with stations := s.stations.modify i f }

/-- A change of one point's live fields. -/
def State.modPoint (s : State) (i : Nat) (f : PointLive → PointLive) : State :=
  { s with points := s.points.modify i f }

/-- A change of one zone's live fields. -/
def State.modZone (s : State) (z : Nat) (f : ZoneLive → ZoneLive) : State :=
  { s with zones := s.zones.modify z f }

/-- A change of one shutter's live fields. -/
def State.modShutter (s : State) (i : Nat) (f : ShutterLive → ShutterLive) : State :=
  { s with shutters := s.shutters.modify i f }

/-- A change of one shaft's live state. -/
def State.modShaft (s : State) (k : Nat) (f : Shaft → Shaft) : State :=
  { s with shafts := s.shafts.modify k f }

/-- A change of one arbiter, if it is in being. -/
def State.modArbiter (s : State) (i : Nat) (f : Arbiter → Arbiter) : State :=
  { s with arbiters := s.arbiters.modify i (Option.map f) }

/-- A change of the Call Router's state. -/
def State.modCalls (s : State) (f : Calls → Calls) : State := { s with calls := f s.calls }

/-- A change of the Playback Unit's state. -/
def State.modPlayback (s : State) (f : Playback → Playback) : State := { s with playback := f s.playback }

/-- A change of the Playback Unit's counters. -/
def State.countPlayback (s : State) (f : PlaybackCounters → PlaybackCounters) : State :=
  s.modPlayback fun p => { p with counters := f p.counters }

/-- A change of the Day Sequencer's state. -/
def State.modDay (s : State) (f : Day → Day) : State := { s with day := f s.day }

/-- A change of the Store Clock. -/
def State.modClock (s : State) (f : Clock → Clock) : State := { s with clock := f s.clock }

/-- A change of the Settings Loader's state. -/
def State.modSettings (s : State) (f : Settings → Settings) : State := { s with settings := f s.settings }

/-- A change of one port. -/
def State.modPort (s : State) (p : Nat) (f : Port → Port) : State :=
  { s with net := { s.net with ports := s.net.ports.modify p f } }

/-- A change of the Management Unit's notices and counters. -/
def State.modMgmt (s : State) (f : Management → Management) : State :=
  { s with net := { s.net with mgmt := f s.net.mgmt } }

/-- `f` done for each index of a list, in its order. -/
def State.forEach (s : State) (is : List Nat) (f : State → Nat → State) : State := is.foldl f s

/-! ### Time -/

/-- Crystal cycles counted by the tick divider, up to the length of the present period (R132). None are counted while the
crystal stands (R134). -/
def Clock.count (c : Clock) (cycles : Nat) : Clock :=
  if c.running then { c with divider := max c.divider (min c.period (c.divider + cycles)) } else c

/-- The state at the moment an event falls due. An event of a timer says that the timer's time has passed (R1), so the
present moment is then no earlier than the timer's (notes/assumptions/3.md). The tick divider counts the crystal cycles of
the time that passes (R132; notes/assumptions/4.md). -/
def State.reach (s : State) (t : Micros) : State :=
  { s with now := max s.now t, clock := s.clock.count (Config.crystalCycles (max s.now t) - Config.crystalCycles s.now) }

/-- The timer that starts now and runs for a length of time. -/
def State.after (s : State) (len : Micros) : Timer := some (s.now + len)

/-! ### Stations -/

/-- The index of the in-use station record that holds an address (R7). No two hold the same one (R4). -/
def State.findStation (s : State) (a : Addr) : Option Nat :=
  firstIndex 96 fun i => (s.station i).any fun c => decide (c.address = a)

/-- Whether a station record is in use and PRESENT. UNKNOWN, MISSING and MISMATCH count as not present (R13). -/
def State.isPresent (s : State) (i : Nat) : Bool :=
  (s.station i).isSome && decide ((s.stationLive i).presence = .present)

/-- The effective abilities of a station: configured ∩ advertised (R2). -/
def State.effective (s : State) (i : Nat) : Abilities :=
  match s.station i with
  | none => {}
  | some c =>
    let l := s.stationLive i
    { chime := c.abilities.chime && l.advertised.chime, fade := c.abilities.fade && l.advertised.fade }

/-- The in-use station records of a role, by increasing index. -/
def State.stationsOf (s : State) (r : Role) : List Nat :=
  indicesWhere 96 fun i => (s.station i).any fun c => decide (c.role = r)

/-- The in-use station records of a role that belong to a zone (R3). -/
def State.stationsIn (s : State) (r : Role) (z : Nat) : List Nat :=
  indicesWhere 96 fun i => (s.station i).any fun c => decide (c.role = r ∧ c.zone = some z)

/-- Whether a zone is in the alarm overlay: ALARM, SILENCED or RESETTING (R140). -/
def State.overlay (s : State) (z : Nat) : Bool :=
  match (s.zone z).state with
  | .alarm | .silenced | .resetting => true
  | _ => false

/-- Whether an optional zone is in the alarm overlay; no zone is not. -/
def State.overlayOf (s : State) (z : Option Nat) : Bool := z.any s.overlay

/-- The zones in the alarm overlay (R140). -/
def State.overlayMask (s : State) : ZoneMask :=
  (indicesWhere 16 s.overlay).foldl (fun m z => m ||| ZoneMask.single z) 0#16

/-! ### The phrase store -/

namespace PhraseStore

/-- What a byte that nothing has written reads as: an erased store reads FFh throughout (R148). -/
def erased : Byte := 0xFF#8

/-- The byte at an address in a list of cells. -/
def readCells : List Host.Cell → Nat → Byte
  | [], _ => erased
  | (x, b) :: rest, a => if x = a then b else readCells rest a

/-- The byte at an address. -/
def read (m : PhraseStore) (a : Nat) : Byte := readCells m.cells a

/-- A list of cells with one byte written: addresses stay strictly rising, and an erased byte is not listed. -/
def writeCells (a : Nat) (b : Byte) : List Host.Cell → List Host.Cell
  | [] => if b = erased then [] else [(a, b)]
  | (x, c) :: rest =>
    if a < x then (if b = erased then (x, c) :: rest else (a, b) :: (x, c) :: rest)
    else if a = x then (if b = erased then rest else (a, b) :: rest)
    else (x, c) :: writeCells a b rest

/-- The store with one byte written. -/
def write (m : PhraseStore) (a : Nat) (b : Byte) : PhraseStore := { cells := writeCells a b m.cells }

/-- The store with a run of bytes written from an address on. -/
def writeRun (m : PhraseStore) (a : Nat) : List Byte → PhraseStore
  | [] => m
  | b :: rest => (m.write a b).writeRun (a + 1) rest

/-- The bytes of a run of `n` addresses. -/
def readRun (m : PhraseStore) (a n : Nat) : List Byte := (List.range n).map fun k => m.read (a + k)

/-- The canonical form of a list of cells: every address above `lo`, strictly rising, no erased byte listed. -/
def wfCells : Nat → List Host.Cell → Bool
  | _, [] => true
  | lo, (x, b) :: rest => decide (lo ≤ x) && decide (b ≠ erased) && wfCells (x + 1) rest

/-- The canonical form of the store. -/
def wf (m : PhraseStore) : Bool := wfCells 0 m.cells

end PhraseStore

/-! ### Taking a frame to send (R174) -/

/-- A port in UP with no frame in hand takes its next frame: a due KEEP, else the head of SAFETY, STREAM, NORMAL (R174). -/
def Port.pick (p : Port) : Port :=
  if p.state = .up ∧ p.hand = none then
    if p.keepDue then { p with keepDue := false, hand := some { source := .keep } }
    else if p.safety ≠ [] then { p with hand := some { source := .queue .safety } }
    else if p.stream ≠ [] then { p with hand := some { source := .queue .stream } }
    else if p.normal ≠ [] then { p with hand := some { source := .queue .normal } }
    else p
  else p

/-- Whether the frame in hand is the head of a queue. -/
def Port.inHandFrom (p : Port) (c : QueueClass) : Bool := p.hand.any fun h => decide (h.source = .queue c)

/-- The STREAM queue less its oldest frame that is not in hand (R172). -/
def Port.dropStream (p : Port) : List TxFrame :=
  match p.stream with
  | [] => []
  | f :: rest => if p.inHandFrom .stream then f :: rest.drop 1 else rest

/-- Whether an offer of a SAFETY frame would be refused by a full queue (R172). -/
def Port.refusesSafety (p : Port) (c : QueueClass) : Bool :=
  decide (c = .safety ∧ (p.state = .trial ∨ p.state = .up) ∧ Config.safetySize ≤ p.safety.length)

/-- Whether a port takes a frame offered in a class: a port in TRIAL or UP whose queue has room, a full STREAM queue giving up
its oldest frame (R172). -/
def Port.accepts (p : Port) (c : QueueClass) : Bool :=
  decide (p.state = .trial ∨ p.state = .up) &&
    match c with
    | .safety => decide (p.safety.length < Config.safetySize)
    | .normal => decide (p.normal.length < Config.normalSize)
    | .stream => true

/-- A frame offered to a port's transmit queues (R172); an idle port in UP takes it in hand at once (R174). -/
def Port.offer (p : Port) (c : QueueClass) (f : TxFrame) : Port :=
  match p.state with
  | .down | .loop => { p with counters := { p.counters with discardedDown := bump p.counters.discardedDown } }
  | .trial | .up =>
    match c with
    | .safety =>
      if p.safety.length < Config.safetySize then Port.pick { p with safety := p.safety ++ [f] }
      else { p with counters := { p.counters with refusedSafety := bump p.counters.refusedSafety } }
    | .normal =>
      if p.normal.length < Config.normalSize then Port.pick { p with normal := p.normal ++ [f] }
      else { p with counters := { p.counters with refusedNormal := bump p.counters.refusedNormal } }
    | .stream =>
      if p.stream.length < Config.streamSize then Port.pick { p with stream := p.stream ++ [f] }
      else Port.pick { p with
        stream := p.dropStream ++ [f]
        counters := { p.counters with streamDropped := bump p.counters.streamDropped } }

/-! ### Notices (R185, R186) -/

/-- The addresses a notice's route leads to: one frame for each, FFFFh when the console list is empty (R186). -/
def noticeDests (g : Global) (r : NoticeRoute) : List Addr :=
  if g.console0 = none ∧ g.console1 = none then [Config.allStations]
  else match r with
    | .console0 => g.console0.toList
    | .console1 => g.console1.toList
    | .both => if g.console0 = g.console1 then g.console0.toList else g.console0.toList ++ g.console1.toList

/-- The frame that carries a notice to an address. -/
def noticeFrame (g : Global) (n : Notice) (a : Addr) : TxFrame :=
  { dest := a, src := g.own, kind := Kind.notice, payload := .notice n }

/-- Notices leave the head of the queue while L4 is UP and its NORMAL queue has room for every copy; a notice whose
route makes no frame is counted lost (R186). -/
def dispatchFrom (g : Global) : List Notice → Net → Net
  | [], n => { n with mgmt := { n.mgmt with queue := [] } }
  | q :: rest, n =>
    let p := n.ports.getD Config.officePort {}
    let copies := (noticeDests g q.route).map (noticeFrame g q)
    if p.state = .up ∧ p.normal.length + copies.length ≤ Config.normalSize then
      dispatchFrom g rest
        { ports := n.ports.modify Config.officePort fun p => copies.foldl (fun p f => p.offer .normal f) p
          mgmt := if copies = [] then { n.mgmt with noticeLost := bump n.mgmt.noticeLost } else n.mgmt }
    else { n with mgmt := { n.mgmt with queue := q :: rest } }

/-- The head notice is tried (R186). -/
def Net.dispatch (g : Global) (n : Net) : Net := dispatchFrom g n.mgmt.queue n

/-- The order of severities: 0 is the lowest. -/
def Severity.rank : Severity → Nat
  | .info => 0
  | .fault => 1
  | .alarm => 2

/-- The lowest severity among notices. -/
def lowestRank (ns : List Notice) : Nat := ns.foldl (fun r n => min r n.severity.rank) 2

/-- A list of notices less its oldest one of a severity. -/
def dropOldest (r : Nat) : List Notice → List Notice
  | [] => []
  | n :: rest => if n.severity.rank = r then rest else n :: dropOldest r rest

/-- A notice joins the notice queue. Among 17 notices the oldest of the lowest severity is dropped (R186). -/
def Management.join (m : Management) (n : Notice) : Management :=
  let all := m.queue ++ [n]
  if m.queue.length < Config.noticeSize then { m with queue := all }
  else { m with queue := dropOldest (lowestRank all) all, noticeLost := bump m.noticeLost }

/-- A notice is built, with the next sequence number (8-bit), and joins the queue (R185 step 3). The number is
incremented before it is used, so the first notice after a reset carries 1: the model's choice (notes/assumptions/43.md). -/
def Management.build (m : Management) (c : NoticeCfg) (b : NoticeBody) : Management :=
  let seq := (m.seq + 1) % 256
  Management.join { m with seq := seq }
    { body := b, severity := noticeSeverity b.key.kind, route := c.route, seq := seq }

/-- The repeat timer of a notice's kind and object started, or started again from zero (R185 step 4). -/
def Management.startRepeat (m : Management) (now : Micros) (b : NoticeBody) : Management :=
  { m with timers := { key := b.key, body := b, due := now + Config.noticeRepeat } ::
      m.timers.filter fun t => decide (t.key ≠ b.key) }

/-- The configuration entry of a notice kind (R184). -/
def Tables.notice (t : Tables) (k : NoticeKind) : NoticeCfg := t.notices.getD (noticeIndex k) {}

/-- A notice request (R185), in the step in which it is made. -/
def Net.request (t : Tables) (now : Micros) (b : NoticeBody) (n : Net) : Net :=
  let k := b.key.kind
  let c := t.notice k
  let m := { n.mgmt with sticky := setSticky n.mgmt.sticky k }
  if c.enable then
    let m := m.build c b
    let m := if c.mode = .level ∧ noticeHasCondition k = true then m.startRepeat now b else m
    Net.dispatch t.globals { n with mgmt := m }
  else { n with mgmt := m }

/-- A notice request by a block of the part. -/
def State.notify (s : State) (b : NoticeBody) : State := { s with net := s.net.request s.tables s.now b }

/-- The repeat timers of an object stop when the object ceases (R185). -/
def State.dropRepeats (s : State) (kinds : List NoticeKind) (object : Nat) : State :=
  s.modMgmt fun m => { m with timers := m.timers.filter fun t => !(kinds.contains t.key.kind && t.key.object == object) }

/-! ### Frames the part sends -/

/-- A frame offered to a port in a class (R172). A refused SAFETY frame requests a SAFETY_REFUSED notice. -/
def State.offer (s : State) (port : Nat) (c : QueueClass) (f : TxFrame) : State :=
  let refused := (s.port port).refusesSafety c
  let s := s.modPort port fun p => p.offer c f
  if refused then s.notify (.safetyRefused port f.kind f.dest) else s

/-- A frame of the part to a station record, queued to its home port (R165, R178). -/
def State.sendTo (s : State) (i : Nat) (c : QueueClass) (kind : Byte) (bytes : List Byte) (report : Report := .none) : State :=
  match s.station i with
  | none => s
  | some cfg => s.offer cfg.homePort c
      { dest := cfg.address, src := s.globals.own, kind := kind, payload := .raw bytes, report := report }

/-- A REPLY to a request, in the NORMAL class to L4 (R179). -/
def State.reply (s : State) (t : Ticket) (st : Status) (d : Detail := .none) (report : Report := .none) : State :=
  s.offer Config.officePort .normal
    { dest := t.src, src := s.globals.own, kind := Kind.reply, payload := .reply t.tag st d, report := report }

end Sys2Proof.Machine
end

