-- ==== Sys2Proof/Machine/Sounders.lean ====
section
/-! DEFINITION. Chapter 7: the Sounder Arbiter. Bell patterns, ring requests, serving, preemption, evacuation, loss and
regain of a sounder, and the meanings of PATTERN_END, START_LIMIT, PREEMPT_TIMEOUT and EVAC_REFRESH. -/

namespace Sys2Proof.Machine

/-! ### Patterns (R118) -/

/-- The duration of a timed pattern (R118). -/
def patternLength : Pattern → Micros
  | .strokes n r => ms (r * (n * 400 + 1200))
  | .chime r => ms (r * 3000)

/-- The pattern sent for a requested one: CHIME falls back to STROKES 3 without the ability (R118). -/
def patternSent (a : Abilities) : Pattern → Pattern
  | .chime r => if a.chime then .chime r else .strokes 3 r
  | p => p

/-- The queue class of a TOLL frame, by the pattern and the sounder's last sent pattern (R118). -/
def Toll.queueClass (last : Option Toll) : Toll → QueueClass
  | .continuous => .safety
  | .stop => if last = some .continuous then .safety else .normal
  | .timed _ => .normal

/-- A TOLL frame queued to a PRESENT sounder and recorded as its last sent pattern (R118). -/
def State.toll (s : State) (i : Nat) (t : Toll) (report : Report := .none) : State :=
  if s.isPresent i then
    let c := t.queueClass ((s.arbiter i).bind Arbiter.lastSent)
    (s.modArbiter i fun a => { a with lastSent := some t }).sendTo i c Kind.toll t.payload report
  else s

/-! ### Choosing and serving (R123) -/

/-- The circle of classes of ROTATING mode, from the class after the last-served one (R123). -/
def RingClass.circleAfter : RingClass → List RingClass
  | .service => [.cash, .floorwalker, .closing, .fallback, .service]
  | .cash => [.floorwalker, .closing, .fallback, .service, .cash]
  | .floorwalker => [.closing, .fallback, .service, .cash, .floorwalker]
  | .closing => [.fallback, .service, .cash, .floorwalker, .closing]
  | .fallback => [.service, .cash, .floorwalker, .closing, .fallback]
  | .urgent => [.service, .cash, .floorwalker, .closing, .fallback]

/-- The order of classes of FIXED mode (R123). -/
def fixedOrder : List RingClass := [.floorwalker, .cash, .service, .closing, .fallback]

/-- The oldest pending request of a class. -/
def oldestOf (pending : List Ring) (c : RingClass) : Option Ring := pending.find? fun r => decide (r.cls = c)

/-- The request chosen to be served: the oldest URGENT one, else by the circle or the fixed order (R123). -/
def chooseRing (m : SounderMode) (last : RingClass) (pending : List Ring) : Option Ring :=
  match oldestOf pending .urgent with
  | some r => some r
  | none =>
    match m with
    | .rotating => last.circleAfter.findSome? (oldestOf pending)
    | .fixed => fixedOrder.findSome? (oldestOf pending)

/-- A chosen request leaves the list and becomes the pattern in force, in phase STARTING; its TOLL is queued (R123). -/
def State.serve (s : State) (i : Nat) (r : Ring) : State :=
  let p := patternSent (s.effective i) r.pattern
  let token := s.tokens
  let s := { s with tokens := token + 1 }
  let s := s.modArbiter i fun a => { a with
    pending := a.pending.erase r
    inForce := .timed r.cls r.owner p token (.starting (s.now + Config.startLimit))
    lastServed := if r.cls = .urgent then a.lastServed else r.cls
    counters := { a.counters with served := bump a.counters.served } }
  s.toll i (.timed p) (.toll i token)

/-- The choice of R123, made when the arbiter is ARBITRATING with no pattern in force. -/
def State.choose (s : State) (i : Nat) : State :=
  match s.arbiter i with
  | none => s
  | some a =>
    if a.service = .arbitrating ∧ a.inForce = .none then
      match chooseRing s.globals.sounderMode a.lastServed a.pending with
      | some r => s.serve i r
      | none => s
    else s

/-- The pattern in force ends: the preempt timer stops (R125). -/
def State.endPattern (s : State) (i : Nat) : State :=
  s.modArbiter i fun a => { a with inForce := .none, preempt := none }

/-- The preempt timer started behind a SOUNDING pattern not of class URGENT, unless the preempt wait is 0 (R125). -/
def preemptStart (s : State) (c : RingClass) : Timer :=
  if c = .urgent ∨ s.globals.preemptWait = 0 then none else s.after (sec s.globals.preemptWait)

/-! ### Requests and withdrawals (R121, R122) -/

/-- A request taken or refused by the arbiter of a sounder (R121). The Boolean says that it was taken. -/
def State.ring (s : State) (i : Nat) (c : RingClass) (p : Pattern) (o : RingOwner) : State × Bool :=
  match s.arbiter i with
  | none => (s, false)
  | some a =>
    if s.isPresent i = false then
      (s.modArbiter i fun a => { a with counters := { a.counters with refusedAbsent := bump a.counters.refusedAbsent } }, false)
    else if a.pending.any fun r => decide (r.owner = o) then
      (s.modArbiter i fun a => { a with
        pending := a.pending.map fun r => if r.owner = o then { r with cls := c, pattern := p } else r }, true)
    else if Config.pendingSize ≤ a.pending.length then
      (s.modArbiter i fun a => { a with counters := { a.counters with refusedFull := bump a.counters.refusedFull } }, false)
    else
      let s' := s.modArbiter i fun a => { a with
        pending := a.pending ++ [{ cls := c, pattern := p, owner := o, arrival := s.now }] }
      if a.service = .arbitrating then
        match a.inForce with
        | .none => (s'.choose i, true)
        | .timed c' _ _ _ (.sounding _) =>
          if a.pending = [] then (s'.modArbiter i fun a => { a with preempt := preemptStart s' c' }, true) else (s', true)
        | _ => (s', true)
      else (s', true)

/-- Whether the pattern in force belongs to an owner. -/
def InForce.ownedBy (o : RingOwner) : InForce → Bool
  | .timed _ o' _ _ _ => decide (o' = o)
  | _ => false

/-- An owner withdraws its requests from a sounder: the pending one is removed, and its pattern in force is ended with
a STOP, after which the choice is made (R122). -/
def State.withdraw (s : State) (i : Nat) (o : RingOwner) : State :=
  match s.arbiter i with
  | none => s
  | some a =>
    let rest := a.pending.filter fun r => decide (r.owner ≠ o)
    let s := s.modArbiter i fun a => { a with pending := rest, preempt := if rest = [] then none else a.preempt }
    if a.inForce.ownedBy o then ((s.endPattern i).toll i .stop).choose i else s

/-- An owner withdraws its requests from every sounder. -/
def State.withdrawAll (s : State) (o : RingOwner) : State := s.forEach (List.range 96) fun s i => s.withdraw i o

/-- Whether an owner has a pending request at a sounder. -/
def State.ringPending (s : State) (i : Nat) (o : RingOwner) : Bool :=
  (s.arbiter i).any fun a => a.pending.any fun r => decide (r.owner = o)

/-- Whether an owner's pattern is in force at a sounder, in either phase. -/
def State.ringInForce (s : State) (i : Nat) (o : RingOwner) : Bool :=
  (s.arbiter i).any fun a => a.inForce.ownedBy o

/-- Whether an owner's pattern is SOUNDING at a sounder: the owner has been told that it is in force (R124). -/
def State.ringSounding (s : State) (i : Nat) (o : RingOwner) : Bool :=
  (s.arbiter i).any fun a =>
    match a.inForce with
    | .timed _ o' _ _ (.sounding _) => decide (o' = o)
    | _ => false

/-! ### Service (R120, R126, R127) -/

/-- The service that a zone's state gives a sounder (R120). -/
def serviceOf : Option ZoneState → Service
  | some .alarm => .evacuating
  | some .silenced | some .resetting => .silent
  | _ => .arbitrating

/-- The service of a sounder, from the zone of its station record (R120). -/
def State.serviceFor (s : State) (i : Nat) : Service :=
  serviceOf (((s.station i).bind StationCfg.zone).map fun z => (s.zone z).state)

/-- The service becomes EVACUATING (R126). -/
def State.evacuate (s : State) (i : Nat) : State :=
  (s.modArbiter i fun a => { a with
    service := .evacuating, inForce := .continuous, preempt := none, refresh := s.after Config.evacRefresh }).toll i .continuous

/-- The service becomes SILENT (R127). -/
def State.silence (s : State) (i : Nat) (a : Arbiter) : State :=
  let s := s.modArbiter i fun a => { a with service := .silent, inForce := .none, preempt := none, refresh := none }
  if a.inForce = .none then s else s.toll i .stop

/-- The service returns to ARBITRATING, and the choice is made (R127). -/
def State.arbitrate (s : State) (i : Nat) (a : Arbiter) : State :=
  let s := s.modArbiter i fun a => { a with service := .arbitrating, inForce := .none, preempt := none, refresh := none }
  (if a.inForce = .none then s else s.toll i .stop).choose i

/-- The service of one sounder set afresh from its zone; only a change of service acts (R120). -/
def State.updateService (s : State) (i : Nat) : State :=
  match s.arbiter i with
  | none => s
  | some a =>
    let v := s.serviceFor i
    if a.service = v then s
    else match v with
      | .evacuating => s.evacuate i
      | .silent => s.silence i a
      | .arbitrating => s.arbitrate i a

/-- The services of a zone's sounders follow the zone's state (R67, R120). -/
def State.updateSounders (s : State) (z : Nat) : State := s.forEach (s.stationsIn .sounder z) State.updateService

/-- An arbiter comes into being, with the service of its zone (R119). -/
def State.createArbiter (s : State) (i : Nat) : State :=
  let s := { s with arbiters := s.arbiters.set i (some {}) }
  match s.serviceFor i with
  | .evacuating => s.evacuate i
  | v => s.modArbiter i fun a => { a with service := v }

/-- An arbiter ceases (R119). -/
def State.removeArbiter (s : State) (i : Nat) : State := { s with arbiters := s.arbiters.set i none }

/-! ### Loss and regain (R130) -/

/-- Loss of a sounder: the pending list and a timed pattern are dropped, CONTINUOUS is kept (R130). -/
def State.sounderLoss (s : State) (i : Nat) : State :=
  s.modArbiter i fun a => { a with
    pending := []
    inForce := if a.inForce = .continuous then .continuous else .none
    preempt := none
    counters := { a.counters with droppedAtLoss := bumpBy a.pending.length a.counters.droppedAtLoss } }

/-- Regain of a sounder: one TOLL frame brings it into line with its arbiter (R130). -/
def State.sounderRegain (s : State) (i : Nat) : State :=
  match s.arbiter i with
  | none => s
  | some a => s.toll i (if a.service = .evacuating then .continuous else .stop)

/-! ### Sent reports (R124) -/

/-- A sent report for a timed TOLL frame: the STARTING pattern becomes SOUNDING, or the report is stray (R124). -/
def State.tollReport (s : State) (i token : Nat) : State :=
  match s.arbiter i with
  | none => s
  | some a =>
    let stray := match a.service with
      | .arbitrating => s
      | .evacuating => s.toll i .continuous
      | .silent => s.toll i .stop
    match a.inForce with
    | .timed c o p t (.starting _) =>
      if t = token then
        s.modArbiter i fun a => { a with
          inForce := .timed c o p t (.sounding (s.now + patternLength p))
          preempt := if a.pending = [] then a.preempt else preemptStart s c }
      else stray
    | _ => stray

/-! ### Meanings -/

/-- PATTERN_END: a SOUNDING pattern reaches its end moment (R124). -/
def execPatternEnd (i : Nat) (s : State) : Host.Outcome State Fault Refusal :=
  match (s.arbiter i).map Arbiter.inForce with
  | some (.timed _ _ _ _ (.sounding t)) => .next (((s.reach t).endPattern i).choose i)
  | _ => .next s

/-- START_LIMIT: a STARTING pattern not reported sent within 2 s is given up (R124). -/
def execStartLimit (i : Nat) (s : State) : Host.Outcome State Fault Refusal :=
  match (s.arbiter i).map Arbiter.inForce with
  | some (.timed _ _ _ _ (.starting t)) =>
    let s := (s.reach t).endPattern i
    .next ((s.modArbiter i fun a => { a with counters := { a.counters with notSent := bump a.counters.notSent } }).choose i)
  | _ => .next s

/-- PREEMPT_TIMEOUT: the oldest pending request cuts the pattern in force (R125). -/
def execPreemptTimeout (i : Nat) (s : State) : Host.Outcome State Fault Refusal :=
  match s.arbiter i with
  | none => .next s
  | some a =>
    match a.preempt, a.pending, a.inForce with
    | some t, r :: _, .timed _ _ _ _ _ =>
      let s := ((s.reach t).endPattern i).toll i .stop
      let s := s.serve i r
      .next (s.modArbiter i fun a => { a with counters := { a.counters with preempted := bump a.counters.preempted } })
    | some t, _, _ => .next ((s.reach t).modArbiter i fun a => { a with preempt := none })
    | none, _, _ => .next s

/-- EVAC_REFRESH: CONTINUOUS is queued again, if the sounder is PRESENT, and the timer restarts (R126). -/
def execEvacRefresh (i : Nat) (s : State) : Host.Outcome State Fault Refusal :=
  match (s.arbiter i).bind Arbiter.refresh with
  | none => .next s
  | some t =>
    let s := s.reach t
    .next ((s.modArbiter i fun a => { a with refresh := s.after Config.evacRefresh }).toll i .continuous)

end Sys2Proof.Machine
end

