-- ==== Sys2Proof/Machine/Calls.lean ====
section
/-! DEFINITION. Chapter 6: the Call Router. Targets, ring sounders, displayed lists, intake, removal, holding and
resuming of call records, and the meanings of the two escalation steps. -/

namespace Sys2Proof.Machine

/-! ### Routes and targets (R99) -/

/-- The in-use route of a call point (R98). -/
def State.routeOf (s : State) (p : Nat) : Option Route :=
  s.tables.routes.cells.findSome? fun r => r.filter fun r => decide (r.callPoint = p)

/-- Whether a target is available to a call point's records (R99). -/
def State.available (s : State) (p : Nat) : Target → Bool
  | .primary => (s.routeOf p).any fun r => s.isPresent r.primary
  | .secondary => (s.routeOf p).any fun r => r.secondary.any s.isPresent
  | .office => true

/-- The target chosen at intake: PRIMARY, then SECONDARY, then OFFICE (R99). -/
def State.intakeTarget (s : State) (p : Nat) : Target :=
  if s.available p .primary then .primary else if s.available p .secondary then .secondary else .office

/-- The next target at escalation to step 1 and at annunciator loss (R99). -/
def State.nextTarget (s : State) (p : Nat) : Target → Target
  | .primary => if s.available p .secondary then .secondary else .office
  | .secondary => .office
  | .office => .office

/-- Whether a station record is on the office line, L4 (R99). -/
def State.onOffice (s : State) (i : Nat) : Bool := (s.station i).any fun c => decide (c.homePort = Config.officePort)

/-- The sounders that ring for a record (R99). -/
def State.ringSounders (s : State) (r : CallRecord) : List Nat :=
  match r.target with
  | .office => (s.stationsOf .sounder).filter s.onOffice
  | _ => ((s.routeOf r.point).bind Route.sounder).toList

/-- The pattern of a record: STROKES of the bell code, or CHIME for OFFICE; 3 repeats for URGENT, 2 otherwise (R99). -/
def State.ringPattern (s : State) (r : CallRecord) : Pattern :=
  let n := if r.cls = .urgent then 3 else 2
  match r.target with
  | .office => .chime n
  | _ => .strokes (((s.routeOf r.point).map Route.bellCode).getD 1) n

/-- A call class as a class of ring request. -/
def CallClass.ring : CallClass → RingClass
  | .service => .service
  | .cash => .cash
  | .floorwalker => .floorwalker
  | .urgent => .urgent

/-- Ring requests of a record placed with given sounders; one that is not PRESENT is passed over (R101). -/
def State.placeRingsAt (s : State) (r : CallRecord) (is : List Nat) : State :=
  s.forEach (is.filter s.isPresent) fun s i => (s.ring i r.cls.ring (s.ringPattern r) (.call r.number)).1

/-- Ring requests of a record placed with each of its ring sounders (R101). -/
def State.placeRings (s : State) (r : CallRecord) : State := s.placeRingsAt r (s.ringSounders r)

/-- A record's requests withdrawn and placed afresh (R101). -/
def State.ringAfresh (s : State) (r : CallRecord) : State := (s.withdrawAll (.call r.number)).placeRings r

/-- The sounders holding a pending request of a record, and those sounding its pattern: its rings (R100). -/
def State.ringsOf (s : State) (r : CallRecord) : List Nat × List Nat :=
  (indicesWhere 96 fun i => s.ringPending i (.call r.number), indicesWhere 96 fun i => s.ringSounding i (.call r.number))

/-- The state of a record (R101). -/
def State.callState (s : State) (r : CallRecord) : CallState :=
  if r.held then .held
  else if r.step ≠ 0 then .escalated
  else if (s.ringsOf r).2 ≠ [] then .ringing
  else .waiting

/-! ### Records (R100) -/

/-- Whether a record answers to a call point and a class (R100). -/
def CallRecord.answers (r : CallRecord) (p : Nat) (k : CallClass) : Bool :=
  decide (r.point = p ∧ (r.cls = k ∨ (r.cls = .urgent ∧ r.step = 2 ∧ r.pressed = k)))

/-- The record that answers to a call point and a class. -/
def State.answering (s : State) (p : Nat) (k : CallClass) : Option CallRecord :=
  s.calls.records.find? fun r => r.answers p k

/-- The record of an arrival number. -/
def State.record (s : State) (n : Nat) : Option CallRecord := s.calls.records.find? fun r => decide (r.number = n)

/-- A change of one record. -/
def State.modRecord (s : State) (n : Nat) (f : CallRecord → CallRecord) : State :=
  s.modCalls fun c => { c with records := c.records.map fun r => if r.number = n then f r else r }

/-- A change of the Call Router's counters (R117). -/
def State.countCalls (s : State) (f : CallCounters → CallCounters) : State :=
  s.modCalls fun c => { c with counters := f c.counters }

/-- The address of a call point. -/
def State.addressOf (s : State) (i : Nat) : Addr := ((s.station i).map StationCfg.address).getD 0#16

/-- A CALL_OFFICE notice for a record (R99). -/
def State.notifyOffice (s : State) (r : CallRecord) (why : OfficeReason) : State :=
  s.notify (.callOffice r.number (s.addressOf r.point) r.cls why)

/-- A record leaves the list, and its requests are withdrawn (R101). -/
def State.removeRecord (s : State) (n : Nat) : State :=
  let s := s.modCalls fun c => { c with records := c.records.filter fun r => decide (r.number ≠ n) }
  (s.withdrawAll (.call n)).dropRepeats [.callOffice] n

/-! ### Displays (R110, R111) -/

/-- Whether a record is shown on an annunciator (R99, R110). -/
def State.shownOn (s : State) (i : Nat) (r : CallRecord) : Bool :=
  !r.held &&
    match r.target with
    | .primary => (s.routeOf r.point).any fun t => decide (t.primary = i)
    | .secondary => (s.routeOf r.point).any fun t => decide (t.secondary = some i)
    | .office => s.onOffice i

/-- One entry of a displayed list (R110). -/
def State.showEntry (s : State) (r : CallRecord) : ShowEntry :=
  { address := s.addressOf r.point
    bellCode := ((s.routeOf r.point).map Route.bellCode).getD 0
    cls := r.cls
    escalated := decide (r.step ≠ 0)
    repeats := r.repeats }

/-- The displayed list of an annunciator: by class, then oldest first, at most 6 entries (R110). -/
def State.displayList (s : State) (i : Nat) : ShowList :=
  let qualify := s.calls.records.filter (s.shownOn i)
  let ordered := [CallClass.urgent, .floorwalker, .cash, .service].flatMap fun k => qualify.filter fun r => decide (r.cls = k)
  { entries := (ordered.take 6).map s.showEntry, total := ordered.length }

/-- A displayed list sent to an annunciator as a SHOW frame and kept as the last sent (R111). -/
def State.sendDisplay (s : State) (i : Nat) : State :=
  let l := s.displayList i
  (s.modCalls fun c => { c with shown := c.shown.set i (some l) }).sendTo i .normal Kind.showList l.payload

/-- The displays recomputed: a PRESENT annunciator is sent its list when it differs from the last sent (R111). -/
def State.recomputeDisplays (s : State) : State :=
  s.forEach (s.stationsOf .annunciator) fun s i =>
    if s.isPresent i ∧ s.calls.shown.at? i ≠ some (s.displayList i) then s.sendDisplay i else s

/-! ### Escalation timer (R107) -/

/-- The escalation timer of a record of a class, started now (R107). -/
def State.escalationTimer (s : State) (k : CallClass) : Timer :=
  let d := s.globals.escalation
  s.after (sec (if k = .urgent then d / 2 else d))

/-! ### Intake (R103 to R106) -/

/-- The first number from `n` on that no record holds (R100). -/
def freshNumber (used : List Nat) : Nat → Nat → Nat
  | 0, n => n
  | fuel + 1, n => if used.contains n then freshNumber used fuel (nextNumber n) else n

/-- Whether the zone of a call point holds its records for fire (R103, R113). -/
def State.holdsPoint (s : State) (p : Nat) : Bool := s.overlayOf ((s.station p).bind StationCfg.zone)

/-- A new record appended at the tail (R103). R103 states no order between the CALL_OFFICE notice, the rings and the SHOW frames
of the step: the rings, then the notice, then the displays is the model's choice (notes/assumptions/41.md). -/
def State.appendRecord (s : State) (p : Nat) (k : CallClass) : State :=
  let n := freshNumber (s.calls.records.map CallRecord.number) Config.callSize (nextNumber s.calls.lastNumber)
  let held := s.holdsPoint p
  let r : CallRecord :=
    { point := p, cls := k, pressed := k, number := n, held := held, target := s.intakeTarget p
      timer := if held then none else s.escalationTimer k }
  let s := s.modCalls fun c => { c with
    records := c.records ++ [r], lastNumber := n, counters := { c.counters with taken := bump c.counters.taken } }
  let s := if held then s else s.placeRings r
  let s := if r.target = .office then
      s.notifyOffice r (if s.routeOf p = none then .unrouted else .annunciatorLost) else s
  s.recomputeDisplays

/-- A press merged into the record that answers to it (R103). -/
def State.mergePress (s : State) (r : CallRecord) : State :=
  let s := s.modRecord r.number fun r => { r with repeats := bumpRepeat r.repeats }
  let s := if r.held then s
    else s.placeRingsAt r ((s.ringSounders r).filter fun i =>
      !(s.ringPending i (.call r.number) || s.ringInForce i (.call r.number)))
  s.recomputeDisplays

/-- A press refused (R103, R104). -/
def State.refusePress (s : State) : State := s.countCalls fun c => { c with refused := bump c.refused }

/-- A PRESS that needs a new record while the table is full (R104). -/
def State.pressFull (s : State) (p : Nat) (k : CallClass) : State :=
  match k, s.calls.records.find? fun r => decide (r.cls = .service) with
  | .urgent, some old =>
    let s := s.removeRecord old.number
    let s := s.countCalls fun c => { c with cleared := bump c.cleared, displaced := bump c.displaced }
    s.appendRecord p k
  | _, _ => s.refusePress

/-- A PRESS of a class from a call point (R103). -/
def State.press (s : State) (p : Nat) (k : CallClass) : State :=
  if s.day.mode = .closed ∧ (k = .service ∨ k = .cash) then s.refusePress
  else match s.answering p k with
    | some r => s.mergePress r
    | none =>
      if s.calls.records.length < Config.callSize then s.appendRecord p k else s.pressFull p k

/-- A CANCEL of a class from a call point (R105). -/
def State.cancel (s : State) (p : Nat) (k : CallClass) : State :=
  match s.answering p k with
  | some r => ((s.removeRecord r.number).recomputeDisplays).countCalls fun c => { c with cleared := bump c.cleared }
  | none => s.countCalls fun c => { c with unmatched := bump c.unmatched }

/-- An annunciator's acknowledgement of a call point's address and a class (R106). The SHOW frames come before the CALL_ACK to
the point: the order is the model's choice (notes/assumptions/41.md). -/
def State.acknowledge (s : State) (a : Addr) (k : CallClass) : State :=
  let found := (s.findStation a).bind fun p =>
    if (s.station p).any fun c => decide (c.role = .callPoint) then (s.answering p k).map fun r => (p, r) else none
  match found with
  | none => s.countCalls fun c => { c with unmatched := bump c.unmatched }
  | some (p, r) =>
    let s := (s.removeRecord r.number).recomputeDisplays
    let s := s.countCalls fun c => { c with acked := bump c.acked }
    if s.isPresent p then s.sendTo p .normal Kind.callAck answeredPayload else s

/-! ### Holding, resuming, loss and closing (R112 to R116) -/

/-- A record held for fire, unless it is HELD already (R113). -/
def State.holdRecord (s : State) (r : CallRecord) : State :=
  if r.held then s
  else (s.modRecord r.number fun r => { r with held := true, timer := none }).withdrawAll (.call r.number)

/-- A HELD record resumed (R114). -/
def State.resumeRecord (s : State) (r : CallRecord) : State :=
  if r.held then
    let s := s.modRecord r.number fun r => { r with
      held := false, timer := if r.step < 2 then s.escalationTimer r.cls else none }
    s.placeRings { r with held := false }
  else s

/-- The records of the call points of a zone. -/
def State.recordsIn (s : State) (z : Nat) : List CallRecord :=
  s.calls.records.filter fun r => decide ((s.station r.point).bind StationCfg.zone = some z)

/-- The records of a zone that enters ALARM, SILENCED or RESETTING are held (R113). -/
def State.holdZone (s : State) (z : Nat) : State :=
  ((s.recordsIn z).foldl State.holdRecord s).recomputeDisplays

/-- The held records of a zone that enters NORMAL from RESETTING resume (R114). -/
def State.resumeZone (s : State) (z : Nat) : State :=
  ((s.recordsIn z).foldl State.resumeRecord s).recomputeDisplays

/-- The records of a call point judged again after its zone has been written (R113). -/
def State.rejudgePoint (s : State) (p : Nat) : State :=
  let rs := s.calls.records.filter fun r => decide (r.point = p)
  (rs.foldl (if s.holdsPoint p then State.holdRecord else State.resumeRecord) s).recomputeDisplays

/-- A record shown on a lost annunciator moved to its next target; it rings afresh where its ring sounders change, as they do
on every move to OFFICE (R112). -/
def State.moveRecord (s : State) (r : CallRecord) : State :=
  let r' := { r with target := s.nextTarget r.point r.target }
  let changed := decide (r'.target = .office ∨ s.ringSounders r ≠ s.ringSounders r')
  let s := s.modRecord r.number fun x => { x with target := r'.target }
  let s := if !r.held && changed then s.ringAfresh r' else s
  if r'.target = .office then s.notifyOffice r' .annunciatorLost else s

/-- Loss of an annunciator: the records shown on it as primary or as secondary are moved (R112). The ANNUNCIATOR_LOST notices
of the moved records come before the SHOW frames: R112 states no order, and this one is the model's choice
(notes/assumptions/41.md). -/
def State.annunciatorLoss (s : State) (i : Nat) : State :=
  let moved := s.calls.records.filter fun r =>
    match r.target with
    | .primary => (s.routeOf r.point).any fun t => decide (t.primary = i)
    | .secondary => (s.routeOf r.point).any fun t => decide (t.secondary = some i)
    | .office => false
  (moved.foldl State.moveRecord s).recomputeDisplays

/-- Regain of an annunciator: it is sent its present list (R111, R112). -/
def State.annunciatorRegain (s : State) (i : Nat) : State := (s.sendDisplay i).recomputeDisplays

/-- The office sounders have changed: the OFFICE-targeted records that are not HELD ring afresh (R101). -/
def State.officeSoundersChanged (s : State) : State :=
  (s.calls.records.filter fun r => !r.held && decide (r.target = .office)).foldl State.ringAfresh s

/-- The entry to CLOSED removes the SERVICE and CASH records (R115). -/
def State.closeCalls (s : State) : State :=
  let gone := s.calls.records.filter fun r => decide (r.cls = .service ∨ r.cls = .cash)
  (gone.foldl (fun s r => (s.removeRecord r.number).countCalls fun c => { c with
    cleared := bump c.cleared, clearedAtClose := bump c.clearedAtClose }) s).recomputeDisplays

/-- CLEAR_CALLS removes the records that are chosen (R116). -/
def State.clearRecords (s : State) (p : CallRecord → Bool) : State :=
  ((s.calls.records.filter p).foldl (fun s r =>
    (s.removeRecord r.number).countCalls fun c => { c with cleared := bump c.cleared }) s).recomputeDisplays

/-! ### Meanings -/

/-- ESCALATION_STEP_1: a step-0 record's escalation timer runs out (R108). A record that targets OFFICE already takes no new
target, and requests no further CALL_OFFICE notice: the model's choice (notes/assumptions/38.md). -/
def execEscalationStep1 (n : Nat) (s : State) : Host.Outcome State Fault Refusal :=
  match s.record n with
  | none => .next s
  | some r =>
    match r.timer, r.step with
    | some t, 0 =>
      let s := s.reach t
      let r' := { r with step := 1, target := s.nextTarget r.point r.target, timer := s.escalationTimer r.cls }
      let s := s.modRecord n fun _ => r'
      let s := (s.ringAfresh r').recomputeDisplays
      .next (if r'.target = .office ∧ r.target ≠ .office then s.notifyOffice r' .escalated else s)
    | _, _ => .next s

/-- ESCALATION_STEP_2: a step-1 record's escalation timer runs out; it becomes URGENT to OFFICE, or merges (R109). The
CALL_OFFICE notice of a merge names the surviving record: the model's choice (notes/assumptions/38.md). R109 states no order
between that notice, the rings and the displays, nor between the rings of the two records of a merge: the notice first, then
the rings of the escalating record, then those of the surviving one, then the displays is the model's choice
(notes/assumptions/41.md). -/
def execEscalationStep2 (n : Nat) (s : State) : Host.Outcome State Fault Refusal :=
  match s.record n with
  | none => .next s
  | some r =>
    match r.timer, r.step with
    | some t, 1 =>
      let s := s.reach t
      match s.calls.records.find? fun x => decide (x.point = r.point ∧ x.cls = .urgent ∧ x.number ≠ n) with
      | none =>
        let r' := { r with cls := .urgent, target := .office, step := 2, timer := none }
        let s := s.modRecord n fun _ => r'
        let s := s.notifyOffice r' .escalated
        .next (s.ringAfresh r').recomputeDisplays
      | some x =>
        let x' := { x with step := 2, target := .office, timer := none, repeats := bumpRepeat x.repeats }
        let s := s.modRecord x.number fun _ => x'
        let s := s.notifyOffice x' .escalated
        let s := s.removeRecord n
        let s := s.ringAfresh x'
        .next ((s.countCalls fun c => { c with cleared := bump c.cleared }).recomputeDisplays)
    | _, _ => .next s

end Sys2Proof.Machine
end

