-- ==== Sys2Proof/Machine/Lamps.lean ====
section
/-! DEFINITION. Landings, boarding lamps (R33) and the changes of store mode that follow from the shafts (R140, R143):
the operations that both the Shaft Controllers and the Shutter Controller call. -/

namespace Sys2Proof.Machine

/-! ### Landings (R16) -/

/-- The landing station of a landing: the station its sills name (R16). -/
def State.landingStation (s : State) (k l : Nat) : Option Nat :=
  ((s.sills k).find? fun x => decide (x.landing = l)).map Sill.station

/-- The landings of a shaft: those with at least one sill in use (R16). -/
def State.landings (s : State) (k : Nat) : List Nat := indicesWhere 12 fun l => (s.landingStation k l).isSome

/-- The shutter whose landing reference names a landing (R16). -/
def State.landingShutter (s : State) (k l : Nat) : Option Nat :=
  firstIndex 32 fun i => (s.shutter i).any fun c => decide (c.landing = some { shaft := k, landing := l })

/-- The shutters whose landing reference names a shaft (R34, R50). -/
def State.shaftShutters (s : State) (k : Nat) : List Nat :=
  indicesWhere 32 fun i => (s.shutter i).any fun c => c.landing.any fun r => decide (r.shaft = k)

/-- The zone that holds a landing (R16). -/
def State.landingZone (s : State) (k l : Nat) : Option Nat :=
  (s.landingShutter k l).bind fun i => (s.shutter i).map ShutterCfg.zone

/-- What a shaft keeps for a landing. -/
def State.landingLive (s : State) (k l : Nat) : LandingLive := (s.shaft k).landings.getD l {}

/-- A change of what a shaft keeps for a landing. -/
def State.modLanding (s : State) (k l : Nat) (f : LandingLive → LandingLive) : State :=
  s.modShaft k fun x => { x with landings := x.landings.modify l f }

/-- Whether a shaft is in use (R15). -/
def State.shaftEnabled (s : State) (k : Nat) : Bool := (s.geometry k).enabled

/-! ### Boarding lamps (R33) -/

/-- Whether a landing's shutter keeps the lamp at NO_BOARD: it is not OPEN, or its fault set holds COMMS (R33). -/
def State.shutterBars (s : State) (k l : Nat) : Bool :=
  (s.landingShutter k l).any fun i => decide ((s.shutterLive i).state ≠ .open) || (s.shutterLive i).faults.comms

/-- The lamp of a landing: the first row of R33's table that applies. -/
def State.lampOf (s : State) (k l : Nat) : Lamp :=
  if (s.landingShutter k l).any fun i => decide ((s.shutterLive i).state = .warning) then .flash
  else if (s.shaft k).state ≠ .running then .noBoard
  else if (s.shaft k).degraded then .noBoard
  else if !(s.landingStation k l).any s.isPresent then .noBoard
  else if s.shutterBars k l then .noBoard
  else if (s.landingZone k l).any fun z => decide ((s.zone z).state = .isolated) then .noBoard
  else match s.day.mode with
    | .closing => .flash
    | .open => .board
    | _ => .noBoard

/-- A LAMP frame with the landing's present lamp state, queued while the landing station is PRESENT; the 5 s interval
runs from it (R33). -/
def State.sendLamp (s : State) (k l : Nat) : State :=
  match s.landingStation k l with
  | none => s
  | some i =>
    if s.isPresent i then
      (s.modLanding k l fun x => { x with refresh := s.after Config.lampRefresh }).sendTo i .safety Kind.lamp
        (s.landingLive k l).lamp.payload
    else s

/-- A landing's lamp recomputed; a changed lamp is sent (R33). -/
def State.recomputeLamp (s : State) (k l : Nat) : State :=
  let lamp := s.lampOf k l
  if (s.landingLive k l).lamp = lamp then s
  else (s.modLanding k l fun x => { x with lamp := lamp }).sendLamp k l

/-- The lamps of a shaft recomputed, landing 0 first; a disabled shaft has none (R17, R33). R33 states no order for the LAMP
frames of several landings changed in one step: this one is the model's choice (notes/assumptions/38.md). -/
def State.recomputeLamps (s : State) (k : Nat) : State :=
  if s.shaftEnabled k then s.forEach (s.landings k) fun s l => s.recomputeLamp k l else s

/-- The lamps of both shafts recomputed, shaft 0 before shaft 1: the order is the model's choice
(R33; notes/assumptions/38.md). -/
def State.recomputeAllLamps (s : State) : State := (s.recomputeLamps 0).recomputeLamps 1

/-- The lamps of a landing reference recomputed, if there is one. -/
def State.recomputeLampAt (s : State) : Option LandingRef → State
  | some r => s.recomputeLamps r.shaft
  | none => s

/-! ### Store modes (R140) and the closing check (R143) -/

/-- A change of store mode, handed to the shafts, to the Call Router and to the Management Unit, in this order, the model's
choice (R140; notes/assumptions/41.md). -/
def State.enterMode (s : State) (m : StoreMode) (src : ModeSource) : State :=
  let old := s.day.mode
  let s := s.modDay fun d => { d with mode := m }
  let s := s.recomputeAllLamps
  let s := if m = .closed then s.closeCalls else s
  s.notify (.storeMode old m src)

/-- Whether a shaft counts as standing for the closing check: IDLE, HELD, TRIPPED or disabled (R143). -/
def State.shaftStands (s : State) (k : Nat) : Bool :=
  !s.shaftEnabled k ||
    match (s.shaft k).state with
    | .idle | .held | .tripped => true
    | _ => false

/-- The closing check: with close-pending set and every shaft standing, the store enters CLOSED (R143). -/
def State.closingCheck (s : State) : State :=
  if s.day.closePending && s.shaftStands 0 && s.shaftStands 1 then
    (s.modDay fun d => { d with closePending := false, overdue := false, closeWait := none }).enterMode .closed s.day.source
  else s

end Sys2Proof.Machine
end

