-- ==== Sys2Proof/Machine/ShutterOps.lean ====
section
/-! DEFINITION. Chapter 5, the operations on shutters that chapters 3 to 5 share: state and fault changes (R79),
commands (R80), release requests and the clearance gate (R81 to R83), isolation (R95). -/

namespace Sys2Proof.Machine

/-! ### State and fault set (R79) -/

/-- A shutter's state changed: the landing lamp is recomputed and a SHUTTER_STATE notice requested, in this order, the model's
choice (R79; notes/assumptions/41.md). The zone's completion check is made by the rules that call this (R71). -/
def State.setShutter (s : State) (i : Nat) (st : ShutterState) : State :=
  let old := (s.shutterLive i).state
  if old = st then s
  else
    let s := s.modShutter i fun x => { x with state := st }
    (s.recomputeLampAt ((s.shutter i).bind ShutterCfg.landing)).notify (.shutterState i old st)

/-- A fault added to or removed from a shutter's fault set; only a change acts (R79). -/
def State.setFault (s : State) (i : Nat) (f : ShutterFault) (on : Bool) : State :=
  if (s.shutterLive i).faults.has f = on then s
  else
    let s := s.modShutter i fun x => { x with faults := x.faults.put on f }
    (s.recomputeLampAt ((s.shutter i).bind ShutterCfg.landing)).notify (.shutterFault i f on)

/-- Entry to OPEN on a report of OPEN_END or by re-derivation from one: four faults and the forced marker go (R79). R79 gives its
notices no order: that SHUTTER_STATE comes first, then the removals of NO_RESPONSE, SLOW, JAMMED and UNEXPECTED, is the model's
choice (notes/assumptions/41.md). -/
def State.openShutter (s : State) (i : Nat) : State :=
  let s := s.setShutter i .open
  let s := s.setFault i .noResponse false
  let s := s.setFault i .slow false
  let s := s.setFault i .jammed false
  let s := s.setFault i .unexpected false
  s.modShutter i fun x => { x with forced := false }

/-! ### Commands (R80) -/

/-- A SHUT frame queued, in the SAFETY class, to the home port of the shutter's drive (R80). -/
def State.sendShut (s : State) (i : Nat) (bytes : List Byte) : State :=
  match s.shutter i with
  | none => s
  | some c => s.sendTo c.drive .safety Kind.shut bytes

/-- The time limit of a command's motion (R76). -/
def motionLimit (c : ShutterCfg) : ShutCommand → Micros
  | .release => sec c.descentLimit
  | .raise => sec c.raiseLimit

/-- RELEASE or RAISE queued as a new command (R80). -/
def State.startCommand (s : State) (i : Nat) (cmd : ShutCommand) : State :=
  match s.shutter i with
  | none => s
  | some c =>
    (s.modShutter i fun x => { x with
      command := some cmd, sends := 1, complied := false
      resend := s.after Config.resend
      motion := s.after (motionLimit c cmd) }).sendShut i cmd.payload

/-- Whether a zone's state bounds a RELEASE: it is sent only in ALARM or SILENCED (R80). -/
def State.releases (s : State) (z : Nat) : Bool :=
  match (s.zone z).state with
  | .alarm | .silenced => true
  | _ => false

/-- The zone of a shutter's record. -/
def State.shutterZone (s : State) (i : Nat) : Nat := ((s.shutter i).map ShutterCfg.zone).getD 0

/-- Whether a command may be sent again: a RELEASE only while the zone is ALARM or SILENCED (R80), a RAISE only while it
is RESETTING (R89). -/
def State.maySend (s : State) (i : Nat) : ShutCommand → Bool
  | .release => s.releases (s.shutterZone i)
  | .raise => decide ((s.zone (s.shutterZone i)).state = .resetting)

/-- The command in force queued again as a new send sequence, the motion timer kept (R88, R89, R94). -/
def State.sendAfresh (s : State) (i : Nat) (cmd : ShutCommand) : State :=
  if s.maySend i cmd then
    (s.modShutter i fun x => { x with sends := 1, complied := false, resend := s.after Config.resend }).sendShut i cmd.payload
  else s

/-! ### The clearance gate (R81 to R83) -/

/-- An outcome applied to one shutter (R83). -/
def State.applyOutcome (s : State) (i : Nat) (o : Outcome) : State :=
  let x := s.shutterLive i
  match x.state, o with
  | .releaseWait, .clear =>
    ((s.modShutter i fun x => { x with clearance := none }).startCommand i .release).setShutter i .descending
  | .releaseWait, .unclear =>
    (s.modShutter i fun x => { x with
      clearance := none
      warning := s.after (sec (s.zoneCfg (s.shutterZone i)).warningTime) }).setShutter i .warning
  | .warning, .clear =>
    ((s.modShutter i fun x => { x with warning := none }).startCommand i .release).setShutter i .descending
  | .descending, _ | .closed, _ | .stalled, _ =>
    if x.forced then s.modShutter i fun x => { x with lateOutcomes := bump x.lateOutcomes } else s
  | _, _ => s

/-- A delivery of a shaft for one zone: applied to each shutter of that zone whose landing reference names the shaft (R42),
by increasing index: R42 states no order, and this one is the model's choice (notes/assumptions/38.md). -/
def State.deliverZone (s : State) (k z : Nat) (o : Outcome) : State :=
  s.forEach ((s.shaftShutters k).filter fun i => decide (s.shutterZone i = z)) fun s i => s.applyOutcome i o

/-- The standing answer of a shaft to a zone, if it has one (R82 step 3). -/
def State.standingAnswer (s : State) (k z : Nat) : Option Outcome :=
  let x := s.shaft k
  if !x.zoneFlags.getLsbD z then none
  else if !s.shaftEnabled k then some .clear
  else match x.state with
    | .idle | .held => x.outcome
    | .tripped => if x.standstill = 3 then x.outcome else none
    | _ => none

/-- A command in force given up: none in force, no send, its timers stopped. -/
def ShutterLive.dropCommand (x : ShutterLive) : ShutterLive :=
  if x.command = none then x else { x with command := none, sends := 0, resend := none, motion := none }

/-- Entry to RELEASE_WAIT (R82). A RAISE in force, of an UNKNOWN shutter that a retry sent it to, is given up here: the
RELEASE that R93 then asks for follows through the gate of R81 (notes/assumptions/23.md). -/
def State.awaitRelease (s : State) (i : Nat) (r : LandingRef) : State :=
  let s := s.modShutter i fun x => { x.dropCommand with
    clearance := s.after (sec (s.zoneCfg (s.shutterZone i)).clearanceTimeout) }
  let s := s.setShutter i .releaseWait
  match s.standingAnswer r.shaft (s.shutterZone i) with
  | some o => s.applyOutcome i o
  | none => s

/-- A release request to one shutter (R81). R81's table has no row for CLOSED with RELEASE in force, which a shutter
reaches when a new alarm turns its RAISE about and the zone is then silenced and alarmed once more; that nothing changes then
is the model's choice (notes/assumptions/40.md). -/
def State.requestRelease (s : State) (i : Nat) : State :=
  match s.shutter i with
  | none => s
  | some c =>
    let x := s.shutterLive i
    match x.state with
    | .unknown | .open =>
      match c.landing with
      | none => (s.startCommand i .release).setShutter i .descending
      | some r => s.awaitRelease i r
    | .descending => if x.command = some .release then s else s.startCommand i .release
    | .closed => if x.command = some .raise then s.startCommand i .release else s
    | .raising | .stalled => (s.startCommand i .release).setShutter i .descending
    | .releaseWait | .warning | .isolated => s

/-- The in-use shutters of a zone. -/
def State.zoneShutters (s : State) (z : Nat) : List Nat :=
  indicesWhere 32 fun i => (s.shutter i).any fun c => decide (c.zone = z)

/-- Release requests to every shutter of a zone, by increasing index: the order is the model's choice
(R66 step 1; notes/assumptions/38.md). -/
def State.requestReleases (s : State) (z : Nat) : State := s.forEach (s.zoneShutters z) State.requestRelease

/-! ### Isolation (R95) -/

/-- A shutter becomes ISOLATED (R95). -/
def State.isolateShutter (s : State) (i : Nat) : State :=
  (s.modShutter i fun x => { x with
    resend := none, clearance := none, warning := none, motion := none, command := none, sends := 0 }).setShutter i .isolated

end Sys2Proof.Machine
end

