-- ==== Sys2Proof/Machine/ClearStops.lean ====
section
/-! DEFINITION. Chapter 3 and the state changes of chapter 2: outputs and entries of the shaft states (R18, R25 to R30),
the clear set (R38, R39), planning (R40 to R45), clear stops (R46 to R52) and the answers of standing shafts (R53 to R55). -/

namespace Sys2Proof.Machine

/-! ### The phase circle (R40) and planning (R43, R44) -/

/-- The pitch of a geometry record: L / N (R15). -/
def Geometry.pitch (g : Geometry) : Nat := g.L / g.N

/-- (a − b) mod m (R1). -/
def subMod (a b m : Nat) : Nat := (a + (m - b % m)) % m

/-- Whether a phase lies in the floor band or in the roof band of a sill: [S − Gb, S + Ga] and the same C counts on (R40). -/
def Geometry.inBands (g : Geometry) (x : Sill) (phase : Nat) : Bool :=
  decide (subMod (phase + g.Gb) x.position g.pitch ≤ g.Gb + g.Ga) ||
  decide (subMod (phase + g.Gb) (x.position + g.C) g.pitch ≤ g.Gb + g.Ga)

/-- Whether a phase is forbidden by a clear set (R40). -/
def Geometry.forbidden (g : Geometry) (set : List Sill) (phase : Nat) : Bool := set.any fun x => g.inBands x phase

/-- The pieces of a band whose lower bound, taken modulo the pitch, is given: the whole circle for a span of the pitch or
more, two pieces for a band that wraps (R40). -/
def Geometry.pieces (g : Geometry) (lower : Nat) : List (Nat × Nat) :=
  let upper := (lower + g.Gb + g.Ga) % g.pitch
  if g.pitch ≤ g.Gb + g.Ga + 1 then [(0, g.pitch - 1)]
  else if lower ≤ upper then [(lower, upper)]
  else [(lower, g.pitch - 1), (0, upper)]

/-- The bands that are held with a clear set: the pieces of each sill's floor band and of its roof band (R40). -/
def Geometry.bands (g : Geometry) (set : List Sill) : List (Nat × Nat) :=
  set.flatMap fun x => g.pieces (subMod x.position g.Gb g.pitch) ++ g.pieces (subMod (x.position + g.C) g.Gb g.pitch)

/-- Whether the window [φ − tol, φ + tol] holds no forbidden phase (R44). -/
def Geometry.windowFree (g : Geometry) (set : List Sill) (phase : Nat) : Bool :=
  (List.range (2 * g.tol + 1)).all fun j => !g.forbidden set (subMod (phase + j) g.tol g.pitch)

/-- The slowing distance (R43). -/
def Geometry.slowing (g : Geometry) (v : Nat) : Nat :=
  if v ≤ g.Vc then 0 else (v * v - g.Vc * g.Vc + 2 * g.a - 1) / (2 * g.a)

/-- The target search: the first of a number of consecutive distances whose window is free (R44). -/
def Geometry.search (g : Geometry) (set : List Sill) (pos : Nat) : Nat → Nat → Option Nat
  | 0, _ => none
  | fuel + 1, d => if g.windowFree set ((pos + d) % g.pitch) then some d else g.search set pos fuel (d + 1)

/-- A plan from a position and a speed against a clear set (R43, R44). -/
def Geometry.plan (g : Geometry) (set : List Sill) (pos v : Nat) : Plan :=
  let slow := g.slowing v
  let dmin := slow + g.sc
  { plannedAt := pos, speed := v, slowing := slow, minimum := dmin, sills := set
    target := (g.search set pos g.pitch dmin).map fun d =>
      { distance := d
        phase := (pos + d) % g.pitch
        target := (pos + d) % g.L
        brakePoint := (pos + d - g.sc) % g.L } }

/-! ### Reasons, evaluation and delivery -/

/-- The reason read from the request record; `none` when it holds nothing (R29, R46). -/
def Shaft.requestReason (x : Shaft) : Option StopReason :=
  if x.zoneFlags ≠ 0#16 then some .zone
  else match x.park with
    | some .day => some .park
    | some .order => some .stop
    | none => none

/-- The clear set from the request record and the tables (R39). -/
def State.computeClearSet (s : State) (k : Nat) : List Sill :=
  let x := s.shaft k
  if x.park.isSome then s.sills k
  else (s.sills k).filter fun i => (s.landingZone k i.landing).any x.zoneFlags.getLsbD

/-- The standing evaluation (R41). -/
def State.standingEval (s : State) (k : Nat) : Outcome :=
  let x := s.shaft k
  let g := s.geometry k
  if !g.enabled then .clear
  else if x.clearSet = [] then .clear
  else if !x.posValid then .unclear
  else if g.forbidden x.clearSet (x.pos % g.pitch) then .unclear
  else .clear

/-- The shaft's outcome delivered to every zone of its set (R42), by increasing zone: R42 states no order, and this one is
the model's choice (notes/assumptions/38.md). -/
def State.deliver (s : State) (k : Nat) : State :=
  match (s.shaft k).outcome with
  | none => s
  | some o => s.forEach (s.shaft k).zoneFlags.zones fun s z => s.deliverZone k z o

/-- The standing evaluation held as the outcome, and delivered whether or not it changed (R42). -/
def State.evaluateAndDeliver (s : State) (k : Nat) : State :=
  let o := s.standingEval k
  (s.modShaft k fun x => { x with outcome := some o }).deliver k

/-- The standing evaluation, delivered only if the outcome changed (R54, R55). -/
def State.deliverIfChanged (s : State) (k : Nat) : State :=
  if (s.shaft k).outcome = some (s.standingEval k) then s else s.evaluateAndDeliver k

/-- A SHAFT_HELD notice with both values (R29). -/
def State.notifyHeld (s : State) (k : Nat) : State :=
  s.notify (.shaftHeld k (s.shaft k).outcome (s.shaft k).heldReason)

/-- The re-evaluation of a HELD shaft at a count or a mark (R53). The delivery comes before the SHAFT_HELD notice: R53 fixes
no order, and this one is the model's choice (notes/assumptions/38.md). -/
def State.heldReevaluate (s : State) (k : Nat) : State :=
  if (s.shaft k).outcome = some (s.standingEval k) then s else (s.evaluateAndDeliver k).notifyHeld k

/-- The re-evaluation of a HELD shaft at a clear-set change: delivered in any case, and the reason updated (R29, R53). -/
def State.heldSetChange (s : State) (k : Nat) : State :=
  let old := s.shaft k
  let s := s.modShaft k fun x => { x with heldReason := x.requestReason.or x.heldReason }
  let s := s.evaluateAndDeliver k
  let new := s.shaft k
  if new.outcome = old.outcome ∧ new.heldReason = old.heldReason then s else s.notifyHeld k

/-! ### Entries to the states (R18, R24 to R30) -/

/-- DEGRADED set or cleared, with a SHAFT_DEGRADED notice on a change (R26). -/
def State.setDegraded (s : State) (k : Nat) (on : Bool) : State :=
  if (s.shaft k).degraded = on then s
  else (s.modShaft k fun x => { x with degraded := on }).notify (.shaftDegraded k on)

/-- A shaft takes a state and its outputs; DEGRADED clears outside RUNNING and LAST_RUN, and the lamps are recomputed
(R18, R26, R33). The SHAFT_DEGRADED notice comes first, then the LAMP frames, and any other notice of the step, such as
SHAFT_TRIP or SHAFT_UNCLEARABLE, after them: no rule fixes that order, and this one is the model's choice
(notes/assumptions/38.md). -/
def State.enterShaft (s : State) (k : Nat) (st : ShaftState) (permit creep brake : Bool) : State :=
  let s := s.modShaft k fun x => { x with
    state := st, permit := permit, creep := creep, brake := brake
    heldReason := if st = .held then x.heldReason else none }
  let s := if st = .running ∨ st = .lastRun then s else s.setDegraded k false
  s.recomputeLamps k

/-- Entry to STOPPING: the brake is on; the counts and the home timer of the state left are discarded (R28). -/
def State.enterStopping (s : State) (k : Nat) : State :=
  let s := s.modShaft k fun x => { x with remaining := none, advance := none, homeTimer := none }
  s.enterShaft k .stopping false false true

/-- The final-stop order (R52). -/
def State.finalStop (s : State) (k : Nat) : State :=
  let x := s.shaft k
  match x.state with
  | .lastRun =>
    let s := s.modShaft k fun x => { x with
      stopReason := if x.clearSet = [] then some .park else x.requestReason, bar := true }
    s.enterStopping k
  | .clearing => (s.modShaft k fun x => { x with bar := true }).enterStopping k
  | .stopping => s.modShaft k fun x => { x with bar := true }
  | _ => s

/-- The final-stop order that an overdue close gives in the step of an entry to LAST_RUN or CLEARING (R144). -/
def State.overdueStop (s : State) (k : Nat) : State := if s.day.overdue then s.finalStop k else s

/-- Entry to CLEARING with a remaining distance; at s_c the brake point is already reached (R46, R47, R50). -/
def State.enterClearing (s : State) (k d : Nat) : State :=
  let s := s.modShaft k fun x => { x with remaining := some d, advance := none }
  let s := s.enterShaft k .clearing true true false
  (if d ≤ (s.geometry k).sc then s.enterStopping k else s).overdueStop k

/-- A trip: the shaft latches TRIPPED with a cause, unless it is disabled or TRIPPED already (R30, R55). That a trip of a
STOPPING shaft already at standstill sets the outcome to none, as R55's list says of every trip in STOPPING, where its later
paragraph keeps the outcome of a shaft at standstill, is the model's choice (notes/assumptions/46.md). -/
def State.tripShaft (s : State) (k : Nat) (c : TripCause) : State :=
  let x := s.shaft k
  if s.shaftEnabled k = false ∨ x.state = .tripped then s
  else
    let s := s.modShaft k fun x => { x with
      trip := some c, homeTimer := none, advance := none, remaining := none
      answered := decide (x.standstill = 3)
      outcome := if x.state = .clearing ∨ x.state = .stopping then none else x.outcome }
    let s := s.enterShaft k .tripped false false true
    (s.notify (.shaftTrip k (some c))).closingCheck

/-- A trip of the shaft of a landing reference, if there is one. -/
def State.tripLanding (s : State) (c : TripCause) : Option LandingRef → State
  | some r => s.tripShaft r.shaft c
  | none => s

/-- Entry to HELD: the reason from the set, or the stop reason; delivery, notice, closing check (R29, R42, R49). No rule fixes
that the SHUTTER_STATE notices of the delivery come first, then SHAFT_HELD, then the STORE_MODE of the closing check: the
model's choice (notes/assumptions/41.md). With an empty set and PARK set, R49 gives the stop reason and R29's table the origin
of PARK; that the requests are read first is the model's choice (notes/assumptions/46.md). -/
def State.enterHeld (s : State) (k : Nat) (o : Outcome) : State :=
  let s := s.modShaft k fun x => { x with outcome := some o, heldReason := x.requestReason.or x.stopReason }
  let s := s.enterShaft k .held false false true
  ((s.deliver k).notifyHeld k).closingCheck

/-! ### Running a clear stop (R45 to R51) -/

/-- A plan made and written to the plan record (R44). -/
def State.makePlan (s : State) (k v : Nat) : State :=
  let x := s.shaft k
  s.modShaft k fun y => { y with plan := some ((s.geometry k).plan x.clearSet x.pos v) }

/-- The distance of the plan record, when its result is TARGET. -/
def Shaft.plannedDistance (x : Shaft) : Option Nat := (x.plan.bind Plan.target).map PlanTarget.distance

/-- An UNCLEARABLE plan: the brake drops at once, UNCLEAR is delivered, and the plan is counted and reported (R45). -/
def State.unclearable (s : State) (k : Nat) : State :=
  let s := s.enterStopping k
  let s := s.modShaft k fun x => { x with outcome := some .unclear, unclearables := bump x.unclearables }
  (s.deliver k).notify (.shaftUnclearable k)

/-- The plan of a moving shaft acted on: CLEARING with its distance, or UNCLEARABLE (R46, R48). -/
def State.planMoving (s : State) (k : Nat) : State :=
  let s := s.makePlan k (s.shaft k).speed
  match (s.shaft k).plannedDistance with
  | some d => s.enterClearing k d
  | none => s.unclearable k

/-- The stop reason recorded from the request record, if it holds anything (R46). -/
def State.recordReason (s : State) (k : Nat) : State :=
  s.modShaft k fun x => { x with stopReason := x.requestReason.or x.stopReason }

/-- The start of a clear stop from RUNNING or LAST_RUN (R46). -/
def State.startClearStop (s : State) (k : Nat) : State :=
  let s := s.modShaft k fun x => { x with
    advance := none, reapproach := 0, bar := false, outcome := none, clearStops := bump x.clearStops }
  (s.recordReason k).planMoving k

/-- A re-plan in CLEARING (R48). An UNCLEARABLE plan drops the brake (R45). -/
def State.replan (s : State) (k : Nat) : State :=
  let s := s.makePlan k (s.shaft k).speed
  match (s.shaft k).plannedDistance with
  | some d =>
    if d ≤ (s.geometry k).sc then s.enterStopping k else s.modShaft k fun x => { x with remaining := some d }
  | none => s.unclearable k

/-- The stop from HOMING (R51). -/
def State.homingStop (s : State) (k : Nat) : State :=
  let s := s.enterStopping k
  let s := s.modShaft k fun x => { x with
    reapproach := 0, bar := false, outcome := some .unclear, clearStops := bump x.clearStops }
  (s.recordReason k).deliver k

/-- Whether every shutter across a shaft is OPEN, RELEASE_WAIT or ISOLATED (R50). -/
def State.reapproachShutters (s : State) (k : Nat) : Bool :=
  (s.shaftShutters k).all fun i =>
    match (s.shutterLive i).state with
    | .open | .releaseWait | .isolated => true
    | _ => false

/-- Whether every condition of a re-approach but its plan holds (R50). -/
def State.mayReapproach (s : State) (k : Nat) : Bool :=
  let x := s.shaft k
  decide (x.reapproach < 2) && !x.bar && decide (s.day.mode ≠ .closed) && x.ready && !x.fault && s.reapproachShutters k

/-- A forbidden standing phase at the standstill check: a re-approach is attempted, planned with v taken as 0 (R49, R50). -/
def State.attemptReapproach (s : State) (k : Nat) : State :=
  let may := s.mayReapproach k
  let s := s.makePlan k 0
  match (s.shaft k).plannedDistance with
  | some d =>
    if may then
      (s.modShaft k fun x => { x with
        reapproach := x.reapproach + 1, outcome := none, reapproaches := bump x.reapproaches }).enterClearing k d
    else (s.modShaft k fun x => { x with heldUnclear := bump x.heldUnclear }).enterHeld k .unclear
  | none =>
    (s.modShaft k fun x => { x with
      unclearables := bump x.unclearables, heldUnclear := bump x.heldUnclear }).enterHeld k .unclear

/-- The standstill check (R49). -/
def State.standstillCheck (s : State) (k : Nat) : State :=
  match s.standingEval k with
  | .clear => s.enterHeld k .clear
  | .unclear => if (s.shaft k).posValid then s.attemptReapproach k else s.enterHeld k .unclear

/-- The standstill event, by the shaft's state (R49, R54, R55). -/
def State.standstillEvent (s : State) (k : Nat) : State :=
  let x := s.shaft k
  match x.state with
  | .stopping => s.standstillCheck k
  | .idle => if x.clearSet = [] then s else s.deliverIfChanged k
  | .tripped =>
    let s := s.modShaft k fun x => { x with answered := true }
    if x.answered then s.deliverIfChanged k else s.evaluateAndDeliver k
  | _ => s

/-! ### Clear-set changes (R38, R39 and the table of section 3.5) -/

/-- A clear-set change acted on by the rule of the shaft's present state (section 3.5). -/
def State.actOnSet (s : State) (k : Nat) : State :=
  let x := s.shaft k
  if s.shaftEnabled k = false then s.evaluateAndDeliver k
  else match x.state with
    | .running | .lastRun => if x.clearSet = [] then s else s.startClearStop k
    | .clearing => (if x.clearSet = [] then s else s.recordReason k).replan k
    | .stopping => if x.clearSet = [] then s else s.recordReason k
    | .homing => if x.clearSet = [] then s else s.homingStop k
    | .held => s.heldSetChange k
    | .idle => s.evaluateAndDeliver k
    | .tripped =>
      if x.standstill = 3 then (s.modShaft k fun x => { x with answered := true }).evaluateAndDeliver k
      else s.modShaft k fun x => { x with answered := false }

/-- The clear set recomputed; a clear-set change is acted on at once. `old` is the shaft before the event (R39). Whole sill
records are compared, so that a write of the landing station or the side alone of a sill in the set is a change: R39 leaves
that open, and it is the model's choice (notes/assumptions/42.md). -/
def State.clearSetEvent (s : State) (k : Nat) (old : Shaft) : State :=
  let set := s.computeClearSet k
  let s := s.modShaft k fun x => { x with clearSet := set }
  let new := s.shaft k
  if new.zoneFlags = old.zoneFlags ∧ new.park.isSome = old.park.isSome ∧ set = old.clearSet then s else s.actOnSet k

/-- The clear set recomputed after a write of the tables (R39). -/
def State.recomputeSet (s : State) (k : Nat) : State := s.clearSetEvent k (s.shaft k)

/-- A zone's flag set or withdrawn in a shaft's request record (R38). -/
def State.setZoneFlag (s : State) (k z : Nat) (on : Bool) : State :=
  let old := s.shaft k
  let flags := if on then old.zoneFlags ||| ZoneMask.single z else old.zoneFlags &&& ~~~ ZoneMask.single z
  (s.modShaft k fun x => { x with zoneFlags := flags }).clearSetEvent k old

/-- A change of PARK origin alone acts only on the HELD reason (R29, R38). -/
def State.originChanged (s : State) (k : Nat) : State :=
  let x := s.shaft k
  if x.state = .held ∧ x.requestReason.or x.heldReason ≠ x.heldReason then
    (s.modShaft k fun x => { x with heldReason := x.requestReason.or x.heldReason }).notifyHeld k
  else s

/-- A PARK request of an origin (R29, R35, R38). -/
def State.requestPark (s : State) (k : Nat) (o : ParkOrigin) : State :=
  let old := s.shaft k
  match old.park, o with
  | none, o => (s.modShaft k fun x => { x with park := some o }).clearSetEvent k old
  | some .day, .order => (s.modShaft k fun x => { x with park := some .order }).originChanged k
  | some _, _ => s

/-- The PARK request withdrawn (R34, R38, R145). -/
def State.withdrawPark (s : State) (k : Nat) : State :=
  let old := s.shaft k
  if old.park = none then s else (s.modShaft k fun x => { x with park := none }).clearSetEvent k old

/-! ### RUNNING, LAST_RUN and HOMING (R25 to R27) -/

/-- Whether some landing station of a shaft is not PRESENT (R26). -/
def State.landingSilent (s : State) (k : Nat) : Bool :=
  (s.landings k).any fun l => !(s.landingStation k l).any s.isPresent

/-- DEGRADED evaluated in RUNNING or LAST_RUN: CREEP follows it, and the lamps are recomputed (R26). -/
def State.evaluateDegraded (s : State) (k : Nat) : State :=
  let st := (s.shaft k).state
  if st = .running ∨ st = .lastRun then
    let on := s.landingSilent k
    let s := (s.setDegraded k on).modShaft k fun x => { x with creep := on }
    s.recomputeLamps k
  else s

/-- A shaft enters RUNNING or LAST_RUN with the DEGRADED flag evaluated on entry (R26, R27). -/
def State.enterService (s : State) (k : Nat) (st : ShaftState) : State :=
  let on := s.landingSilent k
  let s := s.setDegraded k on
  s.enterShaft k st true on false

/-- Entry to LAST_RUN; an overdue close stops it at once (R27, R144). -/
def State.enterLastRun (s : State) (k : Nat) : State :=
  let s := s.modShaft k fun x => { x with advance := some 0 }
  (s.enterService k .lastRun).overdueStop k

/-- Entry to RUNNING by START_SHAFT or the end of homing; LAST_RUN during LAST_CALL (R26). -/
def State.enterRunning (s : State) (k : Nat) : State :=
  if s.day.mode = .lastCall then s.enterLastRun k
  else (s.modShaft k fun x => { x with bar := false, advance := none }).enterService k .running

/-- A HOMING shaft given a PARK request of origin DAY by the close wait: it stops at once, also where no sill is in use and
the request leaves its set empty (R51, R144). -/
def State.parkHoming (s : State) (k : Nat) : State :=
  let s := s.requestPark k .day
  if (s.shaft k).state = .homing then s.homingStop k else s

/-- Entry to HOMING; an overdue close makes a PARK request of origin DAY (R25, R144). -/
def State.enterHoming (s : State) (k : Nat) : State :=
  let g := s.geometry k
  let len := sec ((5 * g.L + 4 * g.Vc - 1) / (4 * g.Vc))
  let s := s.modShaft k fun x => { x with bar := false, homeTimer := s.after len }
  let s := s.enterShaft k .homing true true false
  if s.day.overdue then s.parkHoming k else s

/-- Entry to IDLE (R24). -/
def State.enterIdle (s : State) (k : Nat) : State :=
  (s.modShaft k fun x => { x with settling := 0, trip := none }).enterShaft k .idle false false true

/-- The last run's full circuit is done: a PARK request of origin DAY starts a clear stop, whatever the set (R27, R46). -/
def State.completeLastRun (s : State) (k : Nat) : State :=
  let s := s.modShaft k fun x => { x with park := some (x.park.getD .day) }
  let set := s.computeClearSet k
  (s.modShaft k fun x => { x with clearSet := set }).startClearStop k

/-- The Day Sequencer's last-run order (R27, R142). -/
def State.lastRunOrder (s : State) (k : Nat) : State :=
  if s.shaftEnabled k && decide ((s.shaft k).state = .running) then s.enterLastRun k else s

/-- The Day Sequencer's cancel order: a LAST_RUN shaft returns to RUNNING, and a PARK request of origin DAY is
withdrawn (R27, R145). -/
def State.cancelOrder (s : State) (k : Nat) : State :=
  let s := if s.shaftEnabled k && decide ((s.shaft k).state = .lastRun) then
      (s.modShaft k fun x => { x with bar := false, advance := none }).enterService k .running else s
  if (s.shaft k).park = some .day then s.withdrawPark k else s

/-! ### Shaft orders (R34 to R36) -/

/-- The shutters of START_SHAFT's condition: every shutter across the shaft is OPEN or ISOLATED (R34). -/
def State.startShutters (s : State) (k : Nat) : Bool :=
  (s.shaftShutters k).all fun i =>
    match (s.shutterLive i).state with
    | .open | .isolated => true
    | _ => false

/-- Whether a condition of START_SHAFT's list holds (R34). -/
def State.startBarred (s : State) (k : Nat) : Bool :=
  let x := s.shaft k
  decide (s.day.mode = .closed) || !x.ready || x.fault || !s.startShutters k ||
    ((s.landings k).any fun l => (s.landingLive k l).stopPulled) ||
    ((s.landings k).any fun l => s.overlayOf (s.landingZone k l)) ||
    decide (x.zoneFlags ≠ 0#16)

/-- START_SHAFT (R34). -/
def State.orderStart (s : State) (k : Nat) : State × Status × Detail :=
  if 2 ≤ k then (s, .badIndex, .none)
  else if s.shaftEnabled k = false then (s, .refusedState, .none)
  else
    let x := s.shaft k
    if (x.state = .idle ∨ x.state = .held) ∧ s.startBarred k = false then
      let s := (s.withdrawPark k).modShaft k fun x => { x with reapproach := 0 }
      (if x.posValid then s.enterRunning k else s.enterHoming k, .done, .none)
    else (s, .refusedState, .none)

/-- STOP_SHAFT (R35). -/
def State.orderStop (s : State) (k : Nat) : State × Status × Detail :=
  if 2 ≤ k then (s, .badIndex, .none)
  else if s.shaftEnabled k = false then (s, .refusedState, .none)
  else (s.requestPark k .order, .done, .none)

/-- The part of RESET_SHAFT's condition that fails, the first in the order of the list (R36). -/
def State.notCleared (s : State) (k : Nat) : Option ClearedPart :=
  let x := s.shaft k
  if !x.ready || x.fault then some .drive
  else if (s.landings k).any fun l => (s.landingLive k l).stopPulled || (s.landingLive k l).sillTripped then some .landings
  else if x.standstill ≠ 3 then some .standstill
  else none

/-- RESET_SHAFT (R36, R54). -/
def State.orderReset (s : State) (k : Nat) : State × Status × Detail :=
  if 2 ≤ k then (s, .badIndex, .none)
  else if s.shaftEnabled k = false then (s, .refusedState, .none)
  else if (s.shaft k).state ≠ .tripped then (s, .refusedState, .none)
  else match s.notCleared k with
    | some p => (s, .refusedState, .failedPart p)
    | none =>
      let s := (s.enterIdle k).modShaft k fun x => { x with reapproach := 0 }
      let s := if (s.shaft k).clearSet = [] then s else s.evaluateAndDeliver k
      (s.closingCheck, .done, .none)

end Sys2Proof.Machine
end

