-- ==== Sys2Proof/Machine/Shafts.lean ====
section
/-! DEFINITION. Chapter 2: the shaft interfaces and the shaft timers. Counts, the home mark, speed windows, drive signals,
landing reports, and the meanings of FORWARD_COUNT to LAMP_REFRESH. -/

namespace Sys2Proof.Machine

/-! ### Counts (R20, R21) -/

/-- A forward count applied to the position, the window and the standstill run (R20, R23). -/
def Shaft.countForward (x : Shaft) (L : Nat) : Shaft :=
  { x with
    pos := if x.posValid then (x.pos + 1) % L else x.pos
    windowCount := x.windowCount + 1, windowMoved := true, standstill := 0 }

/-- A backward count applied to the position and the standstill run (R21, R23). -/
def Shaft.countBackward (x : Shaft) (L : Nat) : Shaft :=
  { x with pos := if x.posValid then subMod x.pos 1 L else x.pos, windowMoved := true, standstill := 0 }

/-- What a forward count does beyond the counting, by the shaft's state (R20, R27, R47, R53). -/
def State.afterForward (s : State) (k : Nat) : State :=
  let x := s.shaft k
  match x.state with
  | .lastRun =>
    let n := x.advance.getD 0 + 1
    let s := s.modShaft k fun x => { x with advance := some n }
    if (s.geometry k).L ≤ n then s.completeLastRun k else s
  | .clearing =>
    let d := x.remaining.getD 0 - 1
    if d ≤ (s.geometry k).sc then s.enterStopping k else s.modShaft k fun x => { x with remaining := some d }
  | .held => s.heldReevaluate k
  | _ => s

/-- What a backward count does beyond the counting, by the shaft's state (R21, R53). -/
def State.afterBackward (s : State) (k : Nat) : State :=
  let x := s.shaft k
  match x.state with
  | .idle =>
    let s := s.modShaft k fun x => { x with settling := x.settling + 1 }
    if 5 ≤ x.settling + 1 then s.tripShaft k .reverse else s
  | .held => (s.heldReevaluate k).tripShaft k .reverse
  | _ => s.tripShaft k .reverse

/-! ### The home mark (R22, R25) -/

/-- Whether the position read at the home mark lies within the slip tolerance of H, the shorter way round (R22). -/
def Geometry.withinSlip (g : Geometry) (pos : Nat) : Bool :=
  let d := subMod pos g.H g.L
  decide ((if g.L < 2 * d then g.L - d else d) ≤ g.slip)

/-- A home mark (R22); in HOMING it ends homing (R25), in HELD the outcome is evaluated again (R53). -/
def State.homeMark (s : State) (k : Nat) : State :=
  let x := s.shaft k
  let g := s.geometry k
  if x.posValid && !g.withinSlip x.pos then
    (s.modShaft k fun x => { x with posValid := false }).tripShaft k .slip
  else
    let s := s.modShaft k fun x => { x with pos := g.H, posValid := true }
    match x.state with
    | .homing => (s.modShaft k fun x => { x with homeTimer := none }).enterRunning k
    | .held => s.heldReevaluate k
    | _ => s

/-! ### Speed windows (R23) -/

/-- The end of a speed window: measure, overspeed, clamp, standstill (R23). A disabled shaft takes no count and no trip
(R16, R30), and its windows run on: its speed becomes 0 and its standstill count rises, and no standstill event acts on
it. -/
def State.endWindow (s : State) (k : Nat) : State :=
  let x := s.shaft k
  let raw := x.windowCount * 10
  let s := s.modShaft k fun x => { x with windowCount := 0, windowMoved := false }
  let s := if (s.geometry k).Vmax < raw then s.tripShaft k .overspeed else s
  let s := s.modShaft k fun y => { y with
    speed := min raw 4000
    standstill := if x.windowMoved then y.standstill else min 3 (y.standstill + 1) }
  if s.shaftEnabled k && decide ((s.shaft k).standstill = 3) then s.standstillEvent k else s

/-! ### Landing reports (R32) -/

/-- The shaft and landing whose sills name a landing station (R16, R32). -/
def State.landingOf (s : State) (i : Nat) : Option (Nat × Nat) :=
  [0, 1].findSome? fun k =>
    ((s.sills k).find? fun x => decide (x.station = i)).map fun x => (k, x.landing)

/-- A LANDING report counted as unmatched (R32). -/
def State.unmatchedLanding (s : State) (k : Nat) : State :=
  s.modShaft k fun x => { x with unmatchedLandings := bump x.unmatchedLandings }

/-- A LANDING report of a station (R32). -/
def State.landingReport (s : State) (sender : Option Nat) (sill stop : Bool) : State :=
  match sender.bind s.landingOf with
  | none => s.unmatchedLanding 0
  | some (k, l) =>
    if s.shaftEnabled k then
      let s := s.modLanding k l fun x => { x with sillTripped := sill, stopPulled := stop }
      if stop then s.tripShaft k .landingStop else if sill then s.tripShaft k .sillTrip else s
    else s.unmatchedLanding k

/-- Loss or regain of a landing station: DEGRADED and the lamps, and at a regain the landing's lamp is sent (R26, R33). -/
def State.landingStationChanged (s : State) (i : Nat) (regain : Bool) : State :=
  match s.landingOf i with
  | none => s
  | some (k, l) =>
    if s.shaftEnabled k then
      let before := (s.landingLive k l).lamp
      let s := (s.evaluateDegraded k).recomputeLamps k
      if regain && decide ((s.landingLive k l).lamp = before) then s.sendLamp k l else s
    else s

/-! ### Meanings -/

/-- FORWARD_COUNT (R20). -/
def execForwardCount (k : Nat) (s : State) : Host.Outcome State Fault Refusal :=
  if s.shaftEnabled k then
    .next ((s.modShaft k fun x => x.countForward (s.geometry k).L).afterForward k)
  else .next s

/-- BACKWARD_COUNT (R21). -/
def execBackwardCount (k : Nat) (s : State) : Host.Outcome State Fault Refusal :=
  if s.shaftEnabled k then
    .next ((s.modShaft k fun x => x.countBackward (s.geometry k).L).afterBackward k)
  else .next s

/-- HOME_MARK (R22). -/
def execHomeMark (k : Nat) (s : State) : Host.Outcome State Fault Refusal :=
  if s.shaftEnabled k then .next (s.homeMark k) else .next s

/-- READY_LOST: a trip DRIVE if PERMIT is on (R31). -/
def execReadyLost (k : Nat) (s : State) : Host.Outcome State Fault Refusal :=
  let s := s.modShaft k fun x => { x with ready := false }
  if (s.shaft k).permit then .next (s.tripShaft k .drive) else .next s

/-- READY_GAINED: no immediate effect (R31). -/
def execReadyGained (k : Nat) (s : State) : Host.Outcome State Fault Refusal :=
  .next (s.modShaft k fun x => { x with ready := true })

/-- FAULT_RAISED: a trip DRIVE in every state other than TRIPPED (R31). -/
def execFaultRaised (k : Nat) (s : State) : Host.Outcome State Fault Refusal :=
  .next ((s.modShaft k fun x => { x with fault := true }).tripShaft k .drive)

/-- FAULT_CLEARED: no immediate effect (R31). -/
def execFaultCleared (k : Nat) (s : State) : Host.Outcome State Fault Refusal :=
  .next (s.modShaft k fun x => { x with fault := false })

/-- SPEED_WINDOW_END: a window that runs ends, and the next begins (R23). -/
def execSpeedWindowEnd (k : Nat) (s : State) : Host.Outcome State Fault Refusal :=
  match (s.shaft k).windowEnd with
  | none => .next s
  | some t =>
    let s := (s.reach t).modShaft k fun x => { x with windowEnd := some (t + Config.speedWindow) }
    .next (s.endWindow k)

/-- HOME_TIMEOUT: a trip HOME_TIMEOUT (R25). -/
def execHomeTimeout (k : Nat) (s : State) : Host.Outcome State Fault Refusal :=
  match (s.shaft k).homeTimer with
  | none => .next s
  | some t => .next ((s.reach t).tripShaft k .homeTimeout)

/-- LAMP_REFRESH: 5 s after the last LAMP frame of a landing it is sent again, while the station is PRESENT (R33). -/
def execLampRefresh (k l : Nat) (s : State) : Host.Outcome State Fault Refusal :=
  match (s.landingLive k l).refresh with
  | none => .next s
  | some t =>
    let s := (s.reach t).modLanding k l fun x => { x with refresh := none }
    if s.shaftEnabled k then .next (s.sendLamp k l) else .next s

end Sys2Proof.Machine
end

