-- ==== Sys2Proof/Machine/Playback.lean ====
section
/-! DEFINITION. Chapter 9: the Playback Unit. Phrases, the zone map and tuning, sample blocks, EVAC, stored
announcements, the live page, and the meanings of TUNE_EVAC_REFRESH to PAGE_IDLE_TIMEOUT. -/

namespace Sys2Proof.Machine

/-! ### Phrases (R148, R149) -/

/-- The validity of a directory entry: the first condition of R148's table that applies. -/
def PhraseEntry.validity (e : PhraseEntry) : PhraseValidity :=
  if e.count = 0 then .empty
  else if e.start < 0x400 ∨ e.start % 2 = 1 then .invalid
  else if e.count < 64 then .invalid
  else if Config.phraseStoreSize < e.start + 2 * e.count then .invalid
  else if 511 < e.gain then .invalid
  else .valid

/-- Bytes, high byte first, as a number. -/
def ofBytes (bs : List Byte) : Nat := bs.foldl (fun n b => n * 256 + b.toNat) 0

/-- Entry n of the phrase header: 8 bytes at address n × 8 (R148). -/
def PhraseStore.headerEntry (m : PhraseStore) (n : Nat) : PhraseEntry :=
  { start := ofBytes (m.readRun (n * 8) 3)
    count := ofBytes (m.readRun (n * 8 + 3) 3)
    gain := ofBytes (m.readRun (n * 8 + 6) 2) }

/-- The phrase directory read from the header (R148). -/
def State.readDirectory (s : State) : State :=
  s.modPlayback fun p => { p with directory := Tab.ofFn 128 s.store.headerEntry }

/-- A directory entry. -/
def State.phrase (s : State) (n : Nat) : PhraseEntry := s.playback.directory.getD n {}

/-- Whether a phrase number names a VALID entry (R148). -/
def State.phraseValid (s : State) (n : Nat) : Bool := decide ((s.phrase n).validity = .valid)

/-- Whether the evacuation phrase is valid: present, with a VALID entry (R149). -/
def State.evacValid (s : State) : Bool := s.globals.evacPhrase.any s.phraseValid

/-! ### Zones and speakers (R150) -/

/-- The PRESENT speakers of a zone. -/
def State.presentSpeakers (s : State) (z : Nat) : List Nat := (s.stationsIn .speaker z).filter s.isPresent

/-- Whether a zone takes EVAC (R150). -/
def State.takesEvac (s : State) (z : Nat) : Bool :=
  decide ((s.zone z).state = .alarm) && (s.zoneCfg z).voice && s.evacValid

/-- Whether the page mask holds a zone (R160). -/
def State.takesPage (s : State) (z : Nat) : Bool := decide (s.playback.page.phase ≠ .idle) && s.playback.page.zones.getLsbD z

/-- The channel of a zone: the first line of R150's table that applies. -/
def State.mapEntry (s : State) (z : Nat) : Chan :=
  if s.takesEvac z then .evac
  else if s.takesPage z then .page
  else if s.playback.stored.any fun p => p.taken.getLsbD z then .stored
  else .none

/-- A zone's entry of the zone map (R150). -/
def State.zoneChan (s : State) (z : Nat) : Chan := s.playback.zoneMap.getD z .none

/-- The channel a speaker is tuned to: its zone's map entry; NONE without a zone (R151). -/
def State.speakerChan (s : State) (i : Nat) : Chan :=
  match (s.station i).bind StationCfg.zone with
  | some z => s.zoneChan z
  | none => .none

/-- The queue class of a TUNE frame (R151). -/
def tuneClass (last : Option Chan) (c : Chan) : QueueClass :=
  if c = .evac ∨ last = some .evac then .safety else .normal

/-- A TUNE frame to a PRESENT speaker, with its present tuning (R151). -/
def State.tune (s : State) (i : Nat) : State :=
  if s.isPresent i then
    let c := s.speakerChan i
    let q := tuneClass (s.playback.tuning.at? i) c
    (s.modPlayback fun p => { p with tuning := p.tuning.set i (some c) }).sendTo i q Kind.tune
      (tunePayload c (s.effective i).fade)
  else s

/-! ### Samples (R152, R153) -/

/-- An output sample: floor((s × g + 128) / 256), clamped to −2,048 to 2,047 (R153). -/
def outSample (x : Sample) (g : Nat) : Sample :=
  BitVec.ofInt 12 (max (-2048) (min 2047 ((x.toInt * g + 128) / 256)))

/-- The gain used for the k-th sample, counted from 1, of a rising ramp (R153). -/
def rising (g k : Nat) : Nat := if k ≤ 32 then g * k / 32 else g

/-- The gain used for the sample that is the j-th from the end of a phrase (R153). -/
def falling (g j : Nat) : Nat := if j ≤ 32 then g * j / 32 else g

/-- The gain of a pass: floor(gain × phrase gain / 256), at most 511 (R153). -/
def passGain (gain phraseGain : Nat) : Nat := min 511 (gain * phraseGain / 256)

/-- The sample in the word at an address: the low 12 bits, high byte first (R148). -/
def PhraseStore.sampleAt (m : PhraseStore) (a : Nat) : Sample := (m.read a).extractLsb' 0 4 ++ m.read (a + 1)

/-- Sample n of a pass as it is put out; past the end of the phrase it is 0, and while a block is being programmed it
is played as 0 (R153, R191). -/
def Cursor.output (c : Cursor) (m : PhraseStore) (busy : Bool) (n : Nat) : Sample :=
  if n < c.entry.count ∧ busy = false then
    let j := c.entry.count - n
    outSample (m.sampleAt (c.entry.start + 2 * n)) (if n < 32 then rising c.gain (n + 1) else falling c.gain j)
  else 0#12

/-- The 24 output samples of the next block of a pass (R152). -/
def Cursor.block (c : Cursor) (m : PhraseStore) (busy : Bool) : List Sample :=
  (List.range 24).map fun k => c.output m busy (c.sample + k)

/-- The cursor after a block. -/
def Cursor.advance (c : Cursor) : Cursor := { c with sample := c.sample + 24 }

/-- Whether the last block of the phrase has been emitted. -/
def Cursor.ended (c : Cursor) : Bool := decide (c.entry.count ≤ c.sample)

/-- Whether the next block's samples lie in the phrase store (R148). -/
def Cursor.inStore (c : Cursor) : Bool := decide (c.entry.start + 2 * c.entry.count ≤ Config.phraseStoreSize)

/-- Whether a port is the home port of a PRESENT speaker whose zone follows a channel (R152). -/
def State.portFollows (s : State) (c : Chan) (p : Nat) : Bool :=
  (s.stationsOf .speaker).any fun i =>
    s.isPresent i && decide (s.speakerChan i = c) && (s.station i).any fun x => decide (x.homePort = p)

/-- A SAMPLES frame of a channel, one copy to each port that follows it (R152). -/
def State.emit (s : State) (c : Chan) (group : Addr) (block : Nat) (samples : List Sample) : State :=
  s.forEach ((List.range 5).filter fun p => s.portFollows c p) fun s p =>
    s.offer p .stream { dest := group, src := s.globals.own, kind := Kind.samples, payload := .raw (samplesPayload block samples) }

/-- Whether a phrase block is being programmed (R191). -/
def State.storeBusy (s : State) : Bool := s.settings.writing.isSome

/-- A block moment affected by a programming is counted (R191). -/
def State.countBusy (s : State) : State :=
  if s.storeBusy then s.modMgmt fun m => { m with phraseBusy := bump m.phraseBusy } else s

/-- The next block of EVAC emitted (R152, R154). -/
def State.emitEvac (s : State) (p : EvacPlay) : State :=
  let s := s.countBusy.emit .evac evacGroup p.block (p.cursor.block s.store s.storeBusy)
  s.modPlayback fun q => { q with evac := some { p with
    cursor := p.cursor.advance, block := (p.block + 1) % 256, clock := p.clock.map (· + Config.blockPeriod) } }

/-- The next block of STORED emitted (R152). -/
def State.emitStored (s : State) (p : StoredPlay) : State :=
  let s := s.countBusy.emit .stored storedGroup p.block (p.cursor.block s.store s.storeBusy)
  s.modPlayback fun q => { q with stored := some { p with
    cursor := p.cursor.advance, block := (p.block + 1) % 256, clock := p.clock.map (· + Config.blockPeriod) } }

/-! ### EVAC (R154) -/

/-- A pass of EVAC from the settings then in force (R149, R154). -/
def State.evacPass (s : State) : Cursor :=
  let e := s.phrase (s.globals.evacPhrase.getD 0)
  { entry := e, gain := passGain s.globals.evacGain e.gain }

/-! ### Stored announcements (R155 to R159) -/

/-- A fallback ring placed with each sounder of a zone; each one taken is counted (R159). -/
def State.fallbackRing (s : State) (z : Nat) : State :=
  s.forEach (s.stationsIn .sounder z) fun s i =>
    let (s, taken) := s.ring i .fallback (.chime 2) .playback
    if taken then s.countPlayback fun c => { c with fallback := bump c.fallback } else s

/-- The zones of a request that it may reach at its start: neither EVAC nor PAGE, nor in the alarm overlay (R156). -/
def State.eligibleZones (s : State) (r : StoredRequest) : List Nat :=
  r.zones.zones.filter fun z => !(s.takesEvac z || s.takesPage z || s.overlay z)

/-- The mask of a list of zones. -/
def maskOf (zs : List Nat) : ZoneMask := zs.foldl (fun m z => m ||| ZoneMask.single z) 0#16

/-- One request started (R156): the fallback rings, then the current announcement, or the count of one not played. -/
def State.startRequest (s : State) (r : StoredRequest) : State :=
  let eligible := s.eligibleZones r
  let taken := eligible.filter fun z => decide (s.presentSpeakers z ≠ [])
  let silent := eligible.filter fun z => decide (s.presentSpeakers z = [])
  let rung := silent.any fun z => decide (s.stationsIn .sounder z ≠ [])
  let s := s.forEach silent State.fallbackRing
  if taken = [] then
    s.countPlayback fun c =>
      if rung then { c with bellOnly := bump c.bellOnly } else { c with skipped := bump c.skipped }
  else
    let e := s.phrase r.phrase
    s.modPlayback fun p => { p with stored := some {
      request := r, taken := maskOf taken
      cursor := { entry := e, gain := passGain r.gain e.gain }, clock := some s.now } }

/-- Heads of the stored queue started until one plays or the queue is empty (R156). -/
def State.startHeads (s : State) : List StoredRequest → State
  | [] => s.modPlayback fun p => { p with queue := [] }
  | r :: rest =>
    let s := (s.modPlayback fun p => { p with queue := rest }).startRequest r
    if s.playback.stored.isSome then s else s.startHeads rest

/-- The next head started, if STORED has no current announcement (R156). -/
def State.startNext (s : State) : State :=
  if s.playback.stored.isSome then s else s.startHeads s.playback.queue

/-- Whether a taken zone stays with the current announcement as far as the zone itself goes (R157). -/
def State.keepsZone (s : State) (z : Nat) : Bool := !(s.takesEvac z || s.takesPage z || s.overlay z)

/-- The current announcement abandoned (R157). -/
def State.abandonStored (s : State) (p : StoredPlay) : State :=
  let s := s.modPlayback fun q => { q with stored := none }
  let s := s.countPlayback fun c => { c with abandoned := bump c.abandoned }
  (s.notify (.storedAbandoned p.request.number)).startNext

/-- The zones lost to the current announcement: each is counted, one left without a speaker is rung, and an announcement
left without zones is abandoned, its fallback rings placed first: the order is the model's choice
(R157, R159; notes/assumptions/41.md). -/
def State.loseZones (s : State) : State :=
  match s.playback.stored with
  | none => s
  | some p =>
    let zs := p.taken.zones
    let kept := zs.filter fun z => s.keepsZone z && decide (s.presentSpeakers z ≠ [])
    let silent := zs.filter fun z => s.keepsZone z && decide (s.presentSpeakers z = [])
    let s := s.countPlayback fun c => { c with lostZone := bumpBy (zs.length - kept.length) c.lostZone }
    let p := { p with taken := maskOf kept }
    let s := s.forEach silent State.fallbackRing
    let s := s.modPlayback fun q => { q with stored := some p }
    if kept = [] then s.abandonStored p else s

/-- The zone map recomputed: TUNE frames for the changed entries (R150, R151). -/
def State.recomputeMap (s : State) : State :=
  let old := s.playback.zoneMap
  let new := Tab.ofFn 16 s.mapEntry
  let changed := indicesWhere 16 fun z => decide (new.getD z .none ≠ old.getD z .none)
  let s := s.modPlayback fun p => { p with zoneMap := new }
  s.forEach changed fun s z => s.forEach (s.presentSpeakers z) State.tune

/-- EVAC started by its first zone, or stopped by its last (R154). -/
def State.settleEvac (s : State) : State :=
  let follows := (List.range 16).any fun z => decide (s.zoneChan z = .evac)
  match s.playback.evac, follows with
  | none, true =>
    s.emitEvac { cursor := s.evacPass, clock := some s.now, refresh := s.after Config.tuneRefresh }
  | some _, false => s.modPlayback fun p => { p with evac := none }
  | _, _ => s

/-- The first block of a stored announcement that has just started (R152). -/
def State.settleStored (s : State) : State :=
  match s.playback.stored with
  | some p => if p.cursor.sample = 0 then s.emitStored p else s
  | none => s

/-- The end of a step that changed what the channels depend on: losses, the map, and the first blocks (R150, R154, R157). -/
def State.settlePlayback (s : State) : State := s.loseZones.recomputeMap.settleEvac.settleStored

/-- Where an urgent request joins: behind the urgent ones already waiting (R155). -/
def joinUrgent (r : StoredRequest) : List StoredRequest → List StoredRequest
  | [] => [r]
  | x :: rest => if x.urgent then x :: joinUrgent r rest else r :: x :: rest

/-- The queue less the non-urgent request nearest its tail (R155 case 3). -/
def dropNonUrgent (q : List StoredRequest) : List StoredRequest :=
  match q.reverse.find? fun r => !r.urgent with
  | some r => (q.reverse.erase r).reverse
  | none => q

/-- A request joined to the queue with the next request number; STORED starts it if it is IDLE (R155, R156). -/
def State.joinStored (s : State) (queue : List StoredRequest) (r : StoredRequest) : State :=
  let n := nextNumber s.playback.lastRequest
  let r := { r with number := n }
  let s := s.modPlayback fun p => { p with
    lastRequest := n, queue := if r.urgent then joinUrgent r queue else queue ++ [r] }
  s.startNext

/-- A stored-announcement request placed; the Boolean says that it was taken (R155). The caller settles the map. -/
def State.placeStored (s : State) (phrase : Nat) (zones : ZoneMask) (gain : Nat) (urgent : Bool) (origin : RequestOrigin) :
    State × Bool :=
  let r : StoredRequest := { phrase := phrase, zones := zones, gain := gain, urgent := urgent, origin := origin, number := 0 }
  let q := s.playback.queue
  if s.phraseValid phrase = false ∨ zones = 0#16 then
    (s.countPlayback fun c => { c with refusedInvalid := bump c.refusedInvalid }, false)
  else if q.length < Config.storedSize then (s.joinStored q r, true)
  else if urgent && q.any fun x => !x.urgent then
    ((s.countPlayback fun c => { c with displaced := bump c.displaced }).joinStored (dropNonUrgent q) r, true)
  else (s.countPlayback fun c => { c with refusedFull := bump c.refusedFull }, false)

/-! ### The live page (R160 to R163) -/

/-- A change of the live page. -/
def State.modPage (s : State) (f : Page → Page) : State := s.modPlayback fun p => { p with page := f p.page }

/-- The 24 output samples of a page block, with the rising ramp over the first 32 samples sent (R153, R162). -/
def pageOutput (gain ramped : Nat) (samples : List Sample) : List Sample :=
  samples.mapIdx fun k x => outSample x (rising gain (ramped + k + 1))

/-- The samples of a jitter-buffer block. -/
def JitterBlock.samples : JitterBlock → List Sample
  | .silence => List.replicate 24 0#12
  | .real xs => xs

/-- A block moment of PAGE (R162). -/
def State.pageMoment (s : State) : State :=
  let g := s.playback.page
  let clock := g.clock.map (· + Config.blockPeriod)
  let samples := match g.buffer with
    | b :: _ => b.samples
    | [] => List.replicate 24 0#12
  let s := s.emit .page pageGroup g.block (pageOutput g.gain g.ramped samples)
  let s := s.modPage fun g => { g with block := (g.block + 1) % 256, ramped := min 32 (g.ramped + 24), clock := clock }
  match g.buffer with
  | _ :: rest => s.modPage fun g => { g with buffer := rest, next := g.next.map fun e => (e + 1) % 256, underrun := none }
  | [] =>
    let s := s.countPlayback fun c => { c with underrun := bump c.underrun }
    s.modPage fun g => { g with underrun := g.underrun.or (s.after Config.underrunLimit) }

/-- PAGE enters PLAYING when its buffer holds 3 blocks in PREFILL, with a block moment at once (R161, R162). -/
def State.startPage (s : State) : State :=
  let g := s.playback.page
  if g.phase = .prefill ∧ 3 ≤ g.buffer.length then
    (s.modPage fun g => { g with phase := .playing, block := 0, ramped := 0, clock := some s.now, underrun := none }).pageMoment
  else s

/-- A block appended to the jitter buffer; a full one first drops its oldest block (R161). -/
def State.appendBlock (s : State) (b : JitterBlock) : State :=
  let g := s.playback.page
  if g.buffer.length < Config.jitterSize then s.modPage fun g => { g with buffer := g.buffer ++ [b] }
  else
    (s.countPlayback fun c => { c with overflow := bump c.overflow }).modPage fun g => { g with
      buffer := g.buffer.drop 1 ++ [b], next := g.next.map fun e => (e + 1) % 256 }

/-- A block far ahead: the buffer starts afresh with it, and PAGE prefills again (R161, R162). -/
def State.resyncPage (s : State) (b : Nat) (samples : List Sample) : State :=
  (s.countPlayback fun c => { c with resync := bump c.resync }).modPage fun g => { g with
    buffer := [.real samples], next := some b
    phase := .prefill, clock := none, underrun := none }

/-- A block placed in the jitter buffer by its distance from the next number (R161). -/
def State.placeBlock (s : State) (b : Nat) (samples : List Sample) : State :=
  let g := s.playback.page
  let n := g.buffer.length
  match g.next with
  | none => (s.modPage fun g => { g with next := some b }).appendBlock (.real samples)
  | some e =>
    let d := subMod b e 256
    if d < n then
      if g.buffer[d]? = some .silence then
        (s.countPlayback fun c => { c with recovered := bump c.recovered }).modPage fun g =>
          { g with buffer := g.buffer.set d (.real samples) }
      else s.countPlayback fun c => { c with duplicate := bump c.duplicate }
    else if 128 ≤ d then s.countPlayback fun c => { c with late := bump c.late }
    else if d ≤ n + 4 then
      let s := s.countPlayback fun c => { c with gapFilled := bumpBy (d - n) c.gapFilled }
      (s.forEach (List.range (d - n)) fun s _ => s.appendBlock .silence).appendBlock (.real samples)
    else s.resyncPage b samples

/-- A SAMPLES frame tapped to the Playback Unit (R160 to R162). -/
def State.pageSamples (s : State) (src : Addr) (payload : List Byte) : State :=
  let g := s.playback.page
  if g.phase ≠ .idle ∧ g.source = some src then
    let s := s.modPage fun g => { g with idle := s.after Config.pageIdle }
    match payload with
    | b :: rest => (s.placeBlock b.toNat (unpackSamples rest)).startPage
    | [] => s
  else s.countPlayback fun c => { c with foreignSamples := bump c.foreignSamples }

/-- The end of a page (R163). -/
def State.endPage (s : State) (why : PageEnd) : State :=
  let s := s.modPage fun g => { g with
    phase := .idle, zones := 0#16, source := none, buffer := [], clock := none, idle := none, underrun := none }
  s.settlePlayback.notify (.pageEnded why)

/-- PAGE_START taken (R160). -/
def State.startPageOrder (s : State) (zones : ZoneMask) (gain : Nat) (src : Addr) : State :=
  (s.modPage fun _ => {
    phase := .prefill, zones := zones, gain := gain, source := some src, idle := s.after Config.pageIdle }).settlePlayback

/-! ### Presence and tables of speakers -/

/-- Loss of a speaker: its zone may be lost to the current announcement (R157). -/
def State.speakerLoss (s : State) : State := s.settlePlayback

/-- Regain of a speaker: it is sent its present tuning (R151). -/
def State.speakerRegain (s : State) (i : Nat) : State := s.settlePlayback.tune i

/-! ### Meanings -/

/-- TUNE_EVAC_REFRESH: TUNE EVAC again to every PRESENT speaker of the zones that follow EVAC (R151). -/
def execTuneEvacRefresh (s : State) : Host.Outcome State Fault Refusal :=
  match s.playback.evac with
  | none => .next s
  | some p =>
    match p.refresh with
    | none => .next s
    | some t =>
      let s := (s.reach t).modPlayback fun q => { q with evac := some { p with refresh := some (t + Config.tuneRefresh) } }
      .next (s.forEach (indicesWhere 16 fun z => decide (s.zoneChan z = .evac)) fun s z =>
        s.forEach (s.presentSpeakers z) State.tune)

/-- A block moment of EVAC; a finished pass is followed by the next (R152, R154). -/
def State.evacMoment (s : State) (p : EvacPlay) (t : Micros) : Host.Outcome State Fault Refusal :=
  let s := s.reach t
  let p := if p.cursor.ended then { p with cursor := s.evacPass } else p
  if p.cursor.inStore then .next (s.emitEvac p) else .fault .phraseStoreAddress

/-- A block moment of STORED; after the last block the announcement ends and the next head starts (R152, R157). -/
def State.storedMoment (s : State) (p : StoredPlay) (t : Micros) : Host.Outcome State Fault Refusal :=
  let s := s.reach t
  if p.cursor.inStore then
    let s := s.emitStored p
    if p.cursor.advance.ended then
      let s := s.modPlayback fun q => { q with stored := none }
      let s := s.countPlayback fun c => { c with completed := bump c.completed }
      .next s.startNext.settlePlayback
    else .next s
  else .fault .phraseStoreAddress

/-- BLOCK_MOMENT of EVAC or STORED (R152). -/
def execBlockMoment (c : PhraseChannel) (s : State) : Host.Outcome State Fault Refusal :=
  match c with
  | .evac =>
    match s.playback.evac with
    | some p =>
      match p.clock with
      | some t => s.evacMoment p t
      | none => .next s
    | none => .next s
  | .stored =>
    match s.playback.stored with
    | some p =>
      match p.clock with
      | some t => s.storedMoment p t
      | none => .next s
    | none => .next s

/-- PAGE_BLOCK_MOMENT (R162). -/
def execPageBlockMoment (s : State) : Host.Outcome State Fault Refusal :=
  match s.playback.page.clock with
  | some t => .next (s.reach t).pageMoment
  | none => .next s

/-- UNDERRUN_TIMEOUT: the page ends (R163). -/
def execUnderrunTimeout (s : State) : Host.Outcome State Fault Refusal :=
  match s.playback.page.underrun with
  | some t => .next ((s.reach t).endPage .underrun)
  | none => .next s

/-- PAGE_IDLE_TIMEOUT: the page ends (R163). -/
def execPageIdleTimeout (s : State) : Host.Outcome State Fault Refusal :=
  match s.playback.page.idle with
  | some t => .next ((s.reach t).endPage .idle)
  | none => .next s

end Sys2Proof.Machine
end

