-- ==== Sys2Proof/Machine/Zones.lean ====
section
/-! DEFINITION. Chapter 4: the Zone Controller. The FAULT flag, zone state changes, entry to ALARM, reports, local drops,
the completion check, the zone orders, and the meaning of KNOCK_WINDOW_EXPIRY. -/

namespace Sys2Proof.Machine

/-! ### Points (R57, R60, R61) -/

/-- The in-use points of a zone, by increasing index. -/
def State.zonePoints (s : State) (z : Nat) : List Nat :=
  indicesWhere 128 fun i => (s.point i).any fun c => decide (c.zone = z)

/-- Whether a live state is active: PREALARM, ALARM or MANUAL (R59). -/
def PointState.active : PointState → Bool
  | .prealarm | .alarm | .manual => true
  | .normal | .fault => false

/-- The active points of a zone. -/
def State.activePoints (s : State) (z : Nat) : List Nat := (s.zonePoints z).filter fun i => (s.pointLive i).state.active

/-- The FAULT flag of a zone recomputed; a change requests ZONE_FAULT (R61). -/
def State.recomputeFault (s : State) (z : Nat) : State :=
  let set := (s.zonePoints z).any fun i => decide ((s.pointLive i).state = .fault)
  if (s.zone z).fault = set then s
  else (s.modZone z fun x => { x with fault := set }).notify (.zoneFault z set)

/-- The FAULT flags of all zones recomputed, from zone 0 to 15: the order of their notices is the model's choice
(R60; notes/assumptions/38.md). -/
def State.recomputeFaults (s : State) : State := s.forEach (List.range 16) State.recomputeFault

/-- The points whose panel is a station. -/
def State.panelPoints (s : State) (i : Nat) : List Nat :=
  indicesWhere 128 fun n => (s.point n).any fun c => decide (c.panel = i)

/-- Loss of a panel: its points take FAULT with source LINK (R60). -/
def State.panelLoss (s : State) (i : Nat) : State :=
  (s.forEach (s.panelPoints i) fun s n =>
    s.modPoint n fun _ => { state := .fault, source := some .link }).recomputeFaults

/-- Regain of a panel: its points whose FAULT has source LINK take NORMAL (R60). -/
def State.panelRegain (s : State) (i : Nat) : State :=
  (s.forEach (s.panelPoints i) fun s n =>
    if (s.pointLive n).source = some .link then s.modPoint n fun _ => {} else s).recomputeFaults

/-! ### Zone states (R67) -/

/-- A zone's state changed, with the lamps that depend on it (R33, R67). The notice and the jobs are told by the callers,
in the order their rules give. -/
def State.setZone (s : State) (z : Nat) (st : ZoneState) : State :=
  (s.modZone z fun x => { x with state := st }).recomputeAllLamps

/-- The ZONE_STATE notice of a change of state (R67). -/
def State.notifyZone (s : State) (z : Nat) (old : ZoneState) : State :=
  let x := s.zone z
  s.notify (.zoneState z old x.state (if x.state = .alarm then x.cause else none) (if x.state = .alarm then x.alarmPoint else none))

/-- Whether a zone holds a landing of a shaft (R16). -/
def State.holdsLanding (s : State) (k z : Nat) : Bool :=
  (s.landings k).any fun l => decide (s.landingZone k l = some z)

/-- The zone's flag set on each shaft on which it holds a landing, shaft 0 first: the order is the model's choice
(R66 step 2; notes/assumptions/38.md). -/
def State.raiseFlags (s : State) (z : Nat) : State :=
  s.forEach ([0, 1].filter fun k => s.holdsLanding k z) fun s k => s.setZoneFlag k z true

/-- The neighbour alert (R66 step 5). -/
def State.neighbourAlert (s : State) (z : Nat) : State :=
  match s.globals.standbyPhrase with
  | none => s
  | some p =>
    let mask := (s.zoneCfg z).neighbours &&& ~~~ ZoneMask.single z &&& ~~~ s.overlayMask
    if mask = 0#16 then s else (s.placeStored p mask 256 true .zone).1

/-- The Playback Unit told of an entry to ALARM: an EVAC_UNAVAILABLE notice where EVAC cannot be followed (R150). -/
def State.voiceAlarm (s : State) (z : Nat) : State :=
  if (s.zoneCfg z).voice && !s.evacValid then s.notify (.evacUnavailable z) else s

/-- Entry to ALARM: the fan-out of R66, in its order. The zone is lost to a current announcement in step 4 (R157), before
step 5 places the neighbour alert; the map is settled once, after both (R150). -/
def State.enterAlarm (s : State) (z : Nat) (cause : AlarmCause) (point : AlarmPoint) : State :=
  let old := (s.zone z).state
  let s := (s.modZone z fun x => { x with
    knockPoint := none, knockTimer := none, cause := some cause, alarmPoint := some point }).setZone z .alarm
  let s := s.requestReleases z
  let s := s.raiseFlags z
  let s := s.updateSounders z
  let s := (s.voiceAlarm z).loseZones
  let s := if old = .normal ∨ old = .alert then s.neighbourAlert z else s
  let s := s.settlePlayback
  let s := s.holdZone z
  s.notifyZone z old

/-- Entry to ALERT, with a knock point or none, the knock window starting (R63). -/
def State.enterAlert (s : State) (z : Nat) (knock : Option Nat) : State :=
  let old := (s.zone z).state
  let s := s.modZone z fun x => { x with
    knockPoint := knock, knockTimer := s.after (sec (s.zoneCfg z).knockWindow) }
  (s.setZone z .alert).notifyZone z old

/-! ### Reports (R59, R63, R64, R68 to R71, R73) -/

/-- Classes of report (R59). -/
inductive ReportClass where
  | clearing | prealarm | automatic | manual
deriving DecidableEq, Repr

/-- The class of a report, from the reported state and the point's kind (R59). -/
def reportClass (kind : PointKind) : PointState → ReportClass
  | .normal | .fault => .clearing
  | .prealarm => .prealarm
  | .alarm => match kind with
    | .automatic => .automatic
    | .manual => .manual
  | .manual => .manual

/-- A report in NORMAL (R63). -/
def State.reportNormal (s : State) (z i : Nat) : ReportClass → State
  | .clearing => s
  | .prealarm => s.enterAlert z none
  | .automatic =>
    if (s.zoneCfg z).doubleKnock then s.enterAlert z (some i) else s.enterAlarm z .automatic (.point i)
  | .manual => s.enterAlarm z .manual (.point i)

/-- A report in ALERT (R64). -/
def State.reportAlert (s : State) (z i : Nat) : ReportClass → State
  | .clearing | .prealarm => s
  | .automatic =>
    if (s.zoneCfg z).doubleKnock then
      match (s.zone z).knockPoint with
      | none => s.modZone z fun x => { x with
          knockPoint := some i, knockTimer := s.after (sec (s.zoneCfg z).knockWindow) }
      | some n => if n = i then s else s.enterAlarm z .doubleKnock (.point i)
    else s.enterAlarm z .automatic (.point i)
  | .manual => s.enterAlarm z .manual (.point i)

/-- A further alarm in ALARM, counted and reported (R68, R72). -/
def State.furtherAlarm (s : State) (z : Nat) (p : AlarmPoint) : State :=
  (s.modZone z fun x => { x with furtherAlarms := bump x.furtherAlarms }).notify (.zonePoint z p)

/-- A new alarm in SILENCED or RESETTING returns the zone to ALARM (R69, R71). -/
def State.reportReentry (s : State) (z i : Nat) (isNew : Bool) : ReportClass → State
  | .clearing | .prealarm => s
  | .automatic => if isNew then s.enterAlarm z .automatic (.point i) else s
  | .manual => if isNew then s.enterAlarm z .manual (.point i) else s

/-- A report in ALARM: only a new alarm is counted (R68). -/
def State.reportAlarm (s : State) (z i : Nat) (isNew : Bool) : ReportClass → State
  | .clearing | .prealarm => s
  | .automatic | .manual => if isNew then s.furtherAlarm z (.point i) else s

/-- A report handed to a zone, acted on by the zone's state. `isNew` says that the point's live state before the report was
neither ALARM nor MANUAL (R59). -/
def State.report (s : State) (z i : Nat) (isNew : Bool) (c : ReportClass) : State :=
  match (s.zone z).state with
  | .normal => s.reportNormal z i c
  | .alert => s.reportAlert z i c
  | .alarm => s.reportAlarm z i isNew c
  | .silenced | .resetting => s.reportReentry z i isNew c
  | .isolated => s

/-- The point record of a panel and a point number (R59). -/
def State.findPoint (s : State) (panel number : Nat) : Option Nat :=
  firstIndex 128 fun i => (s.point i).any fun c => decide (c.panel = panel ∧ c.number = number)

/-- A DETECT frame handed to the Zone Controller (R59). The FAULT flag is recomputed before the report acts on the zone's state:
the order is the model's choice (R61; notes/assumptions/41.md). -/
def State.detect (s : State) (sender : Option Nat) (payload : List Byte) : State :=
  let unknown := { s with unknownPoint := bump s.unknownPoint }
  match sender, payload with
  | some p, n :: st :: _ =>
    match s.findPoint p n.toNat, PointState.ofByte st with
    | some i, some st =>
      match s.point i with
      | none => unknown
      | some c =>
        let isNew := match (s.pointLive i).state with
          | .alarm | .manual => false
          | _ => true
        let s := s.modPoint i fun _ => { state := st, source := if st = .fault then some .report else none }
        (s.recomputeFault c.zone).report c.zone i isNew (reportClass c.kind st)
    | _, _ => unknown
  | _, _ => unknown

/-! ### Local drops (R72) -/

/-- A local drop of a shutter told to its zone (R72). -/
def State.localDrop (s : State) (z i : Nat) : State :=
  match (s.zone z).state with
  | .normal | .alert | .silenced | .resetting => s.enterAlarm z .localDrop (.shutter i)
  | .alarm => s.furtherAlarm z (.shutter i)
  | .isolated => s.modZone z fun x => { x with ignoredDrops := bump x.ignoredDrops }

/-! ### The completion check (R71) -/

/-- Whether a shutter is OPEN or ISOLATED. -/
def State.shutterDone (s : State) (i : Nat) : Bool :=
  match (s.shutterLive i).state with
  | .open | .isolated => true
  | _ => false

/-- A zone enters NORMAL at the end of its reset (R71 step 2). R127 lets the resumed calls ring before or after the sounders
return to ARBITRATING: the model's choice is before (notes/assumptions/38.md). The order of the flags, the lamps, the calls,
the sounders, the speakers and the notice is the model's choice as well (notes/assumptions/41.md). -/
def State.completeReset (s : State) (z : Nat) : State :=
  let s := s.forEach [0, 1] fun s k => s.setZoneFlag k z false
  let s := (s.modZone z fun x => { x with cause := none, alarmPoint := none }).setZone z .normal
  let s := s.resumeZone z
  ((s.updateSounders z).settlePlayback).notifyZone z .resetting

/-- The completion check of a RESETTING zone (R71). The zone's flag is withdrawn from shaft 0 before shaft 1: R71 states no
order, and this one is the model's choice (notes/assumptions/38.md). -/
def State.completionCheck (s : State) (z : Nat) : State :=
  if (s.zone z).state = .resetting then
    let s := s.forEach [0, 1] fun s k =>
      if (s.shaft k).zoneFlags.getLsbD z &&
          ((s.shaftShutters k).filter fun i => decide (s.shutterZone i = z)).all s.shutterDone
      then s.setZoneFlag k z false else s
    if (s.zoneShutters z).all s.shutterDone then s.completeReset z else s
  else s

/-! ### Zone orders (R69, R70, R73) -/

/-- SILENCE_ZONE (R69). The sounders come first, then the speakers, then the notice: R69 states no order, and this one is the
model's choice (notes/assumptions/41.md). -/
def State.orderSilence (s : State) (z : Nat) : State × Status × Detail :=
  if 16 ≤ z then (s, .badIndex, .none)
  else if (s.zone z).state = .alarm then
    let s := ((s.setZone z .silenced).updateSounders z).settlePlayback
    (s.notifyZone z .alarm, .done, .none)
  else (s, .refusedState, .none)

/-- One shutter at the zone's entry to RESETTING; one in RELEASE_WAIT or WARNING has every timer stopped (R70, R90,
R93). -/
def State.resetShutter (s : State) (i : Nat) : State :=
  match s.shutter i with
  | none => s
  | some c =>
    let x := s.shutterLive i
    match x.state with
    | .releaseWait | .warning =>
      let s := s.modShutter i fun x => { x with
        clearance := none, warning := none, resend := none, motion := none, command := none }
      if x.lastReport.any fun r => decide (r.position = .openEnd) then s.setShutter i .open
      else
        let s := if c.landing.any fun r => (s.shaft r.shaft).permit then s.tripLanding .localDrop c.landing else s
        s.setShutter i .unknown
    | .descending | .closed | .stalled => s.startCommand i .raise
    | .unknown | .open | .raising | .isolated => s

/-- One shutter at a retry of RESET_ZONE (R93). -/
def State.retryShutter (s : State) (i : Nat) : State :=
  match (s.shutterLive i).state with
  | .open | .isolated | .raising => s
  | _ => s.startCommand i .raise

/-- RESET_ZONE (R70, R93). The first order and a retry take the zone's shutters by increasing index, and the ZONE_STATE
notice follows the SHUTTER_STATE notices of the same step: the rules fix no order, and these are the model's choice
(notes/assumptions/38.md). So is that the RAISE frames of the shutters come before the TOLL STOP frames, and those before the
TUNE frames (notes/assumptions/41.md). -/
def State.orderResetZone (s : State) (z : Nat) : State × Status × Detail :=
  if 16 ≤ z then (s, .badIndex, .none)
  else
    let old := (s.zone z).state
    match old with
    | .alarm | .silenced | .resetting =>
      match s.activePoints z with
      | i :: _ => (s, .refusedState, .activePoint i)
      | [] =>
        if old = .resetting then
          ((s.forEach (s.zoneShutters z) State.retryShutter).completionCheck z, .done, .none)
        else
          let s := s.setZone z .resetting
          let s := s.forEach (s.zoneShutters z) State.resetShutter
          let s := ((s.updateSounders z).settlePlayback).notifyZone z old
          (s.completionCheck z, .done, .none)
    | _ => (s, .refusedState, .none)

/-- ISOLATE_ZONE (R73). The shutters are set ISOLATED by increasing index, and the ZONE_STATE notice follows their
SHUTTER_STATE notices, as at RESET_ZONE: R73 states neither order, and both are the model's choice
(notes/assumptions/38.md and 41.md). -/
def State.orderIsolate (s : State) (z : Nat) : State × Status × Detail :=
  if 16 ≤ z then (s, .badIndex, .none)
  else
    let old := (s.zone z).state
    if old = .normal ∨ old = .alert then
      let s := (s.modZone z fun x => { x with knockPoint := none, knockTimer := none }).setZone z .isolated
      let s := s.forEach (s.zoneShutters z) State.isolateShutter
      (((s.updateSounders z).settlePlayback).notifyZone z old, .done, .none)
    else (s, .refusedState, .none)

/-! ### Meanings -/

/-- KNOCK_WINDOW_EXPIRY (R65). A zone runs its knock window only in ALERT; in any other state the timer just stops
(notes/assumptions/34.md). -/
def execKnockWindowExpiry (z : Nat) (s : State) : Host.Outcome State Fault Refusal :=
  let x := s.zone z
  match x.knockTimer with
  | none => .next s
  | some t =>
    let s := s.reach t
    let again := s.after (sec (s.zoneCfg z).knockWindow)
    if x.state ≠ .alert then .next (s.modZone z fun x => { x with knockTimer := none })
    else if x.knockPoint.any fun n => decide ((s.pointLive n).state = .alarm) then
      .next (s.modZone z fun x => { x with knockTimer := again })
    else if s.activePoints z ≠ [] then
      .next (s.modZone z fun x => { x with knockPoint := none, knockTimer := again })
    else
      let s := (s.modZone z fun x => { x with knockPoint := none, knockTimer := none }).setZone z .normal
      .next (s.notifyZone z x.state)

end Sys2Proof.Machine
end

