-- ==== Sys2Proof/Machine/Shutters.lean ====
section
/-! DEFINITION. Chapter 5, drive reports (R86 to R92), the shutter timers (R80, R84, R85, R90), loss of the drive (R94),
re-derivation at a restore (R96), RESTORE_ZONE (R74), and the meanings of RESEND_TIMER to MOTION_TIMEOUT. -/

namespace Sys2Proof.Machine

/-! ### Reports -/

/-- Whether a position is a down position: DESCENDING, CLOSED_END, STOPPED_MID or JAMMED (R91). -/
def CurtainPos.down : CurtainPos → Bool
  | .descending | .closedEnd | .stoppedMid | .jammed => true
  | .openEnd | .raising => false

/-- Whether a report would be an uncommanded descent in an open-type state (R91). -/
def DriveReport.drops (r : DriveReport) : Bool := r.localRelease || r.position.down

/-- The state taken from a position, JAMMED being added for the stopped ones (R91, R92). -/
def State.shutterFromPosition (s : State) (i : Nat) (p : CurtainPos) : State :=
  match p with
  | .closedEnd => (s.modShutter i fun x => { x with motion := none }).setShutter i .closed
  | .stoppedMid | .jammed => (s.setShutter i .stalled).setFault i .jammed true
  | .descending | .openEnd | .raising => s.setShutter i .descending

/-- A compliant report: the resend timer stops and NO_RESPONSE goes (R80). -/
def State.comply (s : State) (i : Nat) : State :=
  (s.modShutter i fun x => { x with resend := none, complied := true }).setFault i .noResponse false

/-- The end of a movement: the command in force becomes none and the motion timer stops (R88, R89). -/
def State.endMotion (s : State) (i : Nat) : State := s.modShutter i fun x => { x with command := none, motion := none }

/-- An unexpected status counted (R88, R91, R92). -/
def State.countUnexpected (s : State) (i : Nat) : State :=
  s.modShutter i fun x => { x with unexpected := bump x.unexpected }

/-- A stall (R87). -/
def State.stall (s : State) (i : Nat) : State :=
  let s := (s.setShutter i .stalled).setFault i .jammed true
  (s.modShutter i fun x => { x with resend := none, motion := none, command := none }).sendShut i haltPayload

/-- The command queued again as a new send sequence if its resend timer is stopped (R88, R89). -/
def State.sendIfStopped (s : State) (i : Nat) (c : ShutCommand) : State :=
  if (s.shutterLive i).resend = none then s.sendAfresh i c else s

/-- A report with RELEASE in force (R88). -/
def State.reportRelease (s : State) (i : Nat) : CurtainPos → State
  | .descending => (s.comply i).setShutter i .descending
  | .closedEnd => ((s.comply i).endMotion i).setShutter i .closed
  | .openEnd => s.sendIfStopped i .release
  | .raising => (s.sendIfStopped i .release).countUnexpected i
  | .stoppedMid | .jammed => s.stall i

/-- A report with RAISE in force (R89). -/
def State.reportRaise (s : State) (i : Nat) : CurtainPos → State
  | .raising => (s.comply i).setShutter i .raising
  | .openEnd => ((s.comply i).endMotion i).openShutter i
  | .closedEnd => (s.setShutter i .closed).sendIfStopped i .raise
  | .descending => (s.setShutter i .descending).sendIfStopped i .raise
  | .stoppedMid | .jammed => s.stall i

/-- Steps 1 to 5 of an uncommanded descent (R91). -/
def State.uncommanded (s : State) (i : Nat) (c : ShutterCfg) (p : CurtainPos) : State :=
  let old := (s.shutterLive i).state
  let s := s.tripLanding .localDrop c.landing
  let s := s.modShutter i fun x => { x with clearance := none, warning := none }
  let s := s.shutterFromPosition i p
  let s := if (s.shutterLive i).state = .descending then
      s.modShutter i fun x => { x with motion := s.after (sec c.descentLimit) } else s
  let s := (s.setFault i .unexpected true).countUnexpected i
  if (old = .releaseWait ∨ old = .warning) ∧ (s.shutterLive i).state ≠ .closed then s.startCommand i .release else s

/-- A report that none of R87 to R91 takes (R92). R92 has no row for a report of RAISING by a shutter that is RAISING with no
command in force; that nothing changes and nothing is counted then is the model's choice (notes/assumptions/42.md). -/
def State.reportIdle (s : State) (i : Nat) (c : ShutterCfg) (p : CurtainPos) : State :=
  let zone := (s.zone c.zone).state
  match (s.shutterLive i).state with
  | .unknown | .raising =>
    match p with
    | .openEnd => (s.endMotion i).openShutter i
    | .raising => s.setShutter i .raising
    | _ =>
      let s := s.shutterFromPosition i p
      if zone = .resetting then s.startCommand i .raise else s
  | .open | .releaseWait | .warning => if p = .raising then s.countUnexpected i else s
  | .descending | .closed | .stalled =>
    if p.down then s.shutterFromPosition i p
    else if zone = .alarm ∨ zone = .silenced then
      ((s.countUnexpected i).startCommand i .release).setShutter i .descending
    else if p = .openEnd then (s.endMotion i).openShutter i
    else s.setShutter i .raising
  | .isolated => s

/-- Whether a report is an uncommanded descent: the two conditions of R91, the second read when no command is in force. -/
def State.isUncommanded (s : State) (i : Nat) (c : ShutterCfg) (r : DriveReport) : Bool :=
  let x := s.shutterLive i
  r.drops &&
    match x.state with
    | .open | .releaseWait | .warning => true
    | .unknown | .raising =>
      decide (x.command = none ∧ ((s.zone c.zone).state = .normal ∨ (s.zone c.zone).state = .alert))
    | _ => false

/-- A report of a shutter that is not ISOLATED (R87 to R92). R91 is read before R88 and R89: the model's choice, of no
effect while no shutter at rest has a command in force (notes/assumptions/23.md). -/
def State.reportActive (s : State) (i : Nat) (c : ShutterCfg) (r : DriveReport) : State :=
  if s.isUncommanded i c r then (s.uncommanded i c r.position).localDrop c.zone i
  else match (s.shutterLive i).command with
    | some .release => s.reportRelease i r.position
    | some .raise => s.reportRaise i r.position
    | none => s.reportIdle i c r.position

/-- A report of an ISOLATED shutter: passed to the zone as a local drop in the cases of R95. -/
def State.reportIsolated (s : State) (i : Nat) (c : ShutterCfg) (prev : Option DriveReport) (r : DriveReport) : State :=
  let wasOpen := match prev with
    | none => true
    | some q => decide (q.position = .openEnd)
  if r.localRelease || (r.position.down && wasOpen) then s.localDrop c.zone i else s

/-- The in-use shutter whose drive is a station (R86). -/
def State.driveShutter (s : State) (i : Nat) : Option Nat :=
  firstIndex 32 fun n => (s.shutter n).any fun c => decide (c.drive = i)

/-- A report of a shutter (R86); a change of its state makes the zone's completion check (R71). That the notices of the shutter
come before the check and its ZONE_STATE notice is the model's choice (R79; notes/assumptions/41.md). -/
def State.shutterReport (s : State) (i : Nat) (c : ShutterCfg) (r : DriveReport) : State :=
  let x := s.shutterLive i
  let s := s.modShutter i fun x => { x with lastReport := some r }
  if x.state = .isolated then s.reportIsolated i c x.lastReport r
  else
    let s := s.reportActive i c r
    if (s.shutterLive i).state = x.state then s else s.completionCheck c.zone

/-- A SHUTSTAT frame handed to the Shutter Controller (R86). -/
def State.shutstat (s : State) (sender : Option Nat) (payload : List Byte) : State :=
  let unknown := { s with unknownDrive := bump s.unknownDrive }
  match sender.bind s.driveShutter, payload with
  | some i, p :: f :: _ =>
    match s.shutter i, CurtainPos.ofByte p with
    | some c, some p => s.shutterReport i c { position := p, localRelease := f.getLsbD 0 }
    | _, _ => unknown
  | _, _ => unknown

/-! ### Loss and regain of the drive (R94) -/

/-- Loss of a drive: COMMS is added (R94). -/
def State.driveLoss (s : State) (i : Nat) : State :=
  match s.driveShutter i with
  | some n => s.setFault n .comms true
  | none => s

/-- Regain of a drive: COMMS goes, and an unanswered command in force is sent afresh (R94). -/
def State.driveRegain (s : State) (i : Nat) : State :=
  match s.driveShutter i with
  | some n =>
    let s := s.setFault n .comms false
    let x := s.shutterLive n
    match x.command with
    | some c => if x.resend = none ∧ x.complied = false then s.sendAfresh n c else s
    | none => s
  | none => s

/-! ### Re-derivation (R96) and RESTORE_ZONE (R74) -/

/-- A shutter re-derived from its last report; the Boolean says that an uncommanded descent was found (R96). -/
def State.rederive (s : State) (i : Nat) : State × Bool :=
  match s.shutter i with
  | none => (s, false)
  | some c =>
    let permit := c.landing.any fun r => (s.shaft r.shaft).permit
    match (s.shutterLive i).lastReport with
    | none => ((if permit then s.tripLanding .localDrop c.landing else s).setShutter i .unknown, false)
    | some r =>
      if r.drops then (s.uncommanded i c r.position, true)
      else if r.position = .openEnd then (s.openShutter i, false)
      else ((if permit then s.tripLanding .localDrop c.landing else s).setShutter i .raising, false)

/-- One shutter of a restored zone re-derived; a descent found is added to those found so far. -/
def rederiveStep (a : State × List Nat) (i : Nat) : State × List Nat :=
  let (s, drop) := a.1.rederive i
  (s, if drop then a.2 ++ [i] else a.2)

/-- Every shutter of a restored zone re-derived while the zone is NORMAL; then the zone is told of each descent found
(R74 step 2, R96). -/
def State.rederiveZone (s : State) (z : Nat) : State :=
  let (s, drops) := (s.zoneShutters z).foldl rederiveStep (s, [])
  s.forEach drops fun s i => s.localDrop z i

/-- An active point taken as newly reported (R58, R74). -/
def State.reportAnew (s : State) (i : Nat) : State :=
  match s.point i with
  | none => s
  | some c =>
    if (s.pointLive i).state.active then s.report c.zone i true (reportClass c.kind (s.pointLive i).state) else s

/-- RESTORE_ZONE (R74). The ZONE_STATE notice of ISOLATED to NORMAL is requested at the change itself, before the notices of the
shutters: R74 does not place it, and this is the model's choice (notes/assumptions/41.md). -/
def State.orderRestore (s : State) (z : Nat) : State × Status × Detail :=
  if 16 ≤ z then (s, .badIndex, .none)
  else if (s.zone z).state = .isolated then
    let s := s.setZone z .normal
    let s := s.notifyZone z .isolated
    let s := s.rederiveZone z
    let s := s.forEach (s.zonePoints z) State.reportAnew
    (s.recomputeAllLamps.settlePlayback, .done, .none)
  else (s, .refusedState, .none)

/-! ### Meanings -/

/-- RESEND_TIMER: the command is sent again up to three sends, then NO_RESPONSE is added (R80). -/
def execResendTimer (i : Nat) (s : State) : Host.Outcome State Fault Refusal :=
  let x := s.shutterLive i
  match x.resend with
  | none => .next s
  | some t =>
    let s := (s.reach t).modShutter i fun x => { x with resend := none }
    match x.command with
    | none => .next s
    | some c =>
      if s.maySend i c = false then .next s
      else if x.sends < 3 then
        .next ((s.modShutter i fun x => { x with sends := x.sends + 1, resend := s.after Config.resend }).sendShut i c.payload)
      else .next (s.setFault i .noResponse true)

/-- CLEARANCE_TIMEOUT: the release of a shutter in RELEASE_WAIT is forced (R84). -/
def execClearanceTimeout (i : Nat) (s : State) : Host.Outcome State Fault Refusal :=
  match s.shutter i, (s.shutterLive i).clearance with
  | some c, some t =>
    let s := (s.reach t).modShutter i fun x => { x with clearance := none }
    if (s.shutterLive i).state = .releaseWait then
      let s := s.tripLanding .forcedRelease c.landing
      let s := (s.startCommand i .release).setShutter i .descending
      .next ((s.modShutter i fun x => { x with forced := true }).notify (.shutterForced i))
    else .next s
  | _, _ => .next s

/-- WARNING_TIMEOUT: a shutter in WARNING is released (R85). -/
def execWarningTimeout (i : Nat) (s : State) : Host.Outcome State Fault Refusal :=
  match (s.shutterLive i).warning with
  | none => .next s
  | some t =>
    let s := (s.reach t).modShutter i fun x => { x with warning := none }
    if (s.shutterLive i).state = .warning then .next ((s.startCommand i .release).setShutter i .descending)
    else .next s

/-- Whether the motion timer's expiry adds SLOW (R90). -/
def ShutterLive.slowAtExpiry (x : ShutterLive) : Bool :=
  decide (x.command = some .raise) || decide (x.state = .raising) || decide (x.state = .descending)

/-- MOTION_TIMEOUT: SLOW is added where a movement is late (R90). -/
def execMotionTimeout (i : Nat) (s : State) : Host.Outcome State Fault Refusal :=
  let x := s.shutterLive i
  match x.motion with
  | none => .next s
  | some t =>
    let s := (s.reach t).modShutter i fun x => { x with motion := none }
    if x.slowAtExpiry then .next (s.setFault i .slow true) else .next s

end Sys2Proof.Machine
end

