-- ==== Sys2Proof/Machine/DaySequencer.lean ====
section
/-! DEFINITION. Chapter 8: the Store Clock and the Day Sequencer. Second boundaries, trim and step, schedule stamps,
minute events, mode actions, and the meanings of SECOND_BOUNDARY, CRYSTAL_LOSS, CRYSTAL_CYCLES_RESUME and
CLOSE_WAIT_EXPIRY. -/

namespace Sys2Proof.Machine

/-! ### Stamps (R136, R137) -/

/-- The stamp of an entry judged against an hour, a minute and a day count: at or before gets the day count, later the
day before (R136). -/
def stampAgainst (hour minute day : Nat) (e : ScheduleEntry) : Nat :=
  if e.hour * 60 + e.minute ≤ hour * 60 + minute then day else (day + 65535) % 65536

/-- A schedule entry in use. -/
def State.entry (s : State) (i : Nat) : Option ScheduleEntry := s.tables.schedule.at? i

/-- Every in-use entry stamped against the present clock fields; a free index holds no stamp then (R136, R137, R147). -/
def State.restamp (s : State) : State :=
  let c := s.clock
  s.modDay fun d => { d with
    stamps := s.tables.schedule.map fun e => e.map (stampAgainst c.hours c.minutes c.day) }

/-! ### Announcements and bells of the trading day (R139, R141) -/

/-- What a mode action or an ANNOUNCE carries for its announcement (R137). -/
structure Announcement where
  phrase : Option Nat
  zones : ZoneMask
  gain : Nat
deriving DecidableEq, Repr

/-- A stored-announcement request of origin DAY, its mask less the alarm overlay; none when that is empty (R139). -/
def State.announce (s : State) (a : Announcement) : State :=
  match a.phrase with
  | none => s
  | some p =>
    let mask := a.zones &&& ~~~ s.overlayMask
    if mask = 0#16 then s else ((s.placeStored p mask a.gain false .day).1).settlePlayback

/-- A CLOSING request with owner DAY placed on each of a list of sounders (R128, R139). -/
def State.closingRings (s : State) (p : Pattern) (is : List Nat) : State :=
  s.forEach is fun s i => (s.ring i .closing p .day).1

/-- The zone of a station record. -/
def State.stationZone (s : State) (i : Nat) : Option Nat := (s.station i).bind StationCfg.zone

/-- The sounders of a BELL: those of the zones of the mask outside the overlay, and with a full mask those without a zone
(R139). -/
def State.bellSounders (s : State) (mask : ZoneMask) : List Nat :=
  (s.stationsOf .sounder).filter fun i =>
    match s.stationZone i with
    | some z => mask.getLsbD z && !s.overlay z
    | none => decide (mask = 0xFFFF#16)

/-- The sounders of the closing bell: every one whose zone is not in the overlay, those without a zone included (R141). -/
def State.closingSounders (s : State) : List Nat :=
  (s.stationsOf .sounder).filter fun i => !s.overlayOf (s.stationZone i)

/-! ### Mode actions (R141 to R145) -/

/-- BEGIN_CLOSING, less its announcement (R141). -/
def State.beginClosing (s : State) (src : ModeSource) : State :=
  let s := s.enterMode .closing src
  let g := s.globals
  s.closingRings (.strokes g.bellStrokes g.bellRepeats) s.closingSounders

/-- LAST_CALL taken in CLOSING, less its announcement (R142). -/
def State.lastCall (s : State) (src : ModeSource) : State :=
  ((s.enterMode .lastCall src).lastRunOrder 0).lastRunOrder 1

/-- CLOSE taken in LAST_CALL (R143). -/
def State.closeStore (s : State) (src : ModeSource) (a : Announcement) : State :=
  let s := s.modDay fun d => { d with closePending := true, closeWait := s.after Config.closeWait, source := src }
  (s.announce a).closingCheck

/-- OPEN taken in LAST_CALL: the closing sequence is cancelled (R145). -/
def State.cancelClosing (s : State) (src : ModeSource) : State :=
  let s := (s.cancelOrder 0).cancelOrder 1
  (s.modDay fun d => { d with closePending := false, overdue := false, closeWait := none }).enterMode .open src

/-- A mode action in the present mode; `none` when it has no effect (R141 to R145). -/
def State.modeAction (s : State) (m : ModeAction) (src : ModeSource) (a : Announcement) : Option State :=
  match m, s.day.mode with
  | .beginClosing, .open => some ((s.beginClosing src).announce a)
  | .beginClosing, _ => none
  | .lastCall, .closing => some ((s.lastCall src).announce a)
  | .lastCall, .open => some (((s.beginClosing src).lastCall src).announce a)
  | .lastCall, _ => none
  | .close, .lastCall => if s.day.closePending then none else some (s.closeStore src a)
  | .close, .closing => some ((s.lastCall src).closeStore src a)
  | .close, .open => some (((s.beginClosing src).lastCall src).closeStore src a)
  | .close, .closed => none
  | .open, .closed => some ((s.enterMode .open src).announce a)
  | .open, .closing => some ((s.enterMode .open src).announce a)
  | .open, .lastCall => some ((s.cancelClosing src).announce a)
  | .open, .open => none

/-! ### Minute events (R138, R139) -/

/-- The mode action of a schedule action, if it is one. -/
def scheduleMode : DayAction → Option ModeAction
  | .beginClosing => some .beginClosing
  | .lastCall => some .lastCall
  | .close => some .close
  | .open => some .open
  | .announce | .bell => none

/-- The announcement of a schedule entry (R137). -/
def ScheduleEntry.announcement (e : ScheduleEntry) : Announcement := { phrase := e.phrase, zones := e.zones, gain := e.gain }

/-- The action of a firing entry carried out; `none` when a mode action finds nothing to do (R138). -/
def State.fireAction (s : State) (i : Nat) (e : ScheduleEntry) : Option State :=
  match scheduleMode e.action with
  | some m => s.modeAction m (.schedule i) e.announcement
  | none =>
    if e.action = .bell then
      match e.bell with
      | some p => some (s.closingRings p (s.bellSounders e.zones))
      | none => some s
    else some (s.announce e.announcement)

/-- Whether an entry fires at the minute the clock shows (R138). -/
def State.fires (s : State) (i : Nat) (e : ScheduleEntry) : Bool :=
  let c := s.clock
  e.enabled && e.weekdays.getLsbD c.weekday && decide (e.hour = c.hours ∧ e.minute = c.minutes) &&
    decide (s.day.stamps.at? i ≠ some c.day)

/-- One entry at a minute event (R138). -/
def State.fireEntry (s : State) (i : Nat) : State :=
  match s.entry i with
  | none => s
  | some e =>
    if s.fires i e then
      let s := s.modDay fun d => { d with stamps := d.stamps.set i (some s.clock.day) }
      let (s, done) := match s.fireAction i e with
        | some t => (t, true)
        | none => (s, false)
      s.modDay fun d => { d with fired := bump d.fired, noEffect := if done then d.noEffect else bump d.noEffect }
    else s

/-- A minute event: acted on while the clock is VALID, in increasing index order (R138). -/
def State.minuteEvent (s : State) : State :=
  if s.clock.valid then s.forEach (List.range 24) State.fireEntry else s

/-! ### The second boundary (R132 to R135) -/

/-- The length of the period that begins at a boundary, and the trim count after it (R133). -/
def Clock.nextPeriod (c : Clock) : Nat × Nat :=
  if c.trimInterval = 0 then (Config.secondCycles, 0)
  else if c.trimInterval ≤ c.trimCount + 1 then
    (match c.trimDirection with
      | .fast => Config.secondCycles - 1
      | .slow => Config.secondCycles + 1, 0)
  else (Config.secondCycles, c.trimCount + 1)

/-- How far the seconds advance at a boundary: one, or two or none with a pending step (R132, R135). -/
def Clock.advanceBy (c : Clock) : Nat :=
  match c.step with
  | none => 1
  | some d => if 0 < d then 2 else 0

/-- A minute rollover: minutes, hours, weekday and day count (R134). -/
def Clock.rollMinute (c : Clock) : Clock :=
  if c.minutes < 59 then { c with minutes := c.minutes + 1 }
  else if c.hours < 23 then { c with minutes := 0, hours := c.hours + 1 }
  else { c with minutes := 0, hours := 0, weekday := (c.weekday + 1) % 7, day := (c.day + 1) % 65536 }

/-- Whether a second boundary makes a minute rollover (R134). -/
def Clock.rolls (c : Clock) : Bool := decide (59 < c.seconds + c.advanceBy)

/-- The clock after a second boundary (R132 to R135). -/
def Clock.boundary (c : Clock) : Clock :=
  let (period, count) := c.nextPeriod
  let n := c.seconds + c.advanceBy
  let c' := { c with seconds := n % 60, divider := 0, period := period, trimCount := count, step := none }
  if 59 < n then c'.rollMinute else c'

/-- One bit time passes with no command waiting: the present moment moves on by 1 µs, with the tick divider
(R1, R132; notes/assumptions/3.md and 4.md). -/
def State.tick (s : State) : State := s.reach (s.now + 1)

/-! ### Clock orders (R133, R135, R136) -/

/-- Whether the fields of SET_CLOCK lie in their ranges (R136). -/
def clockFieldsOk (f : ClockFields) : Bool :=
  decide (f.seconds < 60 ∧ f.minutes < 60 ∧ f.hours < 24 ∧ f.weekday < 7 ∧ f.day < 65536)

/-- SET_CLOCK (R136). The divider returns to 0 and the next boundary falls one second after the order, so the period that
begins is one of 32,768 cycles (R132, R133). -/
def State.orderSetClock (s : State) : Option ClockFields → State × Status × Detail
  | none => (s, .badValue, .none)
  | some f =>
    if clockFieldsOk f then
      let s := s.modClock fun c => { c with
        valid := true, seconds := f.seconds, minutes := f.minutes, hours := f.hours, weekday := f.weekday, day := f.day
        divider := 0, period := Config.secondCycles, step := none }
      (s.restamp, .done, .none)
    else (s, .badValue, .none)

/-- STEP_CLOCK (R135). -/
def State.orderStepClock (s : State) : Option Int → State × Status × Detail
  | none => (s, .badValue, .none)
  | some d =>
    if d ≠ 1 ∧ d ≠ -1 then (s, .badValue, .none)
    else if s.clock.valid = false then (s, .refusedState, .none)
    else if s.clock.step.isSome then (s, .busy, .none)
    else (s.modClock fun c => { c with step := some d }, .done, .none)

/-- SET_TRIM (R133). -/
def State.orderSetTrim (s : State) : Option TrimFields → State × Status × Detail
  | none => (s, .badValue, .none)
  | some f =>
    match f.direction with
    | .val d =>
      let s := s.modClock fun c => { c with trimDirection := d, trimInterval := min 3600 f.interval, trimCount := 0 }
      (s, if 3600 < f.interval then .clamped else .done, .none)
    | _ => (s, .badValue, .none)

/-- A refusal of STORE_MODE: the REPLY carries the present mode (R146). -/
def State.refuseMode (s : State) (st : Status) : State × Status × Detail := (s, st, .mode s.day.mode)

/-- ORDER STORE_MODE (R146). -/
def State.orderStoreMode (s : State) : Option ModeFields → State × Status × Detail
  | none => s.refuseMode .badValue
  | some f =>
    match f.action with
    | .val m =>
      if f.phrase.any fun p => decide (127 < p) then s.refuseMode .badValue
      else
        let gain := f.gain.getD 256
        match s.modeAction m .order { phrase := f.phrase, zones := f.zones.getD 0xFFFF#16, gain := min 511 gain } with
        | some s' => (s', if 511 < gain then .clamped else .done, .none)
        | none => s.refuseMode .refusedState
    | _ => s.refuseMode .badValue

/-! ### Meanings -/

/-- SECOND_BOUNDARY: the divider has counted the present period; no boundary comes while the crystal stands (R132, R134). -/
def execSecondBoundary (s : State) : Host.Outcome State Fault Refusal :=
  if s.clock.running then
    let rolls := s.clock.rolls
    let s := s.modClock Clock.boundary
    .next (if rolls && s.inPlace then s.minuteEvent else s)
  else .next s

/-- CRYSTAL_LOSS: 1 ms without a crystal cycle (R134). A clock set while the crystal stands is made INVALID again; one that
is INVALID already has had its loss reported. -/
def execCrystalLoss (s : State) : Host.Outcome State Fault Refusal :=
  if s.clock.running || s.clock.valid then
    .next ((s.modClock fun c => { c with running := false, valid := false, step := none }).notify .clockInvalid)
  else .next s

/-- CRYSTAL_CYCLES_RESUME: the clock counts on, and stays INVALID (R134). -/
def execCrystalCyclesResume (s : State) : Host.Outcome State Fault Refusal :=
  .next (s.modClock fun c => { c with running := true })

/-- What the close-wait expiry gives a shaft, by its state (R144). -/
def State.closeWaitShaft (s : State) (k : Nat) : State :=
  match (s.shaft k).state with
  | .lastRun | .clearing | .stopping => s.finalStop k
  | .homing => s.parkHoming k
  | _ => s

/-- CLOSE_WAIT_EXPIRY (R52, R144). Both rules say "each shaft" and no order: that shaft 0 comes before shaft 1 is the model's
choice (notes/assumptions/38.md). -/
def execCloseWaitExpiry (s : State) : Host.Outcome State Fault Refusal :=
  match s.day.closeWait with
  | none => .next s
  | some t =>
    let s := (s.reach t).modDay fun d => { d with closeWait := none, overdue := true }
    .next ((s.closeWaitShaft 0).closeWaitShaft 1).closingCheck

end Sys2Proof.Machine
end

