-- ==== Sys2Proof/Machine/Stations.lean ====
section
/-! DEFINITION. Chapter 1: the Station Table. Hand-offs (R13), supervision (R10), frames heard (R7 to R9, R12), and the
meaning of SUPERVISION_TIMEOUT. -/

namespace Sys2Proof.Machine

/-! ### Hand-offs (R13) -/

/-- A loss handed to the job that reads stations of a role (R13). -/
def State.handLoss (s : State) (i : Nat) : Role → State
  | .shutterDrive => s.driveLoss i
  | .landingStation => s.landingStationChanged i false
  | .annunciator => s.annunciatorLoss i
  | .sounder => s.sounderLoss i
  | .detectionPanel => s.panelLoss i
  | .speaker => s.speakerLoss
  | .callPoint | .console | .other => s

/-- A regain handed to the job that reads stations of a role (R13). -/
def State.handRegain (s : State) (i : Nat) : Role → State
  | .shutterDrive => s.driveRegain i
  | .landingStation => s.landingStationChanged i true
  | .annunciator => s.annunciatorRegain i
  | .sounder => s.sounderRegain i
  | .detectionPanel => s.panelRegain i
  | .speaker => s.speakerRegain i
  | .callPoint | .console | .other => s

/-- A station's presence changed. -/
def State.setPresence (s : State) (i : Nat) (p : Presence) : State := s.modStation i fun x => { x with presence := p }

/-- A station becomes PRESENT: a regain, with STATION_BACK unless it was UNKNOWN (R9, R13). -/
def State.becomePresent (s : State) (i : Nat) (role : Role) (old : Presence) : State :=
  if old = .present then s
  else
    let s := s.setPresence i .present
    let s := if old = .unknown then s else s.notify (.stationBack i)
    s.handRegain i role

/-- A station becomes MISMATCH: a ROLE_MISMATCH notice, and a loss from UNKNOWN or PRESENT (R8, R13). -/
def State.becomeMismatch (s : State) (i : Nat) (role : Role) (old : Presence) : State :=
  if old = .mismatch then s
  else
    let s := (s.setPresence i .mismatch).notify (.roleMismatch i)
    if old = .missing then s else s.handLoss i role

/-- A station becomes MISSING: a STATION_LOST notice, and a loss from UNKNOWN or PRESENT (R10, R13). -/
def State.becomeMissing (s : State) (i : Nat) (role : Role) (old : Presence) : State :=
  let s := (s.setPresence i .missing).notify (.stationLost i)
  if old = .mismatch then s else s.handLoss i role

/-! ### Supervision (R10, R11) -/

/-- A supervision timer started now; a record with BEAT period 0 has none (R10, R11). -/
def State.supervisionTimer (s : State) (period : Nat) : Timer :=
  if period = 0 then none else s.after (ms (1500 * period))

/-- The missed-period count set to 0 and the supervision timer restarted, as for any good frame (R8, R9). -/
def State.refresh (s : State) (i : Nat) (c : StationCfg) : State :=
  s.modStation i fun x => { x with missed := 0, supervision := s.supervisionTimer c.beatPeriod }

/-- A good frame that arrives away from the home port is counted (R12). -/
def State.countForeign (s : State) (i : Nat) (c : StationCfg) (port : Nat) : State :=
  if port = c.homePort then s else s.modStation i fun x => { x with foreign := bump x.foreign }

/-! ### Frames (R7 to R9) -/

/-- A BEAT of a known station, in the numbered order of R8: supervision, the role compare with its notices and its
hand-off, the abilities, the status. So a regained speaker's TUNE carries the fade flag of the abilities held before this
BEAT. -/
def State.beatFrom (s : State) (i : Nat) (c : StationCfg) (role abil status : Byte) : State :=
  let old := s.stationLive i
  let s := s.refresh i c
  let s := if roleOfCode role.toNat = some c.role then s.becomePresent i c.role old.presence
    else s.becomeMismatch i c.role old.presence
  let s := s.modStation i fun x => { x with advertised := abilitiesOfByte abil, lastStatus := some status }
  match old.lastStatus with
  | some b => if b = status then s else s.notify (.stationStatus i b status)
  | none => s

/-- A good frame other than a BEAT, of a known station (R9). -/
def State.hearFrom (s : State) (i : Nat) (c : StationCfg) : State :=
  let old := (s.stationLive i).presence
  let s := s.refresh i c
  if old = .mismatch then s else s.becomePresent i c.role old

/-- A good frame handed to the Station Table (R7). A BEAT whose payload is not of its 3 bytes is heard as any other frame
(notes/assumptions/15.md). -/
def State.tableTakes (s : State) (r : Received) : State :=
  match s.findStation r.frame.src with
  | none => { s with unknownSource := bump s.unknownSource }
  | some i =>
    match s.station i with
    | none => s
    | some c =>
      let s := s.countForeign i c r.port
      match r.frame.payload with
      | [role, abil, status] =>
        if r.frame.kind = Kind.beat then s.beatFrom i c role abil status else s.hearFrom i c
      | _ => s.hearFrom i c

/-- Whether the Station Table passes a tapped frame on to its job: the sender is unknown, or PRESENT after the refresh (R7). -/
def State.passes (s : State) (r : Received) : Bool :=
  match s.findStation r.frame.src with
  | none => true
  | some i => s.isPresent i

/-! ### Meaning -/

/-- SUPERVISION_TIMEOUT: a missed period is counted, and the third makes the station MISSING (R10). R10 says of a MISSING
station that its count stays at 3; that the count is left as it is, also where a changed BEAT period has set it to 0 (R6), is the
model's (notes/assumptions/24.md). -/
def execSupervisionTimeout (i : Nat) (s : State) : Host.Outcome State Fault Refusal :=
  match s.station i, (s.stationLive i).supervision with
  | some c, some t =>
    let s := s.reach t
    let x := s.stationLive i
    let s := s.modStation i fun x => { x with supervision := s.supervisionTimer c.beatPeriod }
    if x.presence = .missing then .next s
    else
      let s := s.modStation i fun x => { x with missed := x.missed + 1 }
      if 3 ≤ x.missed + 1 then .next (s.becomeMissing i c.role x.presence) else .next s
  | _, _ => .next s

end Sys2Proof.Machine
end

