-- ==== Sys2Proof/Machine/Exchange.lean ====
section
/-! DEFINITION. Chapter 10: the Frame Exchange. Receivers and port states (R166 to R168), the intake queue, tapping and
forwarding (R170, R171, R173), sending and clashes (R174 to R176), the line test (R169), and the meanings of the line
events and of the commands that take a station's frame from the intake queue. -/

namespace Sys2Proof.Machine

/-! ### Port states (R167, R168) -/

/-- The notices tried again (R186). -/
def State.dispatch (s : State) : State := { s with net := s.net.dispatch s.globals }

/-- A PORT_STATE notice with the port's present state (R167). -/
def State.notifyPort (s : State) (p : Nat) : State := s.notify (.portState p (s.port p).state)

/-- The frames of a port's transmit queues, and a KEEP in hand, as flushed at an entry to DOWN (R168, R176). -/
def Port.flushCount (p : Port) : Nat :=
  p.safety.length + p.stream.length + p.normal.length +
    (if p.hand.any fun h => decide (h.source = .keep) then 1 else 0)

/-- A port as it is on entry to DOWN (R168). -/
def Port.goDown (p : Port) (now : Micros) : Port :=
  { p with
    state := .down, trial := 0, badRun := 0, silence := none
    keepTimer := some (now + Config.keepInterval), keepDue := false
    safety := [], stream := [], normal := [], hand := none
    counters := { p.counters with flushed := bumpBy p.flushCount p.counters.flushed } }

/-- A port enters DOWN from TRIAL or from UP (R168). -/
def State.portDown (s : State) (p : Nat) : State := (s.modPort p fun x => x.goDown s.now).notifyPort p

/-- A port enters UP: it takes its next frame, and on L4 the notices are tried (R167, R174, R186). -/
def State.portUp (s : State) (p : Nat) : State :=
  let s := s.modPort p fun x => Port.pick { x with state := .up, trial := 0, badRun := 0 }
  let s := s.notifyPort p
  if p = Config.officePort then s.dispatch else s

/-! ### The receiver (R166) -/

/-- A failed check counted and flagged (R166). -/
def State.countCheck (s : State) (p : Nat) (c : LineCheck) : State :=
  s.modPort p fun x => { x with counters := x.counters.count c, sticky := x.sticky.note c }

/-- A bad frame acts on the port state (R167, R168). -/
def State.badFrame (s : State) (p : Nat) : State :=
  match (s.port p).state with
  | .trial => s.modPort p fun x => { x with trial := 0 }
  | .up =>
    let n := (s.port p).badRun + 1
    let s := s.modPort p fun x => { x with badRun := n }
    if 6 ≤ n then s.portDown p else s
  | _ => s

/-- Whether a port takes a good frame of a kind into the intake queue (R167). -/
def Port.takes (p : Port) (kind : Byte) : Bool :=
  match p.state with
  | .up => true
  | .down | .trial => decide (kind = Kind.keep ∨ kind = Kind.beat)
  | .loop => false

/-- A good frame queued, discarded by the port state, or discarded by the full intake queue (R166, R167, R170). -/
def State.intakeFrame (s : State) (p : Nat) (f : Frame) : State :=
  if Config.intakeSize ≤ s.exchange.intake.length then s.countCheck p .overrun
  else if (s.port p).takes f.kind then
    { s with exchange := { s.exchange with intake := s.exchange.intake ++ [{ port := p, frame := f }] } }
  else s.modPort p fun x => { x with counters := { x.counters with trialDiscarded := bump x.counters.trialDiscarded } }

/-- A good frame acts on the port state (R167, R168). -/
def State.goodFrame (s : State) (p : Nat) : State :=
  let timer := s.after Config.silenceLimit
  match (s.port p).state with
  | .down => (s.modPort p fun x => { x with state := .trial, trial := 1, silence := timer }).notifyPort p
  | .trial =>
    let n := (s.port p).trial + 1
    let s := s.modPort p fun x => { x with trial := n, silence := timer }
    if 3 ≤ n then s.portUp p else s
  | .up => s.modPort p fun x => { x with badRun := 0, silence := timer }
  | .loop => s

/-- Whether a port is sending its frame in hand. -/
def Port.sendingHand (p : Port) : Option Hand := p.hand.filter fun h => decide (h.phase = .sending)

/-- Whether a port judges what it hears as a received frame: a port in LOOP does not read its line (R169), and a frame
heard while the port sends is its own (R166). -/
def Port.judges (p : Port) : Bool := decide (p.state ≠ .loop) && p.sendingHand.isNone

/-- FRAME_RECEIVE: a port's receiver judges a frame at line quiet (R166). -/
def execFrameReceive (p : Nat) (line : LineEvent) (s : State) : Host.Outcome State Fault Refusal :=
  if s.inPlace = false ∨ 5 ≤ p ∨ (s.port p).judges = false then .next s
  else match judgeLine line with
    | .error c => .next ((s.countCheck p c).badFrame p)
    | .ok f =>
      let s := s.modPort p fun x => { x with counters := { x.counters with good := bump x.counters.good } }
      .next ((s.intakeFrame p f).goodFrame p)

/-- PORT_SILENCE_TIMEOUT: 30 ms without a good frame (R167, R168). -/
def execPortSilenceTimeout (p : Nat) (s : State) : Host.Outcome State Fault Refusal :=
  match (s.port p).silence with
  | none => .next s
  | some t => .next ((s.reach t).portDown p)

/-! ### Sending (R174 to R176) -/

/-- The part's KEEP: to every station, its own address as source, kind 01h, no payload (R167). -/
def State.keepFrame (s : State) : TxFrame :=
  { dest := Config.allStations, src := s.globals.own, kind := Kind.keep, payload := .raw [] }

/-- A KEEP taken in hand by a port in DOWN or TRIAL (R167). -/
def Port.handKeep (p : Port) : Port := { p with keepDue := false, hand := some { source := .keep } }

/-- KEEP_INTERVAL: 10 ms after the last frame sent a KEEP is due; an idle port takes it in hand (R167, R168). -/
def execKeepInterval (p : Nat) (s : State) : Host.Outcome State Fault Refusal :=
  match (s.port p).keepTimer with
  | none => .next s
  | some t =>
    .next ((s.reach t).modPort p fun x =>
      let x := { x with keepTimer := none }
      match x.state with
      | .up => if x.hand.any fun h => decide (h.source = .keep) then x else Port.pick { x with keepDue := true }
      | .down | .trial => if x.hand = none then x.handKeep else x
      | .loop => x)

/-- DEFERRAL_END: the second part of the deferral ends and the port sends (R174). -/
def execDeferralEnd (p : Nat) (s : State) : Host.Outcome State Fault Refusal :=
  .next (s.modPort p fun x => { x with
    hand := x.hand.map fun h => if h.phase = .deferring then { h with phase := .sending } else h })

/-- The frame in hand of a queue. -/
def Port.headOf (p : Port) : QueueClass → Option TxFrame
  | .safety => p.safety.head?
  | .stream => p.stream.head?
  | .normal => p.normal.head?

/-- The frame in hand: the part's KEEP, or the head of the queue it came from (R167, R174). -/
def State.frameInHand (s : State) (p : Nat) : Option TxFrame :=
  match (s.port p).hand with
  | none => none
  | some h =>
    match h.source with
    | .keep => some s.keepFrame
    | .queue c => (s.port p).headOf c

/-- A queue's head leaves it, and nothing is in hand. -/
def Port.dropHead (p : Port) : QueueClass → Port
  | .safety => { p with safety := p.safety.drop 1, hand := none }
  | .stream => { p with stream := p.stream.drop 1, hand := none }
  | .normal => { p with normal := p.normal.drop 1, hand := none }

/-- After a frame has left its queue: notices are tried when it left L4's NORMAL queue, and the next frame is taken
(R174, R186). -/
def State.nextFrame (s : State) (p : Nat) (c : QueueClass) : State :=
  let s := if p = Config.officePort ∧ c = .normal then s.dispatch else s
  s.modPort p Port.pick

/-- A frame counted sent; the KEEP interval restarts at its end (R174). -/
def Port.countSent (p : Port) (now : Micros) : Port :=
  { p with
    keepTimer := some (now + Config.keepInterval)
    counters := { p.counters with sent := bump p.counters.sent } }

/-- A KEEP in hand sent (R167, R174). -/
def State.keepSent (s : State) (p : Nat) : State :=
  s.modPort p fun x => Port.pick { x.countSent s.now with hand := none }

/-- A clash counted. -/
def Port.countClash (p : Port) : Port := { p with counters := { p.counters with clash := bump p.counters.clash } }

/-- A frame abandoned after its clashes counted. -/
def Port.countAbandoned (p : Port) : Port :=
  { p with counters := { p.counters with abandoned := bump p.counters.abandoned } }

/-- A KEEP that clashes: the jam, no backoff, and the interval restarts from the end of the jam (R167, R168). -/
def State.keepClash (s : State) (p : Nat) : State :=
  s.modPort p fun x => Port.pick { x.countClash.countAbandoned with
    hand := none, keepTimer := some (s.now + Config.jam + Config.keepInterval) }

/-- The largest k of the backoff of a class (R175). -/
def backoffCap : QueueClass → Nat
  | .safety => 3
  | .stream | .normal => 6

/-- An early clash of a queued frame: backoff, or abandonment at the 12th attempt (R175). -/
def State.frameClash (s : State) (p : Nat) (c : QueueClass) (h : Hand) : State :=
  let n := h.attempts + 1
  let s := s.modPort p Port.countClash
  if Config.maxAttempts ≤ n then (s.modPort p fun x => x.countAbandoned.dropHead c).nextFrame p c
  else
    let r := Config.backoffDraw s.draws % 2 ^ (min n (backoffCap c))
    let ends := s.now + Config.jam + r * Config.backoffSlot
    { s with draws := s.draws + 1 }.modPort p fun x => { x with
      hand := some { h with attempts := n, phase := .backoff r ends } }

/-- EARLY_CLASH (R175). -/
def execEarlyClash (p : Nat) (s : State) : Host.Outcome State Fault Refusal :=
  match (s.port p).sendingHand with
  | none => .next s
  | some h =>
    match h.source with
    | .keep => .next (s.keepClash p)
    | .queue c => .next (s.frameClash p c h)

/-- Whether a frame is too short to clash late: fewer than 24 bytes after the mark (R175). -/
def TxFrame.short (f : TxFrame) : Bool :=
  match f.payload with
  | .raw bs => decide (8 + bs.length < 24)
  | .reply _ _ _ | .notice _ => false

/-- A late clash of a queued frame (R176). -/
def State.lateClashed (s : State) (p : Nat) (c : QueueClass) : State :=
  (s.modPort p fun x => Port.dropHead { x with
    counters := { x.counters with lateClash := bump x.counters.lateClash }
    sticky := { x.sticky with lateClash := true } } c).nextFrame p c

/-- LATE_CLASH (R176). A KEEP and every other frame of fewer than 24 bytes can clash only early (R175). -/
def execLateClash (p : Nat) (s : State) : Host.Outcome State Fault Refusal :=
  match (s.port p).sendingHand with
  | none => .next s
  | some h =>
    if (s.frameInHand p).any TxFrame.short then .next s
    else match h.source with
      | .keep => .next s
      | .queue c => .next (s.lateClashed p c)

/-- BACKOFF_END: the next attempt begins with deferral (R175). -/
def execBackoffEnd (p : Nat) (s : State) : Host.Outcome State Fault Refusal :=
  match (s.port p).hand with
  | some h =>
    match h.phase with
    | .backoff _ t => .next ((s.reach t).modPort p fun x => { x with hand := some { h with phase := .deferring } })
    | _ => .next s
  | none => .next s

/-! ### The line test (R169) -/

/-- The payload of the test frame: 00h, 01h, … 2Fh (R169). -/
def testPayload : List Byte := (List.range 48).map (BitVec.ofNat 8)

/-- The test frame: a KEEP to every station, its own address as source, of length 48 (R169). -/
def State.testFrame (s : State) : Frame :=
  { dest := Config.allStations, src := s.globals.own, kind := Kind.keep, payload := testPayload }

/-- LINE_TEST taken: the port enters LOOP and the test frame is sent inside the part (R169). -/
def State.startTest (s : State) (p : Nat) (t : Ticket) : State :=
  (s.modPort p fun x => { x with
    state := .loop, hand := none, keepTimer := none, keepDue := false
    test := some { ticket := t, limit := s.now + Config.lineTestLimit, frame := s.testFrame } }).notifyPort p

/-- The end of a line test: the port returns to DOWN and the order is answered (R169). -/
def State.endTest (s : State) (p : Nat) (t : LineTest) (passed : Bool) : State :=
  let s := (s.modPort p fun x => { x.goDown s.now with test := none }).notifyPort p
  s.reply t.ticket .done (.test passed)

/-- LINE_TEST_RECEIVE: the receiver judges what it hears of the test frame; the test passes on a good frame whose payload is
the one sent (R166, R169). A test frame that passes every check and only differs in its payload fits none of the port's check
counters and is counted nowhere: the model's choice (notes/assumptions/44.md). -/
def execLineTestReceive (p : Nat) (line : LineEvent) (s : State) : Host.Outcome State Fault Refusal :=
  match (s.port p).test with
  | none => .next s
  | some t =>
    match judgeLine line with
    | .error c => .next ((s.countCheck p c).endTest p t false)
    | .ok f => .next (s.endTest p t (decide (f.payload = t.frame.payload)))

/-- LINE_TEST_TIMEOUT: no frame has been received 2 ms after the order; no check has failed, and no counter counts it: the
model's choice (R169; notes/assumptions/44.md). -/
def execLineTestTimeout (p : Nat) (s : State) : Host.Outcome State Fault Refusal :=
  match (s.port p).test with
  | none => .next s
  | some t => .next ((s.reach t.limit).endTest p t false)

/-! ### Taking frames (R170) -/

/-- The steps that take a frame from the intake queue, by the frame (R170, R178). -/
inductive FrameStep where
  | keep | beat | detect | shutstat | landing | press | cancel | ack | samples | setup | query | order | forward
deriving DecidableEq, Repr

/-- Whether a CALL payload is a CANCEL; every other CALL frame is judged by CALL_PRESS (R102). -/
def isCancel : List Byte → Bool
  | [a, _] => decide (a = 1#8)
  | _ => false

/-- The step that takes a frame tapped by the part; FORWARD for a kind it does not tap (R170). -/
def tappedStep (kind : Byte) (payload : List Byte) : FrameStep :=
  if kind = Kind.beat then .beat
  else if kind = Kind.detect then .detect
  else if kind = Kind.shutstat then .shutstat
  else if kind = Kind.landing then .landing
  else if kind = Kind.call then (if isCancel payload then .cancel else .press)
  else if kind = Kind.callAck then .ack
  else if kind = Kind.samples then .samples
  else if kind = Kind.setup then .setup
  else if kind = Kind.query then .query
  else if kind = Kind.order then .order
  else .forward

/-- The step that takes a frame: KEEP is consumed, a frame to the part is tapped by its kind, any other is forwarded (R170). -/
def frameStep (own : Addr) (f : Frame) : FrameStep :=
  if f.kind = Kind.keep then .keep
  else if f.dest = own then tappedStep f.kind f.payload
  else .forward

/-- A received frame as a frame to send, unchanged (R171, R173). -/
def Frame.toTx (f : Frame) : TxFrame := { dest := f.dest, src := f.src, kind := f.kind, payload := .raw f.payload }

/-- The mirror flag of a port (R173). -/
def State.mirrored (s : State) (p : Nat) : Bool := (s.tables.ports.getD p {}).mirror

/-- A copy of a frame from a mirrored port offered to L4's NORMAL queue (R170 step 1, R173). -/
def State.mirror (s : State) (r : Received) : State :=
  if s.mirrored r.port then s.offer Config.officePort .normal r.frame.toTx else s

/-- The head of the intake queue, if the tables are in place and a given step takes it. -/
def State.headFor (s : State) (want : FrameStep) : Option Received :=
  match s.exchange.intake with
  | r :: _ => if s.inPlace && decide (frameStep s.globals.own r.frame = want) then some r else none
  | [] => none

/-- The head leaves the intake queue, is mirrored, and is handed to the Station Table (R170 steps 1 and 2). -/
def State.takeHead (s : State) (r : Received) : State :=
  let s := { s with exchange := { s.exchange with intake := s.exchange.intake.drop 1 } }
  (s.mirror r).tableTakes r

/-- Whether a tapped frame has the payload length its kind needs (R170). -/
def Frame.goodLength (f : Frame) : Bool := (fixedLength f.kind).all fun n => decide (f.payload.length = n)

/-- A change of the shared counters of the Frame Exchange (R177). -/
def State.countExchange (s : State) (f : ExchangeCounters → ExchangeCounters) : State :=
  { s with exchange := { s.exchange with counters := f s.exchange.counters } }

/-- A frame whose length is not its kind's, counted (R170). -/
def State.badPayload (s : State) : State := s.countExchange fun c => { c with badPayload := bump c.badPayload }

/-- A frame that does not reach its job: dropped from a MISMATCH sender (R7), or for its length (R170). -/
def State.dropTapped (s : State) (r : Received) : State :=
  if s.passes r then s.badPayload else { s with mismatchDrop := bump s.mismatchDrop }

/-- A tapped frame taken to its job, if there is one to take (R170). -/
def State.onHead (s : State) (head : Option Received) (job : State → Received → State) : State :=
  match head with
  | none => s
  | some r =>
    let s := s.takeHead r
    if s.passes r && r.frame.goodLength then job s r else s.dropTapped r

/-- A step that takes a tapped frame to its job. The event cannot occur while the head of the intake queue is not a frame
of the step (notes/assumptions/1.md). -/
def State.onFrame (s : State) (want : FrameStep) (job : State → Received → State) : State := s.onHead (s.headFor want) job

/-- The station record of a frame's sender. -/
def State.sender (s : State) (r : Received) : Option Nat := s.findStation r.frame.src

/-- KEEP: a KEEP frame is handed to the Station Table and consumed (R170). -/
def execKeep (s : State) : Host.Outcome State Fault Refusal :=
  match s.headFor .keep with
  | none => .next s
  | some r => .next (s.takeHead r)

/-- BEAT: the Station Table takes it, and no job does (R7, R8). A BEAT of a wrong length is counted, whatever the presence of
its sender: R7 drops only the other kinds (R170). -/
def execBeat (s : State) : Host.Outcome State Fault Refusal :=
  match s.headFor .beat with
  | none => .next s
  | some r => .next (if r.frame.goodLength then s.takeHead r else (s.takeHead r).badPayload)

/-- DETECT (R59). -/
def execDetect (s : State) : Host.Outcome State Fault Refusal :=
  .next (s.onFrame .detect fun s r => s.detect (s.sender r) r.frame.payload)

/-- SHUTSTAT (R86). -/
def execShutstat (s : State) : Host.Outcome State Fault Refusal :=
  .next (s.onFrame .shutstat fun s r => s.shutstat (s.sender r) r.frame.payload)

/-- A LANDING frame handed to the Shaft Controllers (R32, R178). A byte other than 0 reads as TRIPPED or PULLED
(notes/assumptions/16.md). -/
def State.landingFrame (s : State) (r : Received) : State :=
  match r.frame.payload with
  | a :: b :: _ => s.landingReport (s.sender r) (decide (a ≠ 0#8)) (decide (b ≠ 0#8))
  | _ => s

/-- LANDING (R32). -/
def execLanding (s : State) : Host.Outcome State Fault Refusal := .next (s.onFrame .landing State.landingFrame)

/-- The in-use CALL_POINT record of a sender (R102). -/
def State.callPointOf (s : State) (r : Received) : Option Nat :=
  (s.sender r).filter fun i => (s.station i).any fun c => decide (c.role = .callPoint)

/-- A CALL frame of an unknown sender, or with a value outside the listed codes (R102). -/
def State.badCall (s : State) : State := s.countCalls fun c => { c with badCall := bump c.badCall }

/-- A CALL frame judged by the Call Router, and carried out as a PRESS or a CANCEL (R102). -/
def State.callFrame (s : State) (r : Received) (act : State → Nat → CallClass → State) (action : Byte) : State :=
  match s.callPointOf r, r.frame.payload with
  | some p, a :: k :: _ =>
    match CallClass.ofByte k with
    | some k => if a = action then act s p k else s.badCall
    | none => s.badCall
  | _, _ => s.badCall

/-- CALL_PRESS (R102, R103). -/
def execCallPress (s : State) : Host.Outcome State Fault Refusal :=
  .next (s.onFrame .press fun s r => s.callFrame r State.press 0#8)

/-- CALL_CANCEL (R102, R105). -/
def execCallCancel (s : State) : Host.Outcome State Fault Refusal :=
  .next (s.onFrame .cancel fun s r => s.callFrame r State.cancel 1#8)

/-- A CALL_ACK frame judged by the Call Router (R106). -/
def State.ackFrame (s : State) (r : Received) : State :=
  let known := (s.sender r).any fun i => (s.station i).any fun c => decide (c.role = .annunciator)
  match r.frame.payload with
  | hi :: lo :: k :: _ =>
    if known then
      match CallClass.ofByte k with
      | some k => s.acknowledge (word16 hi lo) k
      | none => s.countCalls fun c => { c with unmatched := bump c.unmatched }
    else s.badCall
  | _ => s.badCall

/-- CALL_ACK (R106). -/
def execCallAck (s : State) : Host.Outcome State Fault Refusal := .next (s.onFrame .ack State.ackFrame)

/-- PAGE_SAMPLES (R160 to R162). -/
def execPageSamples (s : State) : Host.Outcome State Fault Refusal :=
  .next (s.onFrame .samples fun s r => s.pageSamples r.frame.src r.frame.payload)

/-! ### Forwarding (R171) -/

/-- The filter bit of a group address: (high byte + low byte) mod 64 (R171). -/
def filterBit (a : Addr) : Nat := ((a.extractLsb' 8 8).toNat + (a.extractLsb' 0 8).toNat) % 64

/-- The UP ports other than the arrival port that a group or all-stations frame goes to (R171). The arrival port is the one on
which the frame really arrived, also for a sender at home on another port (R12): the model's choice
(notes/assumptions/42.md). -/
def State.groupPorts (s : State) (r : Received) : List Nat :=
  (List.range 5).filter fun p =>
    decide (p ≠ r.port ∧ (s.port p).state = .up) &&
      (decide (r.frame.dest = Config.allStations) || (s.tables.ports.getD p {}).filter.getLsbD (filterBit r.frame.dest))

/-- The queue class of a forwarded frame (R171). -/
def forwardClass (f : Frame) : QueueClass := if f.kind = Kind.samples then .stream else .normal

/-- A frame queued unchanged to a list of ports. One that leaves for at least one port is counted once; a copy that a queue
refuses leaves for none (R171, R172). -/
def State.forwardTo (s : State) (r : Received) (ps : List Nat) : State :=
  let c := forwardClass r.frame
  let leaves := ps.any fun p => (s.port p).accepts c
  let s := s.forEach ps fun s p => s.offer p c r.frame.toTx
  if leaves then s.countExchange fun c => { c with forwarded := bump c.forwarded } else s

/-- A frame for one station (R171). The arrival port is the one on which the frame really arrived, also for a sender at home on
another port (R12): the model's choice (notes/assumptions/42.md). A frame whose home port is both its arrival port and not UP
meets both counting sentences of R171, which gives neither the first place; it is counted in same-port only: the model's
choice (notes/assumptions/45.md). -/
def State.forwardSingle (s : State) (r : Received) : State :=
  match (s.findStation r.frame.dest).bind s.station with
  | none => s.countExchange fun c => { c with unknownDestination := bump c.unknownDestination }
  | some c =>
    if c.homePort = r.port then s.countExchange fun c => { c with samePort := bump c.samePort }
    else if (s.port c.homePort).state = .up then s.forwardTo r [c.homePort]
    else s.countExchange fun c => { c with notUp := bump c.notUp }

/-- FORWARD: a frame that is neither a KEEP nor tapped (R170 step 5, R171). -/
def execForward (s : State) : Host.Outcome State Fault Refusal :=
  match s.headFor .forward with
  | none => .next s
  | some r =>
    let s := s.takeHead r
    .next (if r.frame.dest.msb then s.forwardTo r (s.groupPorts r) else s.forwardSingle r)

end Sys2Proof.Machine
end

