-- ==== Sys2Proof/Machine/Checks.lean ====
section
/-! DEFINITION. The BAD_VALUE checks of the ten tables, over the tables alone: the console's writes are held to them
(R4, R15, R16, R57, R62, R77, R98, R137, R173, R181) and so is a stored image as a whole (R188). -/

namespace Sys2Proof.Machine

/-- A value set to the nearest end of its range (R1). -/
def clampTo (lo hi x : Nat) : Nat := max lo (min hi x)

/-- Whether a value lies in a range. -/
def inRange (lo hi x : Nat) : Bool := decide (lo ≤ x ∧ x ≤ hi)

/-- The indices of the in-use entries of a table, other than one index, at which a condition holds. -/
def othersWhere {α : Type} {n : Nat} (t : Tab (Option α) n) (i : Nat) (p : α → Bool) : List Nat :=
  indicesWhere n fun j => decide (j ≠ i) && (t.at? j).any p

/-- Whether a station index names an in-use record of a role (R5). -/
def Tables.hasRole (t : Tables) (i : Nat) (r : Role) : Bool := (t.stations.at? i).any fun c => decide (c.role = r)

/-! ### Stations (R3, R4) -/

/-- Whether a role uses the zone field (R3). -/
def roleUsesZone : Role → Bool
  | .callPoint | .sounder | .speaker => true
  | _ => false

/-- Whether a role may have a set of abilities configured (R3). -/
def roleAllows (r : Role) (a : Abilities) : Bool :=
  (!a.chime || decide (r = .sounder)) && (!a.fade || decide (r = .speaker))

/-- Whether an address is individual: 0001h to 7FFFh (R165). -/
def individual (a : Addr) : Bool := decide (a ≠ 0#16) && !a.msb

/-- The checks of R4, steps 2 to 4, and the range of the BEAT period. An absent zone or an empty ability set counts as a field
not given, for every role: R3 does not say whether naming it outright is giving it, and accepting it is the model's choice
(notes/assumptions/40.md). -/
def Tables.stationOk (t : Tables) (i : Nat) (c : StationCfg) : Bool :=
  individual c.address && decide (c.address ≠ t.globals.own) &&
    (othersWhere t.stations i fun x => decide (x.address = c.address)).isEmpty &&
    decide (c.homePort < 5) && (c.zone.all fun z => decide (z < 16) && roleUsesZone c.role) &&
    roleAllows c.role c.abilities &&
    (decide (c.role ≠ .sounder) || decide ((othersWhere t.stations i fun x => decide (x.role = .sounder)).length < 24)) &&
    decide (c.beatPeriod ≤ 10)

/-! ### Points (R57) and zones (R62) -/

/-- The checks of R57, steps 2 to 4. -/
def Tables.pointOk (t : Tables) (i : Nat) (c : PointCfg) : Bool :=
  decide (c.number < 64 ∧ c.zone < 16) && t.hasRole c.panel .detectionPanel &&
    (othersWhere t.points i fun x => decide (x.panel = c.panel ∧ x.number = c.number)).isEmpty

/-- A zone's values set to their ranges (R62). -/
def ZoneCfg.clamp (c : ZoneCfg) : ZoneCfg :=
  { c with
    knockWindow := clampTo 30 300 c.knockWindow
    clearanceTimeout := clampTo 5 60 c.clearanceTimeout
    warningTime := clampTo 2 15 c.warningTime }

/-! ### Shutters (R77) -/

/-- A shutter's limits set to their ranges (R76). -/
def ShutterCfg.clamp (c : ShutterCfg) : ShutterCfg :=
  { c with descentLimit := clampTo 10 120 c.descentLimit, raiseLimit := clampTo 10 180 c.raiseLimit }

/-- Whether a landing of a shaft has a sill in use (R77). -/
def Tables.hasSill (t : Tables) (r : LandingRef) : Bool :=
  (t.shafts.getD r.shaft {}).sills.cells.any fun x => x.any fun x => decide (x.landing = r.landing)

/-- The checks of R77, step 2. -/
def Tables.shutterOk (t : Tables) (i : Nat) (c : ShutterCfg) : Bool :=
  decide (c.zone < 16) && (c.landing.all fun r => decide (r.shaft < 2 ∧ r.landing < 12) && t.hasSill r) &&
    t.hasRole c.drive .shutterDrive &&
    (othersWhere t.shutters i fun x =>
      decide (x.drive = c.drive ∨ (c.landing.isSome ∧ x.landing = c.landing))).isEmpty

/-! ### Routes (R98) -/

/-- The checks of R98, step 2. -/
def Tables.routeOk (t : Tables) (i : Nat) (r : Route) : Bool :=
  inRange 1 9 r.bellCode && t.hasRole r.callPoint .callPoint && t.hasRole r.primary .annunciator &&
    (r.secondary.all fun j => t.hasRole j .annunciator && decide (j ≠ r.primary)) &&
    (r.sounder.all fun j => t.hasRole j .sounder) &&
    (othersWhere t.routes i fun x => decide (x.callPoint = r.callPoint)).isEmpty

/-! ### Shafts and sills (R15, R16) -/

/-- The structural checks of R15, step 2. -/
def Tables.shaftOk (t : Tables) (k : Nat) (g : Geometry) : Bool :=
  inRange 1200 60000 g.L && inRange 4 40 g.N && decide (1 ≤ g.C) && decide (g.Gb ≤ 255 ∧ g.Ga ≤ 255) &&
    decide (g.tol ≤ 63) && decide (g.sc ≤ 255) && inRange 1 255 g.slip &&
    decide (g.L % g.N = 0 ∧ 100 ≤ g.pitch ∧ g.C < g.pitch ∧ g.H < g.L) &&
    ((t.shafts.getD k {}).sills.cells.all fun x => x.all fun x => decide (x.position < g.L))

/-- A shaft's speeds and deceleration set to their ranges (R15). -/
def Geometry.clamp (g : Geometry) : Geometry :=
  { g with Vc := clampTo 20 400 g.Vc, a := clampTo 50 2000 g.a, Vmax := clampTo 100 4000 g.Vmax }

/-- The BAD_VALUE checks of R16. -/
def Tables.sillOk (t : Tables) (k i : Nat) (x : Sill) : Bool :=
  let sills := (t.shafts.getD k {}).sills
  let other := (t.shafts.getD (1 - k) {}).sills
  decide (x.position < (t.shafts.getD k {}).geometry.L ∧ x.landing < 12) && t.hasRole x.station .landingStation &&
    (othersWhere sills i fun y => decide (y.landing = x.landing ∧ y.side = x.side)).isEmpty &&
    (othersWhere sills i fun y => decide (y.landing = x.landing ∧ y.station ≠ x.station)).isEmpty &&
    (othersWhere sills i fun y => decide (y.landing ≠ x.landing ∧ y.station = x.station)).isEmpty &&
    !(other.cells.any fun y => y.any fun y => decide (y.station = x.station))

/-! ### Schedule (R137), ports (R173) and GLOBAL (R181) -/

/-- Whether the values of a bell pattern lie in their ranges (R137). -/
def patternOk : Pattern → Bool
  | .strokes n r => inRange 1 9 n && inRange 1 9 r
  | .chime r => inRange 1 9 r

/-- The checks of R137, step 2. -/
def scheduleOk (e : ScheduleEntry) : Bool :=
  decide (e.hour < 24 ∧ e.minute < 60) && (e.phrase.all fun p => decide (p < 128)) &&
    (match e.action with
      | .announce => e.phrase.isSome && e.bell.isNone
      | .bell => e.phrase.isNone && e.bell.any patternOk
      | _ => e.bell.isNone)

/-- The check of R173: no mirror flag for port 4. -/
def portOk (p : Nat) (c : PortCfg) : Bool := !(c.mirror && decide (p = Config.officePort))

/-- The checks of R181 that give BAD_VALUE. -/
def Tables.globalOk (t : Tables) (g : Global) : Bool :=
  individual g.own && (othersWhere t.stations 96 fun c => decide (c.address = g.own)).isEmpty &&
    (g.console0.all fun a => individual a && decide (a ≠ g.own)) &&
    (g.console1.all fun a => individual a && decide (a ≠ g.own)) &&
    (g.evacPhrase.all fun p => decide (p < 128)) && (g.standbyPhrase.all fun p => decide (p < 128))

/-- The preempt wait set to its values: 0, or 5 to 60 s (R131). -/
def clampPreempt (n : Nat) : Nat := if n = 0 then 0 else clampTo 5 60 n

/-- The settings of the store set to their ranges (R131, R149, R181). -/
def Global.clamp (g : Global) : Global :=
  { g with
    escalation := clampTo 10 600 g.escalation
    preemptWait := clampPreempt g.preemptWait
    bellStrokes := clampTo 1 9 g.bellStrokes
    bellRepeats := clampTo 1 9 g.bellRepeats
    evacGain := min 511 g.evacGain }

/-! ### The image as a whole (R188) -/

/-- Whether every in-use entry of a table passes a check. -/
def entriesOk {α : Type} {n : Nat} (t : Tab (Option α) n) (p : Nat → α → Bool) : Bool :=
  (List.range n).all fun i => (t.at? i).all (p i)

/-- Whether every entry of the tables passes its checks and holds each value within its range (R188). -/
def Tables.check (t : Tables) : Bool :=
  entriesOk t.stations t.stationOk && entriesOk t.points t.pointOk &&
    (t.zones.cells.all fun c => decide (c.clamp = c)) &&
    entriesOk t.shutters (fun i c => t.shutterOk i c && decide (c.clamp = c)) &&
    entriesOk t.routes t.routeOk &&
    ([0, 1].all fun k =>
      let x := t.shafts.getD k {}
      t.shaftOk k x.geometry && decide (x.geometry.clamp = x.geometry ∧ x.geometry.Vc < x.geometry.Vmax) &&
        entriesOk x.sills (t.sillOk k)) &&
    entriesOk t.schedule (fun _ e => scheduleOk e && decide (e.gain ≤ 511)) &&
    ((List.range 5).all fun p => portOk p (t.ports.getD p {})) &&
    t.globalOk t.globals && decide (t.globals.clamp = t.globals)

end Sys2Proof.Machine
end

