-- ==== Sys2Proof/Machine/Requests.lean ====
section
/-! DEFINITION. Chapter 11, requests (R179): the Management Unit judges a SETUP, QUERY or ORDER frame and answers it. -/

namespace Sys2Proof.Machine

/-- Whether a request comes from an accepted console: an empty console list accepts any source (R179 step 2). -/
def State.fromConsole (s : State) (src : Addr) : Bool :=
  let g := s.globals
  decide ((g.console0 = none ∧ g.console1 = none) ∨ g.console0 = some src ∨ g.console1 = some src)

/-- A request rejected by its port or its source (R179). -/
def State.reject (s : State) : State := s.modMgmt fun m => { m with rejected := bump m.rejected }

/-- A request too short for its header (R179). -/
def State.badRequest (s : State) : State := s.modMgmt fun m => { m with badRequest := bump m.badRequest }

/-- Whether a request of a step is answered BUSY while a restart is pending: every ORDER and SETUP (R192). -/
def State.restartHolds (s : State) (want : FrameStep) : Bool := s.settings.restart.isSome && decide (want ≠ .query)

/-- A request judged by its port, its source and its header, then carried out (R179). -/
def State.judgeRequest (s : State) (want : FrameStep) (act : State → Ticket → State) (r : Received) : State :=
  if r.port ≠ Config.officePort then s.reject
  else if !s.fromConsole r.frame.src then s.reject
  else if r.frame.payload.length < 4 then s.badRequest
  else
    let t : Ticket := { tag := requestTag r.frame.payload, src := r.frame.src }
    if s.restartHolds want then s.reply t .busy else act s t

/-- Whether a request may be one that names an entry or an object by its number: byte 3 of the payload is that number
(R178). A request without its header names nothing, and `none` stands for a command whose byte 3 the book gives no meaning
(notes/assumptions/2.md). -/
def Received.names (r : Received) (object : Option Nat) : Bool :=
  match object, requestIndex r.frame.payload with
  | some i, some j => decide (i = j)
  | _, _ => true

/-- The head of the intake queue, if a step takes it and it names the object of the command (R170, R178). -/
def State.requestFor (s : State) (want : FrameStep) (object : Option Nat) : Option Received :=
  (s.headFor want).filter fun r => r.names object

/-- A step that takes a request from the intake queue (R170, R179). -/
def State.onRequest (s : State) (want : FrameStep) (object : Option Nat) (act : State → Ticket → State) : State :=
  s.onHead (s.requestFor want object) fun s r => s.judgeRequest want act r

/-- A request answered in the step in which it is taken (R179). -/
def answer (t : Ticket) (x : State × Status × Detail) : State := x.1.reply t x.2.1 x.2.2

/-- A SETUP of an entry taken and answered (R180). -/
def State.onSetup (s : State) (index : Option Nat) (act : State → State × Status × Detail) : Host.Outcome State Fault Refusal :=
  .next (s.onRequest .setup index fun s t => answer t (act s))

/-- An ORDER about an object taken and answered in its step (R179). -/
def State.onOrder (s : State) (object : Option Nat) (act : State → State × Status × Detail) : Host.Outcome State Fault Refusal :=
  .next (s.onRequest .order object fun s t => answer t (act s))

/-- A refusal with a status and no detail. -/
def State.refuse (s : State) (st : Status) : State × Status × Detail := (s, st, .none)

/-- A request carried out: CLAMPED when a value was set to its range (R1, R180). -/
def State.carried (s : State) (clamped : Bool) : State × Status × Detail := (s, if clamped then .clamped else .done, .none)

end Sys2Proof.Machine
end

