-- ==== Sys2Proof/Machine/Setup.lean ====
section
/-! DEFINITION. The SETUPs of the ten tables (R180): drafts from the request's fields, the checks in each table's order,
the effects on live state, and the meanings of SETUP_STATION to SETUP_GLOBAL. -/

namespace Sys2Proof.Machine

/-- An optional field of a request that may also be removed: left out, it keeps the present value or takes none. -/
def optField {α β : Type} (given : Option (Option α)) (old : Option β) (get : β → Option α) : Option α :=
  match given with
  | some x => x
  | none => old.bind get

/-- A field of a request, else the present value, else the default (R2). -/
def field {α β : Type} (given : Option α) (old : Option β) (get : β → α) (dflt : α) : α :=
  (given.or (old.map get)).getD dflt

/-- An enumerated field of a request, else the present value, else the default. -/
def enumField {α β : Type} (given : Given α) (old : Option β) (get : β → α) (dflt : α) : α :=
  match given with
  | .val a => a
  | _ => (old.map get).getD dflt

/-! ### STATION (R4 to R6) -/

/-- Whether a table entry names a station (R5). -/
def Tables.namesStation (t : Tables) (i : Nat) : Bool :=
  (t.points.cells.any fun x => x.any fun c => decide (c.panel = i)) ||
  (t.shutters.cells.any fun x => x.any fun c => decide (c.drive = i)) ||
  (t.routes.cells.any fun x => x.any fun r =>
    decide (r.callPoint = i ∨ r.primary = i ∨ r.secondary = some i ∨ r.sounder = some i)) ||
  (t.shafts.cells.any fun k => k.sills.cells.any fun x => x.any fun y => decide (y.station = i))

/-- Whether a station record is referenced (R5). -/
def State.referenced (s : State) (i : Nat) : Bool :=
  s.tables.namesStation i || s.calls.records.any fun r => decide (r.point = i)

/-- The abilities a role keeps when a record is rewritten without giving them (R3). -/
def keptAbilities (r : Role) (a : Abilities) : Abilities :=
  { chime := a.chime && decide (r = .sounder), fade := a.fade && decide (r = .speaker) }

/-- The record a SETUP STATION would write; `none` when a field it needs is left out (R2, R180). -/
def stationDraft (old : Option StationCfg) (f : StationFields) : Option StationCfg :=
  match f.address.or (old.map fun c => c.address.toNat), f.homePort.or (old.map StationCfg.homePort),
      f.role.or (old.map fun c => match c.role with
        | .callPoint => 1 | .annunciator => 2 | .sounder => 3 | .shutterDrive => 4 | .landingStation => 5
        | .detectionPanel => 6 | .speaker => 7 | .console => 8 | .other => 9) with
  | some a, some p, some r =>
    (roleOfCode r).map fun role =>
      { address := BitVec.ofNat 16 a, homePort := p, role := role
        zone := match f.zone with
          | some z => z
          | none => if roleUsesZone role then old.bind StationCfg.zone else none
        beatPeriod := min 10 (field f.beatPeriod old StationCfg.beatPeriod 2)
        abilities := match f.abilities with
          | some x => x
          | none => keptAbilities role (field none old StationCfg.abilities {}) }
  | _, _, _ => none

/-- The write of a station record, without its effects. -/
def State.writeStation (s : State) (i : Nat) (c : Option StationCfg) : State :=
  { s with tables := { s.tables with stations := s.tables.stations.set i c } }

/-- A PRESENT record's loss handed to the jobs before it is freed or becomes a new station (R6, R13). -/
def State.partWith (s : State) (i : Nat) (c : StationCfg) : State :=
  if (s.stationLive i).presence = .present then (s.setPresence i .unknown).handLoss i c.role else s

/-- What the jobs hold for a record ends with its identity: the arbiter of a sounder, the last sent list and tuning
(R119, R111, R151). -/
def State.endIdentity (s : State) (i : Nat) (old : StationCfg) (new : Option StationCfg) : State :=
  let s := if old.role = .sounder ∧ (new.all fun c => decide (c.role ≠ .sounder)) then s.removeArbiter i else s
  let s := s.modCalls fun c => { c with shown := c.shown.set i none }
  let s := s.modPlayback fun p => { p with tuning := p.tuning.set i none }
  s.dropRepeats [.stationLost, .roleMismatch] i

/-- A new station's live fields, its supervision timer started (R6). -/
def State.freshStation (s : State) (i : Nat) (c : StationCfg) : State :=
  s.modStation i fun _ => { supervision := s.supervisionTimer c.beatPeriod }

/-- An arbiter for a record that has become a SOUNDER (R119). A sounder that stays one keeps its arbiter, whose service is
set afresh from the record's zone (R120, R131). -/
def State.ensureArbiter (s : State) (i : Nat) (c : StationCfg) : State :=
  if c.role = .sounder then (if s.arbiter i = none then s.createArbiter i else s.updateService i) else s

/-- Whether a record is an office sounder: a SOUNDER on home port 4 (R99). -/
def isOfficeSounder (c : Option StationCfg) : Bool :=
  c.any fun c => decide (c.role = .sounder ∧ c.homePort = Config.officePort)

/-- What follows every accepted station write that changes something: the zone map, the office sounders, the displays
(R101, R110, R157). No rule states their order, and this one is the model's choice (notes/assumptions/41.md). -/
def State.afterStation (s : State) (old new : Option StationCfg) : State :=
  let s := s.settlePlayback
  let s := if isOfficeSounder old ≠ isOfficeSounder new then s.officeSoundersChanged else s
  s.recomputeDisplays

/-- The effects of a write that keeps a record's address and role (R6, R113, R131, R151). A speaker whose zone's map entry changes
in the same step is sent two TUNE frames, one for each moment of R151: the model's choice (notes/assumptions/42.md). -/
def State.rewriteStation (s : State) (i : Nat) (old c : StationCfg) : State :=
  let s := s.writeStation i (some c)
  let s := if old.beatPeriod = c.beatPeriod then s else s.refresh i c
  match c.role with
  | .sounder => if old.zone = c.zone then s else s.updateService i
  | .callPoint => if old.zone = c.zone then s else s.rejudgePoint i
  | .speaker =>
    if old.zone = c.zone ∧ old.homePort = c.homePort ∧ old.abilities = c.abilities then s else s.settlePlayback.tune i
  | _ => s

/-- A station record written: put in use, made a new station, or rewritten (R6). -/
def State.applyStation (s : State) (i : Nat) (old : Option StationCfg) (c : StationCfg) : State :=
  match old with
  | none => (((s.writeStation i (some c)).freshStation i c).ensureArbiter i c).afterStation none (some c)
  | some o =>
    if o.address = c.address ∧ o.role = c.role then (s.rewriteStation i o c).afterStation old (some c)
    else
      let s := (s.partWith i o).endIdentity i o (some c)
      (((s.writeStation i (some c)).freshStation i c).ensureArbiter i c).afterStation old (some c)

/-- A station record freed (R6). -/
def State.freeStation (s : State) (i : Nat) (o : StationCfg) : State :=
  let s := (s.partWith i o).endIdentity i o none
  ((s.writeStation i none).modStation i fun _ => {}).afterStation (some o) none

/-- SETUP STATION (R4). -/
def State.setupStation (s : State) (i : Nat) : Write StationFields → State × Status × Detail
  | .free =>
    if 96 ≤ i then s.refuse .badIndex
    else match s.station i with
      | none => s.carried false
      | some o => if s.referenced i then s.refuse .refusedState else (s.freeStation i o).carried false
  | .fields f =>
    let old := s.station i
    if old = none ∧ (f.address = none ∨ f.homePort = none ∨ f.role = none) then s.refuse .badValue
    else if 96 ≤ i then s.refuse .badIndex
    else if !(f.address.all fun a => inRange 1 0x7FFF a) then s.refuse .badValue
    else match stationDraft old f with
      | none => s.refuse .badValue
      | some c =>
        if !s.tables.stationOk i c then s.refuse .badValue
        else if s.referenced i && (old.any fun o => decide (o.address ≠ c.address ∨ o.role ≠ c.role)) then
          s.refuse .refusedState
        else
          let clamped := f.beatPeriod.any fun n => decide (10 < n)
          if old = some c then s.carried clamped else (s.applyStation i old c).carried clamped

/-! ### POINT (R57, R58) -/

/-- Whether a zone may have its points written: NORMAL or ISOLATED (R57). -/
def State.zoneQuiet (s : State) (z : Nat) : Bool :=
  match (s.zone z).state with
  | .normal | .isolated => true
  | _ => false

/-- The record a SETUP POINT would write (R57, R180). -/
def pointDraft (old : Option PointCfg) (f : PointFields) : Option PointCfg :=
  match f.panel.or (old.map PointCfg.panel), f.number.or (old.map PointCfg.number), f.zone.or (old.map PointCfg.zone) with
  | some a, some n, some z =>
    some { panel := a, number := n, zone := z, kind := enumField f.kind old PointCfg.kind .automatic }
  | _, _, _ => none

/-- The write of a point record, without its effects. -/
def State.writePoint (s : State) (i : Nat) (c : Option PointCfg) : State :=
  { s with tables := { s.tables with points := s.tables.points.set i c } }

/-- The live fields of a point that is a new identity (R58). -/
def State.freshPoint (s : State) (c : PointCfg) : PointLive :=
  if s.isPresent c.panel then {} else { state := .fault, source := some .link }

/-- The FAULT flags after a point write: that of the old zone first, then that of the new zone, whichever has the lower
index. R58 states no order of their ZONE_FAULT notices, and this one is the model's choice (R61;
notes/assumptions/44.md). -/
def State.pointFaults (s : State) (old : Option PointCfg) (z : Nat) : State :=
  let s := match old with
    | some o => s.recomputeFault o.zone
    | none => s
  s.recomputeFault z

/-- A point record written: the live fields and the report in the new zone, and after them the FAULT flags (R58). -/
def State.applyPoint (s : State) (i : Nat) (old : Option PointCfg) (c : PointCfg) : State :=
  let s := s.writePoint i (some c)
  if old.any fun o => decide (o.panel = c.panel ∧ o.number = c.number) then
    (if (s.zone c.zone).state = .normal then s.reportAnew i else s).pointFaults old c.zone
  else (s.modPoint i fun _ => s.freshPoint c).pointFaults old c.zone

/-- SETUP POINT (R57). -/
def State.setupPoint (s : State) (i : Nat) : Write PointFields → State × Status × Detail
  | .free =>
    if 128 ≤ i then s.refuse .badIndex
    else match s.point i with
      | none => s.carried false
      | some o =>
        if s.zoneQuiet o.zone then
          (((s.writePoint i none).modPoint i fun _ => {}).recomputeFault o.zone).carried false
        else s.refuse .refusedState
  | .fields f =>
    let old := s.point i
    match pointDraft old f with
    | none => s.refuse .badValue
    | some c =>
      if 128 ≤ i then s.refuse .badIndex
      else if f.kind = .bad ∨ !s.tables.pointOk i c then s.refuse .badValue
      else if !((old.all fun o => s.zoneQuiet o.zone) && s.zoneQuiet c.zone) then s.refuse .refusedState
      else if old = some c then s.carried false
      else (s.applyPoint i old c).carried false

/-! ### ZONE (R62) -/

/-- The record a SETUP ZONE would write, before clamping (R62). -/
def zoneDraft (o : ZoneCfg) (f : ZoneFields) : ZoneCfg :=
  { doubleKnock := f.doubleKnock.getD o.doubleKnock
    knockWindow := f.knockWindow.getD o.knockWindow
    clearanceTimeout := f.clearanceTimeout.getD o.clearanceTimeout
    warningTime := f.warningTime.getD o.warningTime
    voice := f.voice.getD o.voice
    neighbours := f.neighbours.getD o.neighbours
    storedIsolated := f.storedIsolated.getD o.storedIsolated }

/-- SETUP ZONE (R62). -/
def State.setupZone (s : State) (z : Nat) (f : ZoneFields) : State × Status × Detail :=
  if 16 ≤ z then s.refuse .badIndex
  else if !s.zoneQuiet z then s.refuse .refusedState
  else
    let d := zoneDraft (s.zoneCfg z) f
    let s' := { s with tables := { s.tables with zones := s.tables.zones.set z d.clamp } }
    s'.settlePlayback.carried (decide (d.clamp ≠ d))

/-! ### SHUTTER (R77, R78) -/

/-- The record a SETUP SHUTTER would write, before clamping (R76, R180). -/
def shutterDraft (old : Option ShutterCfg) (f : ShutterFields) : Option ShutterCfg :=
  match f.drive.or (old.map ShutterCfg.drive), f.zone.or (old.map ShutterCfg.zone) with
  | some d, some z =>
    some { drive := d, zone := z, landing := optField f.landing old ShutterCfg.landing
           descentLimit := field f.descentLimit old ShutterCfg.descentLimit 30
           raiseLimit := field f.raiseLimit old ShutterCfg.raiseLimit 60 }
  | _, _ => none

/-- Whether a shaft forbids the write of a landing reference on it (R77 step 3). -/
def State.shaftForbids (s : State) (r : Option LandingRef) : Bool :=
  r.any fun r => s.shaftEnabled r.shaft &&
    match (s.shaft r.shaft).state with
    | .idle | .tripped => false
    | _ => true

/-- The conditions of R77, step 3, for a write from one record to another. Every write of a landing shutter counts as
setting its reference: "a landing shutter is never written … under a shaft that can move" (notes/assumptions/22.md). -/
def State.shutterHeld (s : State) (i : Nat) (old new : Option ShutterCfg) : Bool :=
  let busy := old.isSome && match (s.shutterLive i).state with
    | .open | .unknown | .isolated => false
    | _ => true
  let burning := (old.any fun c => s.overlay c.zone) || new.any fun c => s.overlay c.zone
  let refs := (old.bind ShutterCfg.landing, new.bind ShutterCfg.landing)
  busy || burning || (decide (old ≠ new) && (s.shaftForbids refs.1 || s.shaftForbids refs.2))

/-- The write of a shutter record, without its effects. -/
def State.writeShutter (s : State) (i : Nat) (c : Option ShutterCfg) : State :=
  { s with tables := { s.tables with shutters := s.tables.shutters.set i c } }

/-- The live fields of a shutter record put in use (R78). -/
def State.freshShutter (s : State) (c : ShutterCfg) : ShutterLive :=
  { state := if (s.zone c.zone).state = .isolated then .isolated else .unknown
    faults := { comms := match (s.stationLive c.drive).presence with
      | .missing | .mismatch => true
      | _ => false } }

/-- The lamps and clear sets that a shutter write touches (R78). -/
def State.shutterRefs (s : State) (old new : Option ShutterCfg) : State :=
  let shafts := [0, 1].filter fun k =>
    ((old.bind ShutterCfg.landing).any fun r => decide (r.shaft = k)) ||
      (new.bind ShutterCfg.landing).any fun r => decide (r.shaft = k)
  s.forEach shafts fun s k => (s.recomputeLamps k).recomputeSet k

/-- A shutter moved between zones, its drive kept (R78). -/
def State.moveShutter (s : State) (i : Nat) (c : ShutterCfg) : State × Bool :=
  let here := decide ((s.shutterLive i).state = .isolated)
  let there := decide ((s.zone c.zone).state = .isolated)
  if there && !here then (s.isolateShutter i, false)
  else if here && !there then s.rederive i
  else (s, false)

/-- A shutter record written (R78). A record put in use, or given another drive, takes its live fields without a
SHUTTER_STATE or SHUTTER_FAULT notice: the model's choice (R79; notes/assumptions/27.md). The SHUTTER_FORCED and
SHUTTER_FAULT repeat timers of a shutter given another drive run on to their next expiry: the model's choice (R78, R185;
notes/assumptions/43.md). -/
def State.applyShutter (s : State) (i : Nat) (old : Option ShutterCfg) (c : ShutterCfg) : State :=
  let s := s.writeShutter i (some c)
  if old.any fun o => decide (o.drive = c.drive) then
    let (s, drop) := if old.any fun o => decide (o.zone ≠ c.zone) then s.moveShutter i c else (s, false)
    let s := s.shutterRefs old (some c)
    if drop then s.localDrop c.zone i else s
  else (s.modShutter i fun _ => s.freshShutter c).shutterRefs old (some c)

/-- SETUP SHUTTER (R77). -/
def State.setupShutter (s : State) (i : Nat) : Write ShutterFields → State × Status × Detail
  | .free =>
    if 32 ≤ i then s.refuse .badIndex
    else match s.shutter i with
      | none => s.carried false
      | some o =>
        if s.shutterHeld i (some o) none then s.refuse .refusedState
        else
          let s := (s.writeShutter i none).modShutter i fun _ => {}
          ((s.dropRepeats [.shutterForced, .shutterFault] i).shutterRefs (some o) none).carried false
  | .fields f =>
    let old := s.shutter i
    match shutterDraft old f with
    | none => s.refuse .badValue
    | some d =>
      let c := d.clamp
      if 32 ≤ i then s.refuse .badIndex
      else if !s.tables.shutterOk i c then s.refuse .badValue
      else if s.shutterHeld i old (some c) then s.refuse .refusedState
      else if old = some c then s.carried (decide (c ≠ d))
      else (s.applyShutter i old c).carried (decide (c ≠ d))

/-! ### ROUTE (R98) -/

/-- The record a SETUP ROUTE would write (R98, R180). -/
def routeDraft (old : Option Route) (f : RouteFields) : Option Route :=
  match f.callPoint.or (old.map Route.callPoint), f.primary.or (old.map Route.primary) with
  | some p, some a =>
    some { callPoint := p, primary := a, secondary := optField f.secondary old Route.secondary
           sounder := optField f.sounder old Route.sounder, bellCode := field f.bellCode old Route.bellCode 1 }
  | _, _ => none

/-- Whether a call record stands for the call point of a route (R98 step 3). -/
def State.routeCalled (s : State) (r : Option Route) : Bool :=
  r.any fun r => s.calls.records.any fun x => decide (x.point = r.callPoint)

/-- The write of a route record. -/
def State.writeRoute (s : State) (i : Nat) (r : Option Route) : State :=
  { s with tables := { s.tables with routes := s.tables.routes.set i r } }

/-- SETUP ROUTE (R98). -/
def State.setupRoute (s : State) (i : Nat) : Write RouteFields → State × Status × Detail
  | .free =>
    if 64 ≤ i then s.refuse .badIndex
    else if s.routeCalled (s.tables.routes.at? i) then s.refuse .refusedState
    else (s.writeRoute i none).carried false
  | .fields f =>
    let old := s.tables.routes.at? i
    match routeDraft old f with
    | none => s.refuse .badValue
    | some r =>
      if 64 ≤ i then s.refuse .badIndex
      else if !s.tables.routeOk i r then s.refuse .badValue
      else if s.routeCalled old || s.routeCalled (some r) then s.refuse .refusedState
      else (s.writeRoute i (some r)).carried false

/-! ### SHAFT and SILL (R15 to R17) -/

/-- The record a SETUP SHAFT would write, before clamping (R15). -/
def shaftDraft (o : Geometry) (f : ShaftFields) : Geometry :=
  { enabled := f.enabled.getD o.enabled, L := f.L.getD o.L, N := f.N.getD o.N, C := f.C.getD o.C, H := f.H.getD o.H
    Gb := f.Gb.getD o.Gb, Ga := f.Ga.getD o.Ga, tol := f.tol.getD o.tol, Vc := f.Vc.getD o.Vc, a := f.a.getD o.a
    sc := f.sc.getD o.sc, Vmax := f.Vmax.getD o.Vmax, slip := f.slip.getD o.slip }

/-- Whether a shaft may be written: IDLE, TRIPPED or disabled (R17). -/
def State.shaftWritable (s : State) (k : Nat) : Bool :=
  !s.shaftEnabled k || match (s.shaft k).state with
    | .idle | .tripped => true
    | _ => false

/-- The write of a geometry record, without its effects. -/
def State.writeGeometry (s : State) (k : Nat) (g : Geometry) : State :=
  { s with tables := { s.tables with shafts := s.tables.shafts.modify k fun c => { c with geometry := g } } }

/-- A shaft disabled: held as IDLE, outputs safe, no lamps; a non-empty set is answered CLEAR (R17, R54). R17's "becomes IDLE"
is not in R24's list of the entries to IDLE, at each of which R21 sets the settling count to 0: that disabling is no such entry
and leaves the settling count as it was is the model's choice (notes/assumptions/46.md). -/
def State.disableShaft (s : State) (k : Nat) : State :=
  let s := s.modShaft k fun x => { x with
    state := .idle, trip := none, posValid := false, permit := false, creep := false, brake := true
    homeTimer := none, advance := none, remaining := none, heldReason := none
    landings := x.landings.map fun l => { l with lamp := .noBoard, refresh := none } }
  let s := if (s.shaft k).clearSet = [] then s else s.evaluateAndDeliver k
  s.closingCheck

/-- A shaft enabled: IDLE with the position INVALID, its lamps sent, a non-empty set answered, and a FAULT already raised
taken (R17, R31, R54). With a set that is not empty and FAULT raised, no rule says whether the answer of R54 or the DRIVE
trip of R31 comes first: the model's choice is the answer, then the trip. R17 does not name the speed window in progress:
the model's choice is to let it run on with what it has counted (R23). For both see notes/assumptions/38.md. -/
def State.enableShaft (s : State) (k : Nat) : State :=
  let s := s.modShaft k fun x => { x with posValid := false, standstill := 0 }
  let s := s.forEach (s.landings k) fun s l => s.modLanding k l fun x => { x with lamp := s.lampOf k l }
  let s := s.enterIdle k
  let s := s.forEach (s.landings k) fun s l => s.sendLamp k l
  let s := if (s.shaft k).clearSet = [] then s else s.evaluateAndDeliver k
  let s := if (s.shaft k).fault then s.tripShaft k .drive else s
  s.closingCheck

/-- A geometry record written, with the effects of R17. -/
def State.applyShaft (s : State) (k : Nat) (o g : Geometry) : State :=
  let s := s.writeGeometry k g
  let s := if o.L = g.L ∧ o.N = g.N ∧ o.H = g.H then s else s.modShaft k fun x => { x with posValid := false }
  match o.enabled, g.enabled with
  | true, false => s.disableShaft k
  | false, true => s.enableShaft k
  | _, _ => (s.recomputeLamps k).recomputeSet k

/-- SETUP SHAFT (R15). -/
def State.setupShaft (s : State) (k : Nat) (f : ShaftFields) : State × Status × Detail :=
  if 2 ≤ k then s.refuse .badIndex
  else
    let o := s.geometry k
    let d := shaftDraft o f
    let g := d.clamp
    if !s.tables.shaftOk k d then s.refuse .badValue
    else if !s.shaftWritable k then s.refuse .refusedState
    else if g.Vmax ≤ g.Vc then s.refuse .badValue
    else if o = g then s.carried (decide (g ≠ d))
    else (s.applyShaft k o g).carried (decide (g ≠ d))

/-- The record a SETUP SILL would write (R16, R180). -/
def sillDraft (old : Option Sill) (f : SillFields) : Option Sill :=
  let side := match f.side with
    | .val x => some x
    | _ => old.map Sill.side
  match f.position.or (old.map Sill.position), f.landing.or (old.map Sill.landing), side,
      f.station.or (old.map Sill.station) with
  | some p, some l, some d, some i => some { position := p, landing := l, side := d, station := i }
  | _, _, _, _ => none

/-- A sill record of a shaft. -/
def State.sill (s : State) (k i : Nat) : Option Sill := (s.tables.shafts.getD k {}).sills.at? i

/-- The write of a sill record, without its effects. -/
def State.writeSill (s : State) (k i : Nat) (x : Option Sill) : State :=
  { s with tables := { s.tables with shafts := s.tables.shafts.modify k fun c => { c with sills := c.sills.set i x } } }

/-- Whether a write would leave a shutter's landing reference on a landing with no sill (R16). -/
def State.sillStrands (s : State) (k i : Nat) (x : Option Sill) : Bool :=
  let t := (s.writeSill k i x).tables
  s.tables.shutters.cells.any fun c => c.any fun c => c.landing.any fun r => decide (r.shaft = k) && !t.hasSill r

/-- A sill record written or freed, with the effects of R17; a landing that comes or goes starts afresh (R32). A landing
first given, or given another, landing station while that station is PRESENT counts its NO_BOARD as unchanged, so no LAMP
frame is queued and no 5 s interval starts until a later change or regain: the model's choice, which R17 and R33 leave
open (notes/assumptions/43.md). -/
def State.applySill (s : State) (k i : Nat) (x : Option Sill) : State :=
  let before := s.landings k
  let s := s.writeSill k i x
  let after := s.landings k
  let s := s.forEach ((List.range 12).filter fun l => before.contains l != after.contains l) fun s l =>
    s.modLanding k l fun _ => {}
  ((s.evaluateDegraded k).recomputeLamps k).recomputeSet k

/-- SETUP SILL (R16). -/
def State.setupSill (s : State) (k i : Nat) : Write SillFields → State × Status × Detail
  | .free =>
    if 2 ≤ k ∨ 24 ≤ i then s.refuse .badIndex
    else match s.sill k i with
      | none => if s.shaftWritable k then s.carried false else s.refuse .refusedState
      | some _ =>
        if s.sillStrands k i none || !s.shaftWritable k then s.refuse .refusedState
        else (s.applySill k i none).carried false
  | .fields f =>
    let old := s.sill k i
    if old = none ∧ (f.position = none ∨ f.landing = none ∨ f.side = .left ∨ f.station = none) then s.refuse .badValue
    else if 2 ≤ k ∨ 24 ≤ i then s.refuse .badIndex
    else if f.side = .bad then s.refuse .badValue
    else match sillDraft old f with
      | none => s.refuse .badValue
      | some x =>
        if !s.tables.sillOk k i x then s.refuse .badValue
        else if s.sillStrands k i (some x) || !s.shaftWritable k then s.refuse .refusedState
        else if old = some x then s.carried false
        else (s.applySill k i (some x)).carried false

/-! ### SCHEDULE (R137) -/

/-- The entry a SETUP SCHEDULE would write, before clamping (R137, R180). -/
def scheduleDraft (old : Option ScheduleEntry) (f : ScheduleFields) : Option ScheduleEntry :=
  let action := match f.action with
    | .val x => some x
    | _ => old.map ScheduleEntry.action
  match f.hour.or (old.map ScheduleEntry.hour), f.minute.or (old.map ScheduleEntry.minute), action with
  | some h, some m, some x =>
    some { enabled := field f.enabled old ScheduleEntry.enabled true
           weekdays := field f.weekdays old ScheduleEntry.weekdays 0x7F#7
           hour := h, minute := m, action := x
           phrase := optField f.phrase old ScheduleEntry.phrase
           zones := field f.zones old ScheduleEntry.zones 0xFFFF#16
           gain := field f.gain old ScheduleEntry.gain 256
           bell := optField f.bell old ScheduleEntry.bell }
  | _, _, _ => none

/-- The write of a schedule entry. -/
def State.writeSchedule (s : State) (i : Nat) (e : Option ScheduleEntry) : State :=
  { s with tables := { s.tables with schedule := s.tables.schedule.set i e } }

/-- The stamp of an index after a write: one that equals the present day count is kept (R137). -/
def State.stampAfterWrite (s : State) (i : Nat) (e : ScheduleEntry) : Nat :=
  if s.day.stamps.at? i = some s.clock.day then s.clock.day
  else stampAgainst s.clock.hours s.clock.minutes s.clock.day e

/-- SETUP SCHEDULE (R137). -/
def State.setupSchedule (s : State) (i : Nat) : Write ScheduleFields → State × Status × Detail
  | .free => if 24 ≤ i then s.refuse .badIndex else (s.writeSchedule i none).carried false
  | .fields f =>
    let old := s.entry i
    if old = none ∧ (f.hour = none ∨ f.minute = none ∨ f.action = .left) then s.refuse .badValue
    else if 24 ≤ i then s.refuse .badIndex
    else if f.action = .bad then s.refuse .badValue
    else match scheduleDraft old f with
      | none => s.refuse .badValue
      | some d =>
        if !scheduleOk d then s.refuse .badValue
        else
          let e := { d with gain := min 511 d.gain }
          let s' := s.writeSchedule i (some e)
          (s'.modDay fun x => { x with stamps := x.stamps.set i (some (s.stampAfterWrite i e)) }).carried (decide (511 < d.gain))

/-! ### PORT (R173) -/

/-- SETUP PORT (R173). -/
def State.setupPort (s : State) (p : Nat) (f : PortFields) : State × Status × Detail :=
  let o := s.tables.ports.getD p {}
  let c : PortCfg := { filter := f.filter.getD o.filter, mirror := f.mirror.getD o.mirror }
  if 5 ≤ p then s.refuse .badIndex
  else if !portOk p c then s.refuse .badValue
  else State.carried { s with tables := { s.tables with ports := s.tables.ports.set p c } } false

/-! ### GLOBAL (R181, R184) -/

/-- Whether an address field of GLOBAL entry 0 lies in 0001h to 7FFFh (R181). -/
def addressOk (a : Nat) : Bool := inRange 1 0x7FFF a

/-- The settings a SETUP GLOBAL would write, before clamping (R181). -/
def globalDraft (o : Global) (f : GlobalFields) : Global :=
  { own := (f.own.map (BitVec.ofNat 16)).getD o.own
    console0 := (f.console0.map (Option.map (BitVec.ofNat 16))).getD o.console0
    console1 := (f.console1.map (Option.map (BitVec.ofNat 16))).getD o.console1
    escalation := f.escalation.getD o.escalation
    sounderMode := enumField f.sounderMode (some o) Global.sounderMode .rotating
    preemptWait := f.preemptWait.getD o.preemptWait
    bellStrokes := f.bellStrokes.getD o.bellStrokes
    bellRepeats := f.bellRepeats.getD o.bellRepeats
    evacPhrase := f.evacPhrase.getD o.evacPhrase
    evacGain := f.evacGain.getD o.evacGain
    standbyPhrase := f.standbyPhrase.getD o.standbyPhrase }

/-- The address fields of a SETUP of GLOBAL entry 0 in their ranges (R181). -/
def globalAddresses (f : GlobalFields) : Bool :=
  f.own.all addressOk && (f.console0.all fun x => x.all addressOk) && (f.console1.all fun x => x.all addressOk)

/-- Every running preempt timer stopped (R131). -/
def State.stopPreempts (s : State) : State :=
  { s with arbiters := s.arbiters.map (Option.map fun a => { a with preempt := none }) }

/-- SETUP of GLOBAL entry 0 (R131, R149, R181). -/
def State.setupSettings (s : State) (f : GlobalFields) : State × Status × Detail :=
  let d := globalDraft s.globals f
  let g := d.clamp
  if !globalAddresses f || decide (f.sounderMode = .bad) || !s.tables.globalOk d then s.refuse .badValue
  else
    let s := { s with tables := { s.tables with globals := g } }
    let s := if g.preemptWait = 0 then s.stopPreempts else s
    s.settlePlayback.carried (decide (g ≠ d))

/-- The notice kind of a GLOBAL entry less one (R184). -/
def kindAt (n : Nat) (k : NoticeKind) : Bool := decide (noticeIndex k = n)

/-- SETUP of a notice configuration entry; LEVEL changed to EDGE stops the kind's repeat timers (R184). -/
def State.setupNotice (s : State) (n : Nat) (f : NoticeFields) : State × Status × Detail :=
  let o := s.tables.notices.getD n {}
  if f.enable = .bad ∨ f.mode = .bad ∨ f.route = .bad then s.refuse .badValue
  else
    let c : NoticeCfg :=
      { enable := enumField f.enable (some o) NoticeCfg.enable true
        mode := enumField f.mode (some o) NoticeCfg.mode .edge
        route := enumField f.route (some o) NoticeCfg.route .both }
    let s := { s with tables := { s.tables with notices := s.tables.notices.set n c } }
    let s := if c.mode = .edge then
        s.modMgmt fun m => { m with timers := m.timers.filter fun t => !kindAt n t.key.kind } else s
    s.carried false

/-- SETUP GLOBAL, and a SETUP whose table code is none of the ten (R180, R181, R184). -/
def State.setupGlobal (s : State) (i : Nat) : GlobalWrite → State × Status × Detail
  | .unknownTable => s.refuse .badIndex
  | .settings f =>
    if 23 < i then s.refuse .badIndex else if i = 0 then s.setupSettings f else s.refuse .badValue
  | .notice f =>
    if 23 < i then s.refuse .badIndex else if i = 0 then s.refuse .badValue else s.setupNotice (i - 1) f

/-! ### Meanings -/

/-- SETUP_STATION (R4 to R6). -/
def execSetupStation (i : Nat) (w : Write StationFields) (s : State) : Host.Outcome State Fault Refusal :=
  s.onSetup (some i) fun s => s.setupStation i w

/-- SETUP_POINT (R57, R58). -/
def execSetupPoint (i : Nat) (w : Write PointFields) (s : State) : Host.Outcome State Fault Refusal :=
  s.onSetup (some i) fun s => s.setupPoint i w

/-- SETUP_ZONE (R62). -/
def execSetupZone (z : Nat) (f : ZoneFields) (s : State) : Host.Outcome State Fault Refusal :=
  s.onSetup (some z) fun s => s.setupZone z f

/-- SETUP_SHUTTER (R77, R78). -/
def execSetupShutter (i : Nat) (w : Write ShutterFields) (s : State) : Host.Outcome State Fault Refusal :=
  s.onSetup (some i) fun s => s.setupShutter i w

/-- SETUP_ROUTE (R98). -/
def execSetupRoute (i : Nat) (w : Write RouteFields) (s : State) : Host.Outcome State Fault Refusal :=
  s.onSetup (some i) fun s => s.setupRoute i w

/-- SETUP_SHAFT (R15, R17). -/
def execSetupShaft (k : Nat) (f : ShaftFields) (s : State) : Host.Outcome State Fault Refusal :=
  s.onSetup (some k) fun s => s.setupShaft k f

/-- SETUP_SILL (R16, R17). A sill is named by two numbers, and the book does not say which of them is the index byte
(notes/assumptions/2.md). -/
def execSetupSill (k i : Nat) (w : Write SillFields) (s : State) : Host.Outcome State Fault Refusal :=
  s.onSetup none fun s => s.setupSill k i w

/-- SETUP_SCHEDULE (R137). -/
def execSetupSchedule (i : Nat) (w : Write ScheduleFields) (s : State) : Host.Outcome State Fault Refusal :=
  s.onSetup (some i) fun s => s.setupSchedule i w

/-- SETUP_PORT (R173). -/
def execSetupPort (p : Nat) (f : PortFields) (s : State) : Host.Outcome State Fault Refusal :=
  s.onSetup (some p) fun s => s.setupPort p f

/-- SETUP_GLOBAL (R180, R181, R184). -/
def execSetupGlobal (i : Nat) (w : GlobalWrite) (s : State) : Host.Outcome State Fault Refusal :=
  s.onSetup (some i) fun s => s.setupGlobal i w

end Sys2Proof.Machine
end

