-- ==== Sys2Proof/Machine/Orders.lean ====
section
/-! DEFINITION. The ORDERs that the chapters' blocks own, CLEAR_COUNTERS (R183), LINE_TEST (R169), an unknown order (11.3),
and QUERY (R182). -/

namespace Sys2Proof.Machine

/-! ### Orders of the shafts, the zones, the clock and the day -/

/-- SET_CLOCK (R136). -/
def execSetClock (f : Option ClockFields) (s : State) : Host.Outcome State Fault Refusal :=
  s.onOrder none fun s => s.orderSetClock f

/-- STEP_CLOCK (R135). -/
def execStepClock (d : Option Int) (s : State) : Host.Outcome State Fault Refusal :=
  s.onOrder none fun s => s.orderStepClock d

/-- SET_TRIM (R133). -/
def execSetTrim (f : Option TrimFields) (s : State) : Host.Outcome State Fault Refusal :=
  s.onOrder none fun s => s.orderSetTrim f

/-- START_SHAFT (R34). -/
def execStartShaft (k : Nat) (s : State) : Host.Outcome State Fault Refusal := s.onOrder (some k) fun s => s.orderStart k

/-- STOP_SHAFT (R35). -/
def execStopShaft (k : Nat) (s : State) : Host.Outcome State Fault Refusal := s.onOrder (some k) fun s => s.orderStop k

/-- RESET_SHAFT (R36). -/
def execResetShaft (k : Nat) (s : State) : Host.Outcome State Fault Refusal := s.onOrder (some k) fun s => s.orderReset k

/-- SILENCE_ZONE (R69). -/
def execSilenceZone (z : Nat) (s : State) : Host.Outcome State Fault Refusal := s.onOrder (some z) fun s => s.orderSilence z

/-- RESET_ZONE (R70). -/
def execResetZone (z : Nat) (s : State) : Host.Outcome State Fault Refusal := s.onOrder (some z) fun s => s.orderResetZone z

/-- ISOLATE_ZONE (R73). -/
def execIsolateZone (z : Nat) (s : State) : Host.Outcome State Fault Refusal := s.onOrder (some z) fun s => s.orderIsolate z

/-- RESTORE_ZONE (R74). -/
def execRestoreZone (z : Nat) (s : State) : Host.Outcome State Fault Refusal := s.onOrder (some z) fun s => s.orderRestore z

/-- STORE_MODE (R146). -/
def execStoreMode (f : Option ModeFields) (s : State) : Host.Outcome State Fault Refusal :=
  s.onOrder none fun s => s.orderStoreMode f

/-! ### Announcements (R158, R160, R163) -/

/-- PLAY (R158). A PLAY answered BAD_VALUE for a phrase that is not VALID or for an empty mask is not counted as
refused-invalid (R155): the model's choice (notes/assumptions/43.md). -/
def State.orderPlay (s : State) : Option PlayFields → State × Status × Detail
  | none => s.refuse .badValue
  | some f =>
    if 127 < f.phrase then s.refuse .badIndex
    else if s.phraseValid f.phrase = false ∨ f.zones = 0#16 then s.refuse .badValue
    else
      let (s', taken) := s.placeStored f.phrase f.zones (min 511 f.gain) f.urgent .order
      let n := s'.playback.lastRequest
      if taken then (s'.settlePlayback, if 511 < f.gain then .clamped else .done, .requestNumber n)
      else s'.refuse .busy

/-- PLAY (R158). -/
def execPlay (f : Option PlayFields) (s : State) : Host.Outcome State Fault Refusal := s.onOrder none fun s => s.orderPlay f

/-- PAGE_START from a console (R160). -/
def State.orderPageStart (s : State) (src : Addr) : Option PageFields → State × Status × Detail
  | none => s.refuse .badValue
  | some f =>
    if f.zones = 0#16 then s.refuse .badValue
    else if s.playback.page.phase ≠ .idle then s.refuse .busy
    else (s.startPageOrder f.zones (min 511 f.gain) src).carried (decide (511 < f.gain))

/-- PAGE_START (R160). -/
def execPageStart (f : Option PageFields) (s : State) : Host.Outcome State Fault Refusal :=
  .next (s.onRequest .order none fun s t => answer t (s.orderPageStart t.src f))

/-- PAGE_END (R163). -/
def State.orderPageEnd (s : State) : State × Status × Detail :=
  if s.playback.page.phase = .idle then s.refuse .refusedState else (s.endPage .order).carried false

/-- PAGE_END (R163). -/
def execPageEnd (s : State) : Host.Outcome State Fault Refusal := s.onOrder none State.orderPageEnd

/-! ### Calls (R116) -/

/-- The in-use CALL_POINT record that holds an address. -/
def State.callPointAt (s : State) (a : Nat) : Option Nat :=
  firstIndex 96 fun i => (s.station i).any fun c => decide (c.address.toNat = a ∧ c.role = .callPoint)

/-- CLEAR_CALLS (R116). -/
def State.orderClearCalls (s : State) : Option Nat → State × Status × Detail
  | none => (s.clearRecords fun _ => true).carried false
  | some a =>
    match s.callPointAt a with
    | none => s.refuse .badValue
    | some p => (s.clearRecords fun r => decide (r.point = p)).carried false

/-- CLEAR_CALLS (R116). -/
def execClearCalls (a : Option Nat) (s : State) : Host.Outcome State Fault Refusal := s.onOrder none fun s => s.orderClearCalls a

/-! ### Line test (R169) -/

/-- LINE_TEST: it is answered when the test ends, unless it is refused (R169). -/
def State.orderLineTest (s : State) (p : Nat) (t : Ticket) : State :=
  if 5 ≤ p then s.reply t .badIndex
  else if p = Config.officePort ∨ (s.port p).state ≠ .down then s.reply t .refusedState
  else s.startTest p t

/-- LINE_TEST (R169). -/
def execLineTest (p : Nat) (s : State) : Host.Outcome State Fault Refusal :=
  .next (s.onRequest .order (some p) fun s t => s.orderLineTest p t)

/-! ### CLEAR_COUNTERS (R183) -/

/-- A shaft with its counters at 0 (R32, R56). -/
def Shaft.clearCounters (x : Shaft) : Shaft :=
  { x with clearStops := 0, reapproaches := 0, unclearables := 0, heldUnclear := 0, unmatchedLandings := 0 }

/-- Every counter that CLEAR_COUNTERS sets to 0, and the sticky error flags of the ports (R183). -/
def State.clearAllCounters (s : State) : State :=
  { s with
    stations := s.stations.map fun x => { x with foreign := 0 }
    unknownSource := 0, mismatchDrop := 0
    shafts := s.shafts.map Shaft.clearCounters
    unknownPoint := 0
    zones := s.zones.map fun x => { x with furtherAlarms := 0, ignoredDrops := 0 }
    shutters := s.shutters.map fun x => { x with lateOutcomes := 0, unexpected := 0 }
    unknownDrive := 0
    calls := { s.calls with counters := {} }
    arbiters := s.arbiters.map (Option.map fun a => { a with counters := {} })
    day := { s.day with fired := 0, noEffect := 0 }
    playback := { s.playback with counters := {} }
    net := {
      ports := s.net.ports.map fun p => { p with counters := {}, sticky := {} }
      mgmt := { s.net.mgmt with rejected := 0, badRequest := 0, noticeLost := 0, phraseBusy := 0 } }
    exchange := { s.exchange with counters := {} } }

/-- CLEAR_COUNTERS (R183). -/
def execClearCounters (s : State) : Host.Outcome State Fault Refusal :=
  s.onOrder none fun s => s.clearAllCounters.carried false

/-- An order code that names no order (section 11.3). -/
def execUnknownOrder (s : State) : Host.Outcome State Fault Refusal := s.onOrder none fun s => s.refuse .unknownOrder

/-! ### QUERY (R182) -/

/-- An entry of a table, or FREE (R182). -/
def orFree (x : Option QueryData) : Option QueryData := some (x.getD .free)

/-- What QUERY of a PORT reports beside its entry (R177). -/
def Port.view (p : Port) : PortView :=
  { state := p.state, trial := p.trial, badRun := p.badRun
    safety := p.safety.length, stream := p.stream.length, normal := p.normal.length
    counters := p.counters, sticky := p.sticky }

/-- What QUERY of MANAGEMENT returns (R182). -/
def State.managementView (s : State) : ManagementView :=
  let m := s.net.mgmt
  { noticeQueue := m.queue.length, sticky := m.sticky, rejected := m.rejected, badRequest := m.badRequest
    noticeLost := m.noticeLost, phraseBusy := m.phraseBusy, image := s.settings.image
    saving := s.settings.saving.isSome, locked := s.settings.locked, writing := s.settings.writing.isSome }

/-- A call record as QUERY returns it (R100, R101). -/
def State.callView (s : State) (r : CallRecord) : QueryData :=
  .call r (s.callState r) (s.ringsOf r).1 (s.ringsOf r).2 (r.timer.map (· - s.now))

/-- QUERY of the ten tables; `none` for an index outside its range (R182). -/
def State.queryTable (s : State) (c : QueryCode) (i sub : Nat) : Option QueryData :=
  match c with
  | .station =>
    if i = 255 then some (.stationCounters s.unknownSource s.mismatchDrop)
    else if 96 ≤ i then none
    else orFree ((s.station i).map fun c => .station c (s.stationLive i) (s.effective i))
  | .point =>
    if i = 255 then some (.pointCounters s.unknownPoint)
    else if 128 ≤ i then none else orFree ((s.point i).map fun c => .point c (s.pointLive i))
  | .zone => if 16 ≤ i then none else some (.zone (s.zoneCfg i) (s.zone i))
  | .shutter =>
    if i = 255 then some (.shutterCounters s.unknownDrive)
    else if 32 ≤ i then none else orFree ((s.shutter i).map fun c => .shutter c (s.shutterLive i))
  | .route => if 64 ≤ i then none else orFree ((s.tables.routes.at? i).map .route)
  | .shaft => if 2 ≤ i then none else 
      some (.shaft (s.geometry i) (s.shaft i) ((s.geometry i).bands (s.shaft i).clearSet))
  | .sill => if 2 ≤ i ∨ 24 ≤ sub then none else orFree ((s.sill i sub).map .sill)
  | .schedule =>
    if 24 ≤ i then none else orFree ((s.entry i).map fun e => .schedule e (s.day.stamps.at? i))
  | .port => if 5 ≤ i then none else some (.port (s.tables.ports.getD i {}) (s.port i).view)
  | .global =>
    if 23 < i then none
    else if i = 0 then some (.settings s.globals) else some (.noticeCfg (s.tables.notices.getD (i - 1) {}))
  | _ => none

/-- QUERY of the codes for reading state; `none` for an index outside its range (R182). -/
def State.queryState (s : State) (c : QueryCode) (i : Nat) : Option QueryData :=
  match c with
  | .clock => if i = 0 then some (.clock s.clock) else none
  | .store => if i = 0 then some (.store s.day) else none
  | .calls =>
    if i = 255 then some (.callCounters s.calls.counters)
    else if 48 ≤ i then none else orFree (s.calls.records[i]?.map s.callView)
  | .sounder => if 96 ≤ i then none else orFree ((s.arbiter i).map .sounder)
  | .playback => if i = 0 then some (.playback s.playback) else none
  | .phrase => if 128 ≤ i then none else some (.phrase (s.phrase i) (s.phrase i).validity)
  | .exchange => if i = 0 then some (.exchange s.exchange.counters) else none
  | .management => if i = 0 then some (.management s.managementView) else none
  | _ => none

/-- What a QUERY returns; `none` where the code names no code or the index lies outside its range (R182). -/
def State.queryData (s : State) (c : QueryCode) (i sub : Nat) : Option QueryData :=
  (s.queryTable c i sub).or (s.queryState c i)

/-- The sticky request flags cleared by a QUERY of MANAGEMENT that carries the clear flag (R182, R185). -/
def State.clearSticky (s : State) (c : QueryCode) (clear : Bool) : State :=
  if c = .management ∧ clear = true then s.modMgmt fun m => { m with sticky := 0#23 } else s

/-- How many parts a return is divided into: one where it fits one payload (R182). -/
def QueryData.parts (d : QueryData) : Nat :=
  if d.fitsOne then 1 else max 1 (((Config.returnBytes d).length + Config.replyRoom) / (Config.replyRoom + 1))

/-- What the REPLY to a QUERY carries for one part of a return: the whole of an undivided one, else the part's bytes with the
part number and the number of parts (R182). -/
def QueryData.part (d : QueryData) (k : Nat) : Detail :=
  if d.parts = 1 then .data d
  else .piece (((Config.returnBytes d).drop (k * (Config.replyRoom + 1))).take (Config.replyRoom + 1)) k d.parts

/-- QUERY judged and answered (R182). -/
def State.orderQuery (s : State) (c : QueryCode) (i sub : Nat) (part : Option Nat) (clear : Bool) :
    State × Status × Detail :=
  if c = .unknown then s.refuse .badIndex
  else match part with
    | none => s.refuse .badValue
    | some k =>
      match s.queryData c i sub with
      | none => s.refuse .badIndex
      | some d => if k < d.parts then (s.clearSticky c clear, .done, d.part k) else s.refuse .badIndex

/-- The index byte of a QUERY; a sill is named by two numbers, and the book does not say which of them it is
(notes/assumptions/2.md). -/
def queryIndex (c : QueryCode) (i : Nat) : Option Nat := if c = .sill then none else some i

/-- QUERY (R182). -/
def execQuery (c : QueryCode) (i sub : Nat) (part : Option Nat) (clear : Bool) (s : State) :
    Host.Outcome State Fault Refusal :=
  .next (s.onRequest .query (queryIndex c i) fun s t => answer t (s.orderQuery c i sub part clear))

end Sys2Proof.Machine
end

