-- ==== Sys2Proof/Machine/Resets.lean ====
section
/-! DEFINITION. Start-up, resets and the Settings Loader (R187 to R192): POWER_ON, RESET_PIN, AUTOLOAD_END, the save, the
phrase write, RESTART, FRAME_SENT with its sent reports (R174), and NOTICE_REPEAT (R185). -/

namespace Sys2Proof.Machine

/-! ### Live state after a reset -/

/-- A shaft's live state after a reset: its two drive inputs are read from their pins (R37). -/
def Shaft.afterReset (x : Shaft) : Shaft := { ready := x.ready, fault := x.fault }

/-- Every live state, timer and counter at its value after a reset. The tables, the Store Clock less its pending step, the
Settings Loader's EEPROM and the phrase store are kept (R14, R37, R56, R75, R97, R117, R119, R140, R164, R177, R188). -/
def State.clearLive (s : State) : State :=
  { s with
    inPlace := false
    stations := Tab.replicate 96 {}, unknownSource := 0, mismatchDrop := 0
    shafts := s.shafts.map Shaft.afterReset
    points := Tab.replicate 128 {}, unknownPoint := 0
    zones := Tab.replicate 16 {}
    shutters := Tab.replicate 32 {}, unknownDrive := 0
    calls := {}
    arbiters := Tab.replicate 96 none
    clock := { s.clock with step := none }
    day := { stamps := s.day.stamps }
    playback := {}
    net := {}
    exchange := {}
    settings := { s.settings with saving := none, writing := none, restart := none } }

/-- A zone that starts ISOLATED, with its shutters (R75, R95). No ZONE_STATE or SHUTTER_STATE notice is requested: R75 leaves
that open, and it is the model's choice (notes/assumptions/38.md). -/
def State.startZone (s : State) (z : Nat) : State :=
  if (s.zoneCfg z).storedIsolated then
    let s := s.modZone z fun x => { x with state := .isolated }
    s.forEach (s.zoneShutters z) fun s i => s.modShutter i fun _ => { state := .isolated }
  else s

/-- The supervision timer of a station record started with the tables in place (R14). -/
def State.startStation (s : State) (i : Nat) : State :=
  match s.station i with
  | some c => s.freshStation i c
  | none => s

/-- A shaft's windows start, and a FAULT already raised is taken (R31, R37). -/
def State.startShaftBlock (s : State) (k : Nat) : State :=
  let s := s.modShaft k fun x => { x with windowEnd := s.after Config.speedWindow }
  if (s.shaft k).fault then s.tripShaft k .drive else s

/-- The tables are in place and each block starts (R188, R192). -/
def State.startBlocks (s : State) : State :=
  let s := { s with inPlace := true }
  let s := s.forEach (List.range 96) State.startStation
  let s := s.forEach (List.range 16) State.startZone
  let s := s.forEach (s.stationsOf .sounder) State.createArbiter
  let s := s.readDirectory
  let s := s.forEach (List.range 5) fun s p => s.modPort p fun x => { x with keepTimer := s.after Config.keepInterval }
  (s.startShaftBlock 0).startShaftBlock 1

/-! ### Power-on, the reset pin and the autoload -/

/-- A block whose programming is cut short by a power-on or a reset pin: the data book states no contents for it
(notes/assumptions/7.md). -/
def State.cutShort (s : State) : State :=
  match s.settings.writing with
  | none => s
  | some w =>
    { s with
      store := s.store.writeRun w.address ((List.range 32).map fun j => Config.cutShortByte s.draws (w.address + j))
      draws := s.draws + 1 }

/-- What power-on and the reset pin do alike: the loaded tables are not kept, and the phrase lock is clear (1.7, R188, R190). -/
def State.unload (s : State) : State :=
  let s := s.cutShort.clearLive
  { s with tables := {}, settings := { s.settings with locked := false } }

/-- POWER_ON: the Store Clock and the last-fired stamps are lost as well (R132, R137, R188). -/
def execPowerOn (s : State) : Host.Outcome State Fault Refusal := .next { s.unload with clock := {}, day := {} }

/-- RESET_PIN: the Store Clock is kept (R132, R188). -/
def execResetPin (s : State) : Host.Outcome State Fault Refusal := .next s.unload

/-- The image state judged at the autoload (R187, R188). -/
def judgeImage (acknowledged : Bool) (e : Eeprom) : ImageState :=
  if !acknowledged then .absent
  else if e.marker && e.agrees && e.tables.check then .valid
  else .invalid

/-- Every in-use entry stamped against the clock at the autoload; a free index keeps the stamp it has (R137, R147). -/
def State.stampImage (s : State) : State :=
  let c := s.clock
  s.modDay fun d => { d with
    stamps := Tab.ofFn 24 fun i =>
      match s.entry i with
      | some e => some (stampAgainst c.hours c.minutes c.day e)
      | none => d.stamps.at? i }

/-- AUTOLOAD_END: the tables come from the image or from the defaults, and each block starts (R188). -/
def execAutoloadEnd (acknowledged : Bool) (s : State) : Host.Outcome State Fault Refusal :=
  if s.inPlace then .next s
  else
    let image : ImageState := judgeImage acknowledged s.settings.eeprom
    let s := { s with
      tables := if image = ImageState.valid then s.settings.eeprom.tables else {}
      settings := { s.settings with image := image }
      net := {} }
    let s := if image = ImageState.valid then s else s.notify .storeInvalid
    .next s.stampImage.startBlocks

/-! ### RESTART (R192) -/

/-- A pending restart carried out: the tables, the clock and the lock are kept, and each block starts (R192). -/
def State.restartNow (s : State) : State := s.clearLive.startBlocks

/-- RESTART: pending until its REPLY has been sent, or for 100 ms (R192). -/
def State.orderRestart (s : State) (t : Ticket) : State :=
  if s.settings.saving.isSome || s.settings.writing.isSome then s.reply t .busy
  else (s.modSettings fun x => { x with restart := s.after Config.restartLimit }).reply t .done .none .restart

/-- RESTART (R192). -/
def execRestart (s : State) : Host.Outcome State Fault Refusal := .next (s.onRequest .order none State.orderRestart)

/-- RESTART_TIMEOUT: 100 ms have passed since the order (R192). -/
def execRestartTimeout (s : State) : Host.Outcome State Fault Refusal :=
  match s.settings.restart with
  | none => .next s
  | some t => .next (s.reach t).restartNow

/-! ### Sent frames (R174) -/

/-- A sent report acted on (R124, R174, R192). -/
def State.actOnReport (s : State) : Report → State
  | .none => s
  | .toll i token => s.tollReport i token
  | .restart => if s.settings.restart.isSome then s.restartNow else s

/-- A queued frame sent: it leaves its queue, is counted and reported, and the port takes its next frame (R174). -/
def State.frameSent (s : State) (p : Nat) (c : QueueClass) (f : TxFrame) : State :=
  let s := s.modPort p fun x => (x.countSent s.now).dropHead c
  (s.actOnReport f.report).nextFrame p c

/-- FRAME_SENT (R174). -/
def execFrameSent (p : Nat) (s : State) : Host.Outcome State Fault Refusal :=
  match (s.port p).sendingHand with
  | none => .next s
  | some h =>
    match h.source with
    | .keep => .next (s.keepSent p)
    | .queue c =>
      match (s.port p).headOf c with
      | some f => .next (s.frameSent p c f)
      | none => .next s

/-! ### Saving (R189) -/

/-- SAVE_SETTINGS: the snapshot is taken and the writing begins, by invalidating the checksum (R189). -/
def State.orderSave (s : State) (t : Ticket) : State :=
  if s.settings.saving.isSome then s.reply t .busy
  else
    (s.modSettings fun x => { x with
      saving := some { ticket := t, snapshot := s.tables }
      image := .invalid
      eeprom := x.eeprom.spoilt }).notify .storeInvalid

/-- SAVE_SETTINGS (R189). -/
def execSaveSettings (s : State) : Host.Outcome State Fault Refusal := .next (s.onRequest .order none State.orderSave)

/-- A save that failed: the image state, and WRITE_FAILED in the REPLY (R187, R189). -/
def State.saveFailed (s : State) (sv : Saving) (image : ImageState) : State :=
  let changed := decide (s.settings.image ≠ image)
  let s := s.modSettings fun x => { x with image := image, saving := none }
  let s := if changed then s.notify .storeInvalid else s
  s.reply sv.ticket .refusedState .writeFailed

/-- SAVE_END (R189). -/
def execSaveEnd (r : SaveResult) (s : State) : Host.Outcome State Fault Refusal :=
  match s.settings.saving with
  | none => .next s
  | some sv =>
    match r with
    | .agrees =>
      .next ((s.modSettings fun x => { x with
        image := .valid, saving := none
        eeprom := Eeprom.holding sv.snapshot }).reply sv.ticket .done)
    | .differs => .next (s.saveFailed sv .invalid)
    | .noAcknowledge => .next (s.saveFailed sv .absent)

/-! ### The phrase store (R190, R191) -/

/-- Whether EVAC or STORED is PLAYING (R191). -/
def State.phrasePlaying (s : State) : Bool := s.playback.evac.isSome || s.playback.stored.isSome

/-- WRITE_PHRASE_BLOCK: the checks of R191 in their order, then programming begins. Of more than 32 data bytes the first
32 are taken and the rest is ignored: the model's choice, since R191 refuses only fewer (notes/assumptions/43.md). -/
def State.orderWriteBlock (s : State) (address : Option Nat) (data : List Byte) (t : Ticket) : State :=
  match address with
  | none => s.reply t .badValue
  | some a =>
    if data.length < 32 ∨ a % 32 ≠ 0 ∨ Config.phraseStoreSize ≤ a then s.reply t .badValue
    else if s.settings.locked || s.phrasePlaying then s.reply t .refusedState
    else if s.settings.writing.isSome then s.reply t .busy
    else s.modSettings fun x => { x with writing := some { ticket := t, address := a, data := data.take 32 } }

/-- WRITE_PHRASE_BLOCK (R191). -/
def execWritePhraseBlock (address : Option Nat) (data : List Byte) (s : State) : Host.Outcome State Fault Refusal :=
  .next (s.onRequest .order none fun s t => s.orderWriteBlock address data t)

/-- PHRASE_WRITE_END: the block is read back and the order is answered (R191). `readBack` is what the store now holds. -/
def execPhraseWriteEnd (readBack : List Byte) (s : State) : Host.Outcome State Fault Refusal :=
  match s.settings.writing with
  | none => .next s
  | some w =>
    let s := { s with store := s.store.writeRun w.address (readBack.take 32) }
    let s := s.modSettings fun x => { x with writing := none }
    .next (if readBack = w.data then s.reply w.ticket .done else s.reply w.ticket .refusedState .writeFailed)

/-- LOCK_PHRASES (R190). -/
def execLockPhrases (s : State) : Host.Outcome State Fault Refusal :=
  s.onOrder none fun s => (s.modSettings fun x => { x with locked := true }).carried false

/-! ### Repeated notices (R184, R185) -/

/-- Whether the standing condition of a notice's kind and object holds (R184). -/
def State.conditionStands (s : State) : NoticeBody → Bool
  | .zoneState z _ _ _ _ => decide ((s.zone z).state ≠ .normal)
  | .shaftTrip k _ => decide ((s.shaft k).state = .tripped)
  | .shutterForced i => (s.shutter i).isSome && (s.shutterLive i).forced
  | .evacUnavailable z => decide ((s.zone z).state = .alarm ∧ s.zoneChan z ≠ .evac)
  | .stationLost i => (s.station i).isSome && decide ((s.stationLive i).presence = .missing)
  | .roleMismatch i => (s.station i).isSome && decide ((s.stationLive i).presence = .mismatch)
  | .zoneFault z _ => (s.zone z).fault
  | .shutterFault i f _ => (s.shutter i).isSome && (s.shutterLive i).faults.has f
  | .shaftDegraded k _ => (s.shaft k).degraded
  | .portState p _ => decide ((s.port p).state ≠ .up)
  | .clockInvalid => !s.clock.valid
  | .storeInvalid => decide (s.settings.image ≠ .valid)
  | .shaftHeld k _ _ => decide ((s.shaft k).state = .held)
  | .callOffice n _ _ _ => (s.record n).any fun r => decide (r.target = .office)
  | .zonePoint _ _ | .safetyRefused _ _ _ | .shaftUnclearable _ | .shutterState _ _ _ | .stationStatus _ _ _
  | .stationBack _ | .storeMode _ _ _ | .storedAbandoned _ | .pageEnded _ => false

/-- A notice with its present contents (R185). A repeated ZONE_STATE keeps the old state, and a repeated CALL_OFFICE the
reason, of the request that started the timer: the model's choice (notes/assumptions/43.md). -/
def State.presentBody (s : State) (b : NoticeBody) : NoticeBody :=
  match b with
  | .zoneState z old _ _ _ =>
    let x := s.zone z
    .zoneState z old x.state (if x.state = .alarm then x.cause else none) (if x.state = .alarm then x.alarmPoint else none)
  | .shaftTrip k _ => .shaftTrip k (s.shaft k).trip
  | .zoneFault z _ => .zoneFault z true
  | .shutterFault i f _ => .shutterFault i f true
  | .shaftDegraded k _ => .shaftDegraded k true
  | .portState p _ => .portState p (s.port p).state
  | .shaftHeld k _ _ => .shaftHeld k (s.shaft k).outcome (s.shaft k).heldReason
  | .callOffice n a c why =>
    match s.record n with
    | some r => .callOffice n (s.addressOf r.point) r.cls why
    | none => .callOffice n a c why
  | b => b

/-- A notice built and placed again, its repeat timer restarted (R185). -/
def State.repeatNotice (s : State) (b : NoticeBody) : State :=
  let c := s.tables.notice b.key.kind
  { s with net := Net.dispatch s.globals { s.net with mgmt := (s.net.mgmt.build c b).startRepeat s.now b } }

/-- A repeat timer stopped. -/
def State.stopRepeat (s : State) (k : NoticeKey) : State :=
  s.modMgmt fun m => { m with timers := m.timers.filter fun t => decide (t.key ≠ k) }

/-- NOTICE_REPEAT: a repeat timer runs out and its condition is read (R185). -/
def execNoticeRepeat (k : NoticeKey) (s : State) : Host.Outcome State Fault Refusal :=
  match s.net.mgmt.timers.find? fun t => decide (t.key = k) with
  | none => .next s
  | some t =>
    let s := s.reach t.due
    let c := s.tables.notice k.kind
    if c.enable && decide (c.mode = .level) && s.conditionStands t.body then .next (s.repeatNotice (s.presentBody t.body))
    else .next (s.stopRepeat k)

end Sys2Proof.Machine
end

