-- ==== Sys2Proof/Machine/Dispatch.lean ====
section
/-! DEFINITION. The dispatch: one arm for each command, each a direct call of its meaning. -/

namespace Sys2Proof.Machine

def exec (i : Instr) (s : State) : Host.Outcome State Fault Refusal :=
  match i with
  | .powerOn => Sys2Proof.Machine.execPowerOn s
  | .resetPin => Sys2Proof.Machine.execResetPin s
  | .autoloadEnd acknowledged => Sys2Proof.Machine.execAutoloadEnd acknowledged s
  | .secondBoundary => Sys2Proof.Machine.execSecondBoundary s
  | .crystalLoss => Sys2Proof.Machine.execCrystalLoss s
  | .forwardCount shaft => Sys2Proof.Machine.execForwardCount shaft s
  | .backwardCount shaft => Sys2Proof.Machine.execBackwardCount shaft s
  | .homeMark shaft => Sys2Proof.Machine.execHomeMark shaft s
  | .readyLost shaft => Sys2Proof.Machine.execReadyLost shaft s
  | .readyGained shaft => Sys2Proof.Machine.execReadyGained shaft s
  | .faultRaised shaft => Sys2Proof.Machine.execFaultRaised shaft s
  | .faultCleared shaft => Sys2Proof.Machine.execFaultCleared shaft s
  | .speedWindowEnd shaft => Sys2Proof.Machine.execSpeedWindowEnd shaft s
  | .homeTimeout shaft => Sys2Proof.Machine.execHomeTimeout shaft s
  | .lampRefresh shaft landing => Sys2Proof.Machine.execLampRefresh shaft landing s
  | .supervisionTimeout station => Sys2Proof.Machine.execSupervisionTimeout station s
  | .frameReceive port line => Sys2Proof.Machine.execFrameReceive port line s
  | .portSilenceTimeout port => Sys2Proof.Machine.execPortSilenceTimeout port s
  | .keepInterval port => Sys2Proof.Machine.execKeepInterval port s
  | .keep => Sys2Proof.Machine.execKeep s
  | .forward => Sys2Proof.Machine.execForward s
  | .deferralEnd port => Sys2Proof.Machine.execDeferralEnd port s
  | .frameSent port => Sys2Proof.Machine.execFrameSent port s
  | .earlyClash port => Sys2Proof.Machine.execEarlyClash port s
  | .lateClash port => Sys2Proof.Machine.execLateClash port s
  | .backoffEnd port => Sys2Proof.Machine.execBackoffEnd port s
  | .beat => Sys2Proof.Machine.execBeat s
  | .detect => Sys2Proof.Machine.execDetect s
  | .knockWindowExpiry zone => Sys2Proof.Machine.execKnockWindowExpiry zone s
  | .shutstat => Sys2Proof.Machine.execShutstat s
  | .resendTimer shutter => Sys2Proof.Machine.execResendTimer shutter s
  | .clearanceTimeout shutter => Sys2Proof.Machine.execClearanceTimeout shutter s
  | .warningTimeout shutter => Sys2Proof.Machine.execWarningTimeout shutter s
  | .motionTimeout shutter => Sys2Proof.Machine.execMotionTimeout shutter s
  | .landing => Sys2Proof.Machine.execLanding s
  | .callPress => Sys2Proof.Machine.execCallPress s
  | .callCancel => Sys2Proof.Machine.execCallCancel s
  | .callAck => Sys2Proof.Machine.execCallAck s
  | .escalationStep1 record => Sys2Proof.Machine.execEscalationStep1 record s
  | .escalationStep2 record => Sys2Proof.Machine.execEscalationStep2 record s
  | .patternEnd sounder => Sys2Proof.Machine.execPatternEnd sounder s
  | .startLimit sounder => Sys2Proof.Machine.execStartLimit sounder s
  | .preemptTimeout sounder => Sys2Proof.Machine.execPreemptTimeout sounder s
  | .evacRefresh sounder => Sys2Proof.Machine.execEvacRefresh sounder s
  | .closeWaitExpiry => Sys2Proof.Machine.execCloseWaitExpiry s
  | .tuneEvacRefresh => Sys2Proof.Machine.execTuneEvacRefresh s
  | .blockMoment channel => Sys2Proof.Machine.execBlockMoment channel s
  | .pageSamples => Sys2Proof.Machine.execPageSamples s
  | .pageBlockMoment => Sys2Proof.Machine.execPageBlockMoment s
  | .underrunTimeout => Sys2Proof.Machine.execUnderrunTimeout s
  | .pageIdleTimeout => Sys2Proof.Machine.execPageIdleTimeout s
  | .setupStation index w => Sys2Proof.Machine.execSetupStation index w s
  | .setupPoint index w => Sys2Proof.Machine.execSetupPoint index w s
  | .setupZone zone f => Sys2Proof.Machine.execSetupZone zone f s
  | .setupShutter index w => Sys2Proof.Machine.execSetupShutter index w s
  | .setupRoute index w => Sys2Proof.Machine.execSetupRoute index w s
  | .setupShaft shaft f => Sys2Proof.Machine.execSetupShaft shaft f s
  | .setupSill shaft index w => Sys2Proof.Machine.execSetupSill shaft index w s
  | .setupSchedule index w => Sys2Proof.Machine.execSetupSchedule index w s
  | .setupPort port f => Sys2Proof.Machine.execSetupPort port f s
  | .setupGlobal index w => Sys2Proof.Machine.execSetupGlobal index w s
  | .query code index sub part clear => Sys2Proof.Machine.execQuery code index sub part clear s
  | .setClock f => Sys2Proof.Machine.execSetClock f s
  | .stepClock seconds => Sys2Proof.Machine.execStepClock seconds s
  | .setTrim f => Sys2Proof.Machine.execSetTrim f s
  | .startShaft shaft => Sys2Proof.Machine.execStartShaft shaft s
  | .stopShaft shaft => Sys2Proof.Machine.execStopShaft shaft s
  | .resetShaft shaft => Sys2Proof.Machine.execResetShaft shaft s
  | .silenceZone zone => Sys2Proof.Machine.execSilenceZone zone s
  | .resetZone zone => Sys2Proof.Machine.execResetZone zone s
  | .isolateZone zone => Sys2Proof.Machine.execIsolateZone zone s
  | .restoreZone zone => Sys2Proof.Machine.execRestoreZone zone s
  | .storeMode f => Sys2Proof.Machine.execStoreMode f s
  | .play f => Sys2Proof.Machine.execPlay f s
  | .pageStart f => Sys2Proof.Machine.execPageStart f s
  | .pageEnd => Sys2Proof.Machine.execPageEnd s
  | .clearCalls address => Sys2Proof.Machine.execClearCalls address s
  | .lineTest port => Sys2Proof.Machine.execLineTest port s
  | .lineTestReceive port line => Sys2Proof.Machine.execLineTestReceive port line s
  | .lineTestTimeout port => Sys2Proof.Machine.execLineTestTimeout port s
  | .clearCounters => Sys2Proof.Machine.execClearCounters s
  | .saveSettings => Sys2Proof.Machine.execSaveSettings s
  | .saveEnd result => Sys2Proof.Machine.execSaveEnd result s
  | .writePhraseBlock address data => Sys2Proof.Machine.execWritePhraseBlock address data s
  | .phraseWriteEnd readBack => Sys2Proof.Machine.execPhraseWriteEnd readBack s
  | .lockPhrases => Sys2Proof.Machine.execLockPhrases s
  | .restart => Sys2Proof.Machine.execRestart s
  | .restartTimeout => Sys2Proof.Machine.execRestartTimeout s
  | .unknownOrder => Sys2Proof.Machine.execUnknownOrder s
  | .noticeRepeat key => Sys2Proof.Machine.execNoticeRepeat key s
  | .crystalCyclesResume => Sys2Proof.Machine.execCrystalCyclesResume s

end Sys2Proof.Machine
end

