-- ==== Sys2Proof/Safety.lean ====
section
/-! DEFINITION. The terms in which statements about the machine are made: what a step leaves alone, when a request reaches
the block it addresses, and the invariants that every step keeps (what counts as a safe state). -/

namespace Sys2Proof.Machine

/-! ### Frames -/

/-- The fields of the state, by name. -/
inductive Field where
  | tables | inPlace | stations | unknownSource | mismatchDrop | shafts | points | unknownPoint | zones | shutters | unknownDrive | calls
  | arbiters | clock | day | playback | net | exchange | settings | store | pending | now | draws | tokens
deriving DecidableEq, Repr

/-- A clock less its tick divider. -/
def Clock.readings (c : Clock) : Clock := { c with divider := 0 }

/-- The state with the named fields at their values in a fresh state: what is left is what the others hold. The tick divider
counts the time that passes, and goes with the present moment (R132). -/
def State.blank (F : List Field) (s : State) : State :=
  { tables := if Field.tables ∈ F then {} else s.tables
    inPlace := if Field.inPlace ∈ F then false else s.inPlace
    stations := if Field.stations ∈ F then Tab.replicate 96 {} else s.stations
    unknownSource := if Field.unknownSource ∈ F then 0 else s.unknownSource
    mismatchDrop := if Field.mismatchDrop ∈ F then 0 else s.mismatchDrop
    shafts := if Field.shafts ∈ F then Tab.replicate 2 {} else s.shafts
    points := if Field.points ∈ F then Tab.replicate 128 {} else s.points
    unknownPoint := if Field.unknownPoint ∈ F then 0 else s.unknownPoint
    zones := if Field.zones ∈ F then Tab.replicate 16 {} else s.zones
    shutters := if Field.shutters ∈ F then Tab.replicate 32 {} else s.shutters
    unknownDrive := if Field.unknownDrive ∈ F then 0 else s.unknownDrive
    calls := if Field.calls ∈ F then {} else s.calls
    arbiters := if Field.arbiters ∈ F then Tab.replicate 96 none else s.arbiters
    clock := if Field.clock ∈ F then {} else if Field.now ∈ F then s.clock.readings else s.clock
    day := if Field.day ∈ F then {} else s.day
    playback := if Field.playback ∈ F then {} else s.playback
    net := if Field.net ∈ F then {} else s.net
    exchange := if Field.exchange ∈ F then {} else s.exchange
    settings := if Field.settings ∈ F then {} else s.settings
    store := if Field.store ∈ F then {} else s.store
    pending := if Field.pending ∈ F then [] else s.pending
    now := if Field.now ∈ F then 0 else s.now
    draws := if Field.draws ∈ F then 0 else s.draws
    tokens := if Field.tokens ∈ F then 0 else s.tokens }

/-- Two states agree on every field that is not named. -/
def ChangesOnly (F : List Field) (s t : State) : Prop := t.blank F = s.blank F

/-- A shaft less what it keeps for its landings (the stored reports and the lamps). -/
def Shaft.core (x : Shaft) : Shaft := { x with landings := Tab.replicate 12 {} }

/-- A shaft latched in TRIPPED with a cause: PERMIT off, CREEP off, BRAKE on, no home timer and no advance count (R30). -/
def Shaft.latched (x : Shaft) (c : TripCause) : Prop :=
  x.state = .tripped ∧ x.trip = some c ∧ x.permit = false ∧ x.creep = false ∧ x.brake = true ∧ x.homeTimer = none ∧
    x.advance = none

/-! ### Requests (R170, R179) -/

/-- The step that takes the frame of a request: a SETUP, the QUERY or an ORDER (R178, R179). -/
def requestStep : Instr → Option FrameStep
  | .setupStation _ _ | .setupPoint _ _ | .setupZone _ _ | .setupShutter _ _ | .setupRoute _ _ | .setupShaft _ _
  | .setupSill _ _ _ | .setupSchedule _ _ | .setupPort _ _ | .setupGlobal _ _ => some .setup
  | .query _ _ _ _ _ => some .query
  | .setClock _ | .stepClock _ | .setTrim _ | .startShaft _ | .stopShaft _ | .resetShaft _ | .silenceZone _ | .resetZone _
  | .isolateZone _ | .restoreZone _ | .storeMode _ | .play _ | .pageStart _ | .pageEnd | .clearCalls _ | .lineTest _
  | .clearCounters | .saveSettings | .writePhraseBlock _ _ | .lockPhrases | .restart | .unknownOrder => some .order
  | _ => none

/-- The entry index or object number that a request must name in byte 3, where the command has one (R178). -/
def requestObject : Instr → Option Nat
  | .setupStation i _ | .setupPoint i _ | .setupZone i _ | .setupShutter i _ | .setupRoute i _ | .setupShaft i _
  | .setupSchedule i _ | .setupPort i _ | .setupGlobal i _ => some i
  | .query c i _ _ _ => queryIndex c i
  | .startShaft k | .stopShaft k | .resetShaft k => some k
  | .silenceZone z | .resetZone z | .isolateZone z | .restoreZone z => some z
  | .lineTest p => some p
  | _ => none

/-- The head of the intake queue is a request of a step, naming an object, that comes by L4 from an accepted console, has its four header
bytes, is let through by the Station Table, and finds no restart pending (R7, R170, R179, R192). -/
structure Accepted (s : State) (want : FrameStep) (object : Option Nat) (r : Received) : Prop where
  head : s.requestFor want object = some r
  office : r.port = Config.officePort
  console : s.fromConsole r.frame.src = true
  header : 4 ≤ r.frame.payload.length
  passed : (s.takeHead r).passes r = true
  noRestart : s.settings.restart = none

/-- The tag and the source of a request (R179). -/
def Received.ticket (r : Received) : Ticket := { tag := requestTag r.frame.payload, src := r.frame.src }

/-- The head of the intake queue is a tapped frame of a step, of its kind's length, that the Station Table lets through to
its job (R7, R170). -/
structure Tapped (s : State) (want : FrameStep) (r : Received) : Prop where
  head : s.headFor want = some r
  passed : (s.takeHead r).passes r = true
  length : r.frame.goodLength = true

/-! ### What QUERY returns (R182) -/

/-- QUERY of a table of `n` entries at index `i`: an entry in use returns what is given for it, a free one the word FREE, and an
index outside the table nothing, which is answered BAD_INDEX (R182). -/
def EntryReturned (n i : Nat) (entry got : Option QueryData) : Prop :=
  (i < n → got = some (entry.getD .free)) ∧ (n ≤ i → got = none)

/-- QUERY of a table of `n` entries whose shared counters are returned at index 255 (R182). -/
def CountedReturned (n i : Nat) (counters : QueryData) (entry got : Option QueryData) : Prop :=
  (i = 255 → got = some counters) ∧ (i ≠ 255 → EntryReturned n i entry got)

/-- A call record at a position of the call table, as QUERY returns it: the record, its state by the first line of R101 that
applies, the sounders holding a pending request of it and those sounding its pattern, and the time left on its timer (R100,
R101, R107). -/
def State.CallReturned (s : State) (r : CallRecord) (got : Option QueryData) : Prop :=
  ∃ state pendingAt soundingAt, got = some (.call r state pendingAt soundingAt (r.timer.map fun t => t - s.now)) ∧
    (∀ k, k ∈ pendingAt ↔ k < 96 ∧ ∃ a, s.arbiter k = some a ∧ ∃ q ∈ a.pending, q.owner = .call r.number) ∧
    (∀ k, k ∈ soundingAt ↔ k < 96 ∧ ∃ a c p n e, s.arbiter k = some a ∧
      a.inForce = .timed c (.call r.number) p n (.sounding e)) ∧
    state = if r.held = true then .held else if r.step ≠ 0 then .escalated
      else if soundingAt ≠ [] then .ringing else .waiting

/-- What QUERY of a code returns at an index, and at a sill number for SILL: the fields, the live fields and the counters that
R182 and the chapters name for it (R2, R7, R15, R16, R56, R57, R59, R62, R76, R86, R98, R100, R117, R119, R132, R137, R140, R148,
R164, R173, R177, R181, R184, R187, R190). An index that no arbiter has returns FREE (notes/assumptions/12.md). -/
def State.Returned (s : State) (i j : Nat) (got : Option QueryData) : QueryCode → Prop
  | .station => CountedReturned 96 i (.stationCounters s.unknownSource s.mismatchDrop)
      ((s.station i).map fun c => .station c (s.stationLive i)
        { chime := c.abilities.chime && (s.stationLive i).advertised.chime
          fade := c.abilities.fade && (s.stationLive i).advertised.fade }) got
  | .point => CountedReturned 128 i (.pointCounters s.unknownPoint)
      ((s.point i).map fun c => .point c (s.pointLive i)) got
  | .zone => EntryReturned 16 i (some (.zone (s.zoneCfg i) (s.zone i))) got
  | .shutter => CountedReturned 32 i (.shutterCounters s.unknownDrive)
      ((s.shutter i).map fun c => .shutter c (s.shutterLive i)) got
  | .route => EntryReturned 64 i ((s.tables.routes.at? i).map .route) got
  | .shaft => EntryReturned 2 i
      (some (.shaft (s.geometry i) (s.shaft i) ((s.geometry i).bands (s.shaft i).clearSet))) got
  | .sill => (i < 2 → EntryReturned 24 j (((s.tables.shafts.getD i {}).sills.at? j).map .sill) got) ∧
      (2 ≤ i → got = none)
  | .schedule => EntryReturned 24 i
      ((s.tables.schedule.at? i).map fun e => .schedule e (s.day.stamps.at? i)) got
  | .port => EntryReturned 5 i (some (.port (s.tables.ports.getD i {})
      { state := (s.port i).state, trial := (s.port i).trial, badRun := (s.port i).badRun
        safety := (s.port i).safety.length, stream := (s.port i).stream.length, normal := (s.port i).normal.length
        counters := (s.port i).counters, sticky := (s.port i).sticky })) got
  | .global => (i = 0 → got = some (.settings s.tables.globals)) ∧
      (1 ≤ i → i ≤ 23 → got = some (.noticeCfg (s.tables.notices.getD (i - 1) {}))) ∧ (23 < i → got = none)
  | .clock => EntryReturned 1 i (some (.clock s.clock)) got
  | .store => EntryReturned 1 i (some (.store s.day)) got
  | .calls => (i = 255 → got = some (.callCounters s.calls.counters)) ∧
      (∀ r, i < 48 → s.calls.records[i]? = some r → s.CallReturned r got) ∧
      (i < 48 → s.calls.records.length ≤ i → got = some .free) ∧ (48 ≤ i → i ≠ 255 → got = none)
  | .sounder => EntryReturned 96 i ((s.arbiter i).map .sounder) got
  | .playback => EntryReturned 1 i (some (.playback s.playback)) got
  | .phrase => ∀ e, e = s.playback.directory.getD i {} →
      EntryReturned 128 i (some (.phrase e (if e.count = 0 then .empty
        else if e.start < 1024 ∨ e.start % 2 = 1 ∨ e.count < 64 ∨ 8388608 < e.start + 2 * e.count ∨ 511 < e.gain then .invalid
        else .valid))) got
  | .exchange => EntryReturned 1 i (some (.exchange s.exchange.counters)) got
  | .management => EntryReturned 1 i (some (.management
      { noticeQueue := s.net.mgmt.queue.length, sticky := s.net.mgmt.sticky, rejected := s.net.mgmt.rejected
        badRequest := s.net.mgmt.badRequest, noticeLost := s.net.mgmt.noticeLost, phraseBusy := s.net.mgmt.phraseBusy
        image := s.settings.image, saving := s.settings.saving.isSome, locked := s.settings.locked
        writing := s.settings.writing.isSome })) got
  | .unknown => got = none

/-! ### Rings (R121) -/

/-- What a ring request placed at sounder `i` makes of its arbiter, from `a` to `b` (R121): refused by a sounder that is not
PRESENT and by a full list; taken in place of the owner's waiting request; appended behind a pattern in force or while the
sounder does not arbitrate, the preempt timer starting behind a SOUNDING pattern not of class URGENT (R125); served at once by an idle sounder
(R123). -/
def State.Placed (s : State) (i : Nat) (c : RingClass) (p : Pattern) (o : RingOwner) (a b : Arbiter) : Prop :=
  (s.isPresent i = false →
    b = { a with counters := { a.counters with refusedAbsent := bump a.counters.refusedAbsent } }) ∧
  (s.isPresent i = true → (∃ r ∈ a.pending, r.owner = o) →
    b = { a with pending := a.pending.map fun r => if r.owner = o then { r with cls := c, pattern := p } else r }) ∧
  (s.isPresent i = true → (∀ r ∈ a.pending, r.owner ≠ o) →
    (8 ≤ a.pending.length →
      b = { a with counters := { a.counters with refusedFull := bump a.counters.refusedFull } }) ∧
    (a.pending.length < 8 →
      (a.service ≠ .arbitrating ∨ a.inForce ≠ .none →
        b = { a with
          pending := a.pending ++ [{ cls := c, pattern := p, owner := o, arrival := s.now }]
          preempt := match a.service, a.inForce, a.pending with
            | .arbitrating, .timed k _ _ _ (.sounding _), [] =>
              if k = .urgent ∨ s.globals.preemptWait = 0 then none
              else some (s.now + 1000000 * s.globals.preemptWait)
            | _, _, _ => a.preempt }) ∧
      (a.service = .arbitrating → a.inForce = .none → a.pending = [] → b.pending = [] ∧
        b.lastServed = (if c = .urgent then a.lastServed else c) ∧
        b.counters = { a.counters with served := bump a.counters.served } ∧
        ∃ n, b.inForce = .timed c o (patternSent (s.effective i) p) n (.starting (s.now + 2000000)))))

/-! ### Frames sent and notices dispatched (R172, R186) -/

/-- The frames waiting in a transmit queue of a port, the head first (R172). -/
def Port.waiting (p : Port) : QueueClass → List TxFrame
  | .safety => p.safety
  | .stream => p.stream
  | .normal => p.normal

/-- From `s` to `t`, a frame of the part to station `i` has joined the queue of its home port right behind the frames that
waited there, if that port is a store line's, TRIAL or UP, and its queue had room (R165, R172). -/
def State.Sent (s t : State) (i : Nat) (q : QueueClass) (kind : Byte) (bytes : List Byte) : Prop :=
  ∀ x, s.station i = some x → x.homePort < 4 → (s.port x.homePort).accepts q = true →
    ∃ later, (t.port x.homePort).waiting q = (s.port x.homePort).waiting q ++
      { dest := x.address, src := s.globals.own, kind := kind, payload := .raw bytes } :: later

/-- From `s` to `t`, block number `block` of PAGE with these source samples is emitted: one SAMPLES frame to FFA2h, with the
number and the output samples in their order, is offered in the STREAM class to each port that is the home port of a PRESENT
speaker tuned to PAGE, and no other port changes. Each sample is made with the page gain, under the rising ramp while fewer
than 32 samples have been sent, `ramped` of them before this block (R152, R153, R162, R178). -/
def State.PageBlockSent (s t : State) (block ramped : Nat) (samples : List Sample) : Prop :=
  ∀ q < 5,
    ((∃ i x, s.station i = some x ∧ x.role = .speaker ∧ x.homePort = q ∧ s.isPresent i = true ∧ s.speakerChan i = .page) →
      t.port q = (s.port q).offer .stream
        { dest := 0xFFA2#16, src := s.globals.own, kind := 0x30#8
          payload := .raw (BitVec.ofNat 8 block :: packSamples (samples.mapIdx fun k x =>
            BitVec.ofInt 12 (max (-2048) (min 2047 ((x.toInt *
              (if ramped + k + 1 ≤ 32 then s.playback.page.gain * (ramped + k + 1) / 32 else s.playback.page.gain : Nat) + 128) /
                256))))) }) ∧
    ((∀ i x, s.station i = some x → x.role = .speaker → x.homePort = q → s.isPresent i = true → s.speakerChan i ≠ .page) →
      t.port q = s.port q)

/-- A page ends with a reason, from `s` to `t`: first PAGE becomes IDLE with its buffer emptied, its timers stopped, its mask
emptied and its source cleared; the map is recomputed after that; and a PAGE_ENDED notice with the reason is requested last.
`fs` are the fields that the first of these changes (R163). -/
def State.PageEndTold (s t : State) (fs : List Field) (why : PageEnd) : Prop :=
  ∃ w : State, t = w.settlePlayback.notify (.pageEnded why) ∧ ChangesOnly fs s w ∧
    w.playback = { s.playback with page := { s.playback.page with
      phase := .idle, zones := 0#16, source := none, buffer := [], clock := none, idle := none, underrun := none } }

/-- What the dispatch of R186 makes of the ports and the notice queue, from `m` to `n`: nothing leaves unless L4 is UP. While it
is UP, notices leave from the head, each as one frame for each address of its route at the tail of L4's NORMAL queue, until
the queue is empty or the copies of the next have no room; one whose route makes no frame is counted as lost. -/
def Net.Dispatched (g : Global) (m n : Net) : Prop :=
  ((m.ports.getD 4 {}).state ≠ .up → n = m) ∧
  ((m.ports.getD 4 {}).state = .up → ∃ sent kept, m.mgmt.queue = sent ++ kept ∧
    n.mgmt = { m.mgmt with
      queue := kept
      noticeLost := bumpBy (sent.countP fun q => decide (noticeDests g q.route = [])) m.mgmt.noticeLost } ∧
    (n.ports.getD 4 {}).normal = (m.ports.getD 4 {}).normal ++
      sent.flatMap (fun q => (noticeDests g q.route).map (noticeFrame g q)) ∧
    (n.ports.getD 4 {}).normal.length ≤ max 16 (m.ports.getD 4 {}).normal.length ∧
    (n.ports.getD 4 {}).safety = (m.ports.getD 4 {}).safety ∧
    (n.ports.getD 4 {}).stream = (m.ports.getD 4 {}).stream ∧
    (n.ports.getD 4 {}).counters = (m.ports.getD 4 {}).counters ∧
    (∀ p < 4, n.ports.getD p {} = m.ports.getD p {}) ∧
    ∀ q rest, kept = q :: rest → 16 < (n.ports.getD 4 {}).normal.length + (noticeDests g q.route).length)

/-- A notice joins the notice queue, from `m` to `n`: at the tail while fewer than 16 wait; else the oldest of the lowest
severity among all 17 is dropped and counted (R186). -/
def Management.Joined (m n : Management) (x : Notice) : Prop :=
  (m.queue.length < 16 → n = { m with queue := m.queue ++ [x] }) ∧
  (16 ≤ m.queue.length → ∃ before dropped behind, m.queue ++ [x] = before ++ dropped :: behind ∧
    n = { m with queue := before ++ behind, noticeLost := bump m.noticeLost } ∧
    (∀ y ∈ m.queue ++ [x], dropped.severity.rank ≤ y.severity.rank) ∧
    ∀ y ∈ before, y.severity ≠ dropped.severity)

/-! ### Losses and regains handed to the jobs (R13)

Each says what a loss or a regain of station `i`, handed over in a step from `s` to `t`, makes of the job that reads it. -/

/-- The zones' FAULT flags follow their points: each is set just while a point of the zone is in FAULT, and one that changes
sets the flag of ZONE_FAULT (R61). -/
def State.FaultsFollow (s t : State) : Prop :=
  ∀ z < 16,
    ((t.zone z).fault = true ↔ ∃ n c, s.point n = some c ∧ c.zone = z ∧ (t.pointLive n).state = .fault) ∧
    t.zone z = { s.zone z with fault := (t.zone z).fault } ∧
    ((t.zone z).fault ≠ (s.zone z).fault → t.net.mgmt.sticky.getLsbD 8 = true)

/-- Loss of a panel: its points take FAULT with source LINK (R60). -/
def State.PanelLost (s t : State) (i : Nat) : Prop :=
  (∀ n c, s.point n = some c → t.pointLive n = if c.panel = i then { state := .fault, source := some .link } else s.pointLive n) ∧
  (∀ n, s.point n = none → t.pointLive n = s.pointLive n) ∧
  s.FaultsFollow t ∧ ChangesOnly [.stations, .points, .zones, .net, .exchange, .now] s t

/-- Regain of a panel: its points in FAULT with source LINK take NORMAL (R60). -/
def State.PanelRegained (s t : State) (i : Nat) : Prop :=
  (∀ n c, s.point n = some c → t.pointLive n =
    if c.panel = i ∧ (s.pointLive n).source = some .link then { state := .normal, source := none } else s.pointLive n) ∧
  (∀ n, s.point n = none → t.pointLive n = s.pointLive n) ∧
  s.FaultsFollow t ∧ ChangesOnly [.stations, .points, .zones, .net, .exchange, .now] s t

/-- A shutter's COMMS fault changes: it sets the flag of SHUTTER_FAULT, and the lamp of the shutter's landing follows, NO_BOARD
(FLASH in WARNING) while COMMS stands (R33, R79, R94). -/
def State.CommsTold (s t : State) (n : Nat) (on : Bool) : Prop :=
  (s.shutterLive n).faults.comms ≠ on → t.net.mgmt.sticky.getLsbD 9 = true ∧
    ∀ c k l, s.shutter n = some c → c.landing = some { shaft := k, landing := l } → k < 2 → l < 12 →
      s.shaftEnabled k = true → (s.landingStation k l).isSome = true → (t.landingLive k l).lamp = t.lampOf k l ∧
        (on = true → s.landingShutter k l = some n →
          (t.landingLive k l).lamp = if (s.shutterLive n).state = .warning then .flash else .noBoard)

/-- Loss of a drive: the fault COMMS of its shutter, and nothing else of it (R94). -/
def State.DriveLost (s t : State) (i : Nat) : Prop :=
  (∀ n, s.driveShutter i = some n → s.CommsTold t n true ∧
    t.shutterLive n = { s.shutterLive n with faults := { (s.shutterLive n).faults with comms := true } }) ∧
  (∀ n, s.driveShutter i ≠ some n → t.shutterLive n = s.shutterLive n) ∧
  (∀ k, (t.shaft k).core = (s.shaft k).core) ∧ ChangesOnly [.stations, .shutters, .shafts, .net, .exchange, .now] s t

/-- Regain of a drive: COMMS goes. A command in force that has not been obeyed, and whose sends have stopped, is sent once more
as a new sequence, a RELEASE only in ALARM or SILENCED and a RAISE only in RESETTING (R80, R89, R94). -/
def State.DriveRegained (s t : State) (i : Nat) : Prop :=
  (∀ n c x, s.driveShutter i = some n → s.shutter n = some c →
    x = { s.shutterLive n with faults := { (s.shutterLive n).faults with comms := false } } → s.CommsTold t n false ∧
    (∀ m, x.command = some m → x.resend = none → x.complied = false →
      (m = .release → (s.zone c.zone).state ∈ [ZoneState.alarm, .silenced]) →
      (m = .raise → (s.zone c.zone).state = .resetting) →
        t.shutterLive n = { x with sends := 1, resend := some (t.now + 1000000) } ∧
        (c.landing = none → s.Sent t i .safety 0x11#8 m.payload)) ∧
    ((∀ m, x.command = some m → x.resend = none → x.complied = false →
        m = .release ∧ (s.zone c.zone).state ∉ [ZoneState.alarm, .silenced] ∨
        m = .raise ∧ (s.zone c.zone).state ≠ .resetting) → t.shutterLive n = x)) ∧
  (∀ n, s.driveShutter i ≠ some n → t.shutterLive n = s.shutterLive n) ∧
  (∀ k, (t.shaft k).core = (s.shaft k).core) ∧ ChangesOnly [.stations, .shutters, .shafts, .net, .exchange, .now] s t

/-- Loss of a landing station: its shaft in RUNNING or LAST_RUN is DEGRADED, with CREEP, and its landing's lamp is NO_BOARD, or
FLASH in WARNING, and is not sent (R26, R33). -/
def State.LandingStationLost (s t : State) (i : Nat) : Prop :=
  (∀ k l, s.landingOf i = some (k, l) → (∀ j, j ≠ k → (t.shaft j).core = (s.shaft j).core) ∧
    (t.shaft k).core = { (s.shaft k).core with degraded := (t.shaft k).degraded, creep := (t.shaft k).creep } ∧
    ((t.shaft k).degraded ≠ (s.shaft k).degraded → t.net.mgmt.sticky.getLsbD 11 = true) ∧
    (k < 2 → l < 12 → s.shaftEnabled k = true → s.landingStation k l = some i →
      ((s.shaft k).state ∈ [ShaftState.running, .lastRun] → (t.shaft k).degraded = true ∧ (t.shaft k).creep = true) ∧
      ((s.shaft k).state ∉ [ShaftState.running, .lastRun] → (t.shaft k).core = (s.shaft k).core) ∧
      (t.landingLive k l).refresh = (s.landingLive k l).refresh ∧
      (t.landingLive k l).lamp =
        if (s.landingShutter k l).any fun n => decide ((s.shutterLive n).state = .warning) then .flash else .noBoard)) ∧
  (s.landingOf i = none → ChangesOnly [.stations, .net, .exchange, .now] s t) ∧
  ChangesOnly [.stations, .shafts, .net, .exchange, .now] s t

/-- Regain of a landing station: DEGRADED and CREEP of its shaft in RUNNING or LAST_RUN follow the landing stations, and its
landing's lamp is recomputed and sent, the 5 s interval running from it (R26, R33). -/
def State.LandingStationRegained (s t : State) (i : Nat) : Prop :=
  (∀ k l, s.landingOf i = some (k, l) → (∀ j, j ≠ k → (t.shaft j).core = (s.shaft j).core) ∧
    (t.shaft k).core = { (s.shaft k).core with degraded := (t.shaft k).degraded, creep := (t.shaft k).creep } ∧
    ((t.shaft k).degraded ≠ (s.shaft k).degraded → t.net.mgmt.sticky.getLsbD 11 = true) ∧
    (k < 2 → l < 12 → s.shaftEnabled k = true → s.landingStation k l = some i →
      ((s.shaft k).state ∈ [ShaftState.running, .lastRun] →
        (t.shaft k).degraded = t.landingSilent k ∧ (t.shaft k).creep = t.landingSilent k) ∧
      ((s.shaft k).state ∉ [ShaftState.running, .lastRun] → (t.shaft k).core = (s.shaft k).core) ∧
      (t.landingLive k l).refresh = some (t.now + 5000000) ∧ (t.landingLive k l).lamp = t.lampOf k l)) ∧
  (s.landingOf i = none → ChangesOnly [.stations, .net, .exchange, .now] s t) ∧
  ChangesOnly [.stations, .shafts, .net, .exchange, .now] s t

/-- The target of a call record once annunciator `i` is lost: of one that it shows as primary the secondary, where that is
PRESENT, and else OFFICE; of one that it shows as secondary OFFICE; of any other as before (R99, R112). -/
def State.targetWithout (s : State) (i : Nat) (r : CallRecord) : Target :=
  match r.target, s.routeOf r.point with
  | .primary, some t => if t.primary = i then (if t.secondary.any s.isPresent then .secondary else .office) else .primary
  | .secondary, some t => if t.secondary = some i then .office else .secondary
  | x, _ => x

/-- Every PRESENT annunciator has been sent the list it is to show (R111). -/
def State.DisplaysFollow (t : State) : Prop :=
  ∀ j d, t.station j = some d → d.role = .annunciator → t.isPresent j = true → t.calls.shown.at? j = some (t.displayList j)

/-- Loss of an annunciator: the records it shows take their next target. One that goes to OFFICE sets the flag of CALL_OFFICE
and, unless it is HELD, keeps no ring but at the office sounders; where it alone moves, it is placed with each of these that
is PRESENT. With none that goes to OFFICE no ring changes (R99, R101, R112). -/
def State.AnnunciatorLost (s t : State) (i : Nat) : Prop :=
  ((s.calls.records.map CallRecord.number).Nodup →
    t.calls = { s.calls with
      shown := t.calls.shown, records := s.calls.records.map fun r => { r with target := t.targetWithout i r } } ∧
    ∀ r ∈ s.calls.records, r.target ≠ .office → t.targetWithout i r = .office →
      t.net.mgmt.sticky.getLsbD 19 = true ∧ (r.held = false →
        (∀ j, s.onOffice j = false →
          t.ringPending j (.call r.number) = false ∧ t.ringInForce j (.call r.number) = false) ∧
        ((∀ x ∈ s.calls.records, t.targetWithout i x ≠ x.target → x = r) →
          ∀ j d a, s.station j = some d → d.role = .sounder → d.homePort = 4 → t.isPresent j = true →
            s.arbiter j = some a → s.ringPending j (.call r.number) = false → s.ringInForce j (.call r.number) = false →
            ∃ b, t.arbiter j = some b ∧ t.Placed j r.cls.ring (.chime (if r.cls = .urgent then 3 else 2)) (.call r.number)
              { a with preempt := if a.pending = [] then none else a.preempt } b))) ∧
  ((∀ r ∈ s.calls.records, r.held = false → t.targetWithout i r = .office → r.target = .office) →
    ChangesOnly [.stations, .calls, .net, .exchange, .now] s t) ∧
  t.DisplaysFollow ∧ ChangesOnly [.stations, .calls, .arbiters, .tokens, .net, .exchange, .now] s t

/-- Regain of an annunciator: it is sent its present list, and no record changes (R111, R112). -/
def State.AnnunciatorRegained (s t : State) (i : Nat) : Prop :=
  t.calls = { s.calls with shown := t.calls.shown } ∧ t.DisplaysFollow ∧
  s.Sent t i .normal 0x22#8 (t.displayList i).payload ∧ ChangesOnly [.stations, .calls, .net, .exchange, .now] s t

/-- Loss of a sounder: its pending requests and a timed pattern in force are dropped, the requests counted; CONTINUOUS stays in
force (R130). -/
def State.SounderLost (s t : State) (i : Nat) : Prop :=
  t.arbiter i = (s.arbiter i).map (fun a => { a with
    pending := [], inForce := if a.inForce = .continuous then .continuous else .none, preempt := none
    counters := { a.counters with droppedAtLoss := bumpBy a.pending.length a.counters.droppedAtLoss } }) ∧
  (∀ j, j ≠ i → t.arbiter j = s.arbiter j) ∧ ChangesOnly [.stations, .arbiters, .net, .exchange, .now] s t

/-- Regain of a sounder: it is sent CONTINUOUS while it evacuates and STOP otherwise, in the class of that TOLL frame
(R118, R130). -/
def State.SounderRegained (s t : State) (i : Nat) : Prop :=
  (∀ a x, s.arbiter i = some a → x = (if a.service = .evacuating then Toll.continuous else .stop) →
    t.arbiter i = some { a with lastSent := some x } ∧
    s.Sent t i (if x = .continuous ∨ a.lastSent = some .continuous then .safety else .normal) 0x23#8 x.payload) ∧
  (∀ j, j ≠ i ∨ s.arbiter j = none → t.arbiter j = s.arbiter j) ∧ ChangesOnly [.stations, .arbiters, .net, .exchange, .now] s t

/-- A change of the presence of a speaker: a zone of the current announcement that is left without a PRESENT speaker, or that
may no longer take STORED, is lost to it and counted, and one left without zones is abandoned; the zone map follows
(R150, R157). -/
def State.SpeakerChanged (s t : State) : Prop :=
  (∀ z < 16, t.zoneChan z = t.mapEntry z) ∧
  (∀ p kept, s.playback.stored = some p →
    kept = p.taken.zones.filter (fun z => s.keepsZone z && decide (t.presentSpeakers z ≠ [])) →
    t.playback.counters.lostZone = bumpBy (p.taken.zones.length - kept.length) s.playback.counters.lostZone ∧
    (kept ≠ [] → ∃ q, t.playback.stored = some q ∧ q.request = p.request ∧
      ∀ z < 16, q.taken.getLsbD z = true ↔ z ∈ kept) ∧
    (kept = [] → t.playback.counters.abandoned = bump s.playback.counters.abandoned ∧
      (s.playback.queue = [] → t.playback.stored = none))) ∧
  (s.playback.stored = none → t.playback.stored = none) ∧
  ChangesOnly [.stations, .playback, .arbiters, .tokens, .net, .exchange, .now] s t

/-- Regain of a speaker: its present tuning is recorded and sent, with the fade flag of the abilities it has had so far; the
frame follows at once where nothing else changes the zone map or the announcement (R151, R157). -/
def State.SpeakerRegained (s t : State) (i : Nat) : Prop :=
  s.SpeakerChanged t ∧ t.playback.tuning.at? i = some (t.speakerChan i) ∧
  (s.playback.stored = none → (∀ z < 16, s.zoneChan z = s.mapEntry z) →
    s.Sent t i (if s.speakerChan i = .evac ∨ s.playback.tuning.at? i = some .evac then .safety else .normal) 0x31#8
      (tunePayload (s.speakerChan i) (s.effective i).fade))

/-- A loss of station `i`, handed to the job that reads stations of its role; a call point, a console and a station of role
OTHER have none (R13). -/
def State.LossTold (s t : State) (i : Nat) : Role → Prop
  | .detectionPanel => s.PanelLost t i
  | .shutterDrive => s.DriveLost t i
  | .landingStation => s.LandingStationLost t i
  | .annunciator => s.AnnunciatorLost t i
  | .sounder => s.SounderLost t i
  | .speaker => s.SpeakerChanged t
  | .callPoint | .console | .other => ChangesOnly [.stations, .net, .exchange, .now] s t

/-- A regain of station `i`, handed to the job that reads stations of its role (R13). -/
def State.RegainTold (s t : State) (i : Nat) : Role → Prop
  | .detectionPanel => s.PanelRegained t i
  | .shutterDrive => s.DriveRegained t i
  | .landingStation => s.LandingStationRegained t i
  | .annunciator => s.AnnunciatorRegained t i
  | .sounder => s.SounderRegained t i
  | .speaker => s.SpeakerRegained t i
  | .callPoint | .console | .other => ChangesOnly [.stations, .net, .exchange, .now] s t

/-! ### Invariants -/

/-- The outputs of a shaft are those that R18's table gives for its state; DEGRADED is set only where CREEP shows it. -/
def Shaft.outputsOk (x : Shaft) : Bool :=
  match x.state with
  | .idle | .stopping | .held | .tripped => !x.permit && !x.creep && x.brake && !x.degraded
  | .homing | .clearing => x.permit && x.creep && !x.brake && !x.degraded
  | .running | .lastRun => x.permit && decide (x.creep = x.degraded) && !x.brake

/-- Both shafts drive the outputs of their states (R18). -/
def State.outputsOk (s : State) : Prop := ∀ k < 2, (s.shaft k).outputsOk = true

/-- The transmit queues of a port keep within their sizes (R172). -/
def Port.queuesOk (p : Port) : Prop :=
  p.safety.length ≤ Config.safetySize ∧ p.stream.length ≤ Config.streamSize ∧ p.normal.length ≤ Config.normalSize

/-- The queues of the store lines keep within their sizes: the intake queue (R170), the transmit queues (R172) and the
notice queue (R186). -/
def State.lineQueuesOk (s : State) : Prop :=
  s.exchange.intake.length ≤ Config.intakeSize ∧ (∀ p < 5, (s.port p).queuesOk) ∧
    s.net.mgmt.queue.length ≤ Config.noticeSize

/-- The tables of the jobs keep within their sizes: the call records, no two of one arrival number and no two of one call point
and class (R100), the pending rings of each arbiter, no two of one owner (R119), the stored-announcement queue, its urgent
requests first (R155), and the jitter buffer (R161). -/
def State.jobQueuesOk (s : State) : Prop :=
  s.calls.records.length ≤ Config.callSize ∧ (s.calls.records.map CallRecord.number).Nodup ∧
    (s.calls.records.map fun r => (r.point, r.cls)).Nodup ∧
    (∀ i a, s.arbiter i = some a → a.pending.length ≤ Config.pendingSize ∧ (a.pending.map Ring.owner).Nodup) ∧
    s.playback.queue.length ≤ Config.storedSize ∧
    s.playback.queue.Pairwise (fun a b => b.urgent = true → a.urgent = true) ∧
    s.playback.page.buffer.length ≤ Config.jitterSize

/-- Both shafts have a position below the length of their loop while it is VALID, and a home mark on the loop (R15, R20); a
part without its tables has neither a shaft enabled nor a position. -/
structure State.PositionsOk (s : State) : Prop where
  loop : ∀ k < 2, 0 < (s.geometry k).L ∧ (s.geometry k).H < (s.geometry k).L
  position : ∀ k < 2, (s.shaft k).posValid = true → (s.shaft k).pos < (s.geometry k).L
  loaded : s.inPlace = false → ∀ k < 2, s.shaftEnabled k = false ∧ (s.shaft k).posValid = false

/-- The sounders follow their zones (R119, R120, R126, R127): every SOUNDER record in use, and no other, has an arbiter; its
service is the one its zone's state gives; EVACUATING has CONTINUOUS in force, ARBITRATING never, SILENT nothing at all. A
part without its tables has no arbiter. -/
structure State.SoundersFollow (s : State) : Prop where
  loaded : s.inPlace = false → ∀ i < 96, s.arbiter i = none
  being : ∀ i < 96, (s.arbiter i).isSome = (s.station i).any fun c => decide (c.role = .sounder)
  service : ∀ i < 96, ∀ a, s.arbiter i = some a → a.service = s.serviceFor i
  pattern : ∀ i < 96, ∀ a, s.arbiter i = some a →
    (a.service = .evacuating ↔ a.inForce = .continuous) ∧ (a.service = .silent → a.inForce = .none)

/-- The interlock of shafts and shutters (R19): while a shaft's PERMIT is on, every shutter across it is OPEN, RELEASE_WAIT or
ISOLATED, and the store is not CLOSED. The other parts are what this rests on; that a shutter at rest has no command in force
is notes/assumptions/23.md's. -/
structure State.Interlocked (s : State) : Prop where
  outputs : s.outputsOk
  disabled : ∀ k < 2, s.shaftEnabled k = false → (s.shaft k).state = .idle
  loaded : s.inPlace = false → (∀ k < 2, s.shaftEnabled k = false) ∧ ∀ i < 32, (s.shutterLive i).state = .unknown
  zoned : ∀ i c, s.shutter i = some c → c.zone < 16
  waits : ∀ i c, s.shutter i = some c → (s.shutterLive i).state ∈ [ShutterState.releaseWait, .warning] →
    (s.zone c.zone).state ∈ [ZoneState.alarm, .silenced]
  warned : ∀ i < 32, (s.shutterLive i).warning ≠ none → (s.shutterLive i).state = .warning
  rest : ∀ i < 32, (s.shutterLive i).state ∈ [ShutterState.open, .releaseWait, .warning, .isolated] →
    (s.shutterLive i).command = none
  closed : s.day.mode = .closed → ∀ k < 2, (s.shaft k).permit = false
  shutters : ∀ k < 2, (s.shaft k).permit = true → ∀ i ∈ s.shaftShutters k,
    (s.shutterLive i).state ∈ [ShutterState.open, .releaseWait, .isolated]

end Sys2Proof.Machine
end

