-- ==== Sys2Proof/Certificates/Slice0/Obligations.lean ====
section
/-! DEFINITION. The statements about the model, one definition each; OBLIGATIONS.json lists them in this order. A statement
about a request takes `Accepted s want object r`: the head `r` of the intake queue is a request, naming the object in byte 3,
that reaches its table or order; `s₁` is then the state in which the Station Table has heard the frame and the frame has left the queue. -/

open Sys2Proof Sys2Proof.Machine

/-- The front command runs, with the rest of the queue left waiting: the model's queue, which no rule of the data book
names. -/
def Obligations.StepRunsFrontCommand : Prop :=
  ∀ (c : Instr) (s : State), step { s with pending := c :: s.pending } = exec c s

/-- With no command waiting a step is one bit time: the moment moves on by 1 µs, and while the crystal runs the tick
divider counts the crystal cycles of that time, up to the present period; nothing else changes (the model's choice:
notes/assumptions/3.md and 4.md). (R1, R132) -/
def Obligations.IdleStepIsOneBitTime : Prop :=
  ∀ s : State, s.pending = [] → ∃ t, step s = .next t ∧ t.now = s.now + 1 ∧ ChangesOnly [.now] s t ∧
    t.clock = { s.clock with divider := t.clock.divider } ∧ s.clock.divider ≤ t.clock.divider ∧
    (s.clock.running = false → t.clock = s.clock) ∧
    (s.clock.running = true → s.clock.divider ≤ s.clock.period → t.clock.divider =
      min s.clock.period (s.clock.divider + (Config.crystalCycles (s.now + 1) - Config.crystalCycles s.now)))

/-- Every command but BLOCK_MOMENT has a next state from every state. A BLOCK_MOMENT of a channel that does not play
leaves the state as it is; one of a playing channel has a next state just when the samples of the phrase lie in the
phrase store, a finished pass of EVAC being followed by the next; else it stops at the address that does not exist
(the model's choice: notes/assumptions/35.md). (R148, R152) -/
def Obligations.EveryCommandCompletes : Prop :=
  (∀ (c : Instr) (s : State), (∀ ch, c ≠ .blockMoment ch) → ∃ t, exec c s = .next t) ∧
  ∀ s : State,
    ((∀ p, s.playback.evac = some p → p.clock = none) → exec (.blockMoment .evac) s = .next s) ∧
    ((∀ p, s.playback.stored = some p → p.clock = none) → exec (.blockMoment .stored) s = .next s) ∧
    (∀ (p : EvacPlay) (e : Nat) (c : Cursor), s.playback.evac = some p → p.clock = some e →
      c = (if p.cursor.entry.count ≤ p.cursor.sample then s.evacPass else p.cursor) →
      (c.entry.start + 2 * c.entry.count ≤ 8388608 → ∃ t, exec (.blockMoment .evac) s = .next t) ∧
      (8388608 < c.entry.start + 2 * c.entry.count → exec (.blockMoment .evac) s = .fault .phraseStoreAddress)) ∧
    ∀ (p : StoredPlay) (e : Nat), s.playback.stored = some p → p.clock = some e →
      (p.cursor.entry.start + 2 * p.cursor.entry.count ≤ 8388608 → ∃ t, exec (.blockMoment .stored) s = .next t) ∧
      (8388608 < p.cursor.entry.start + 2 * p.cursor.entry.count →
        exec (.blockMoment .stored) s = .fault .phraseStoreAddress)

/-- Every step keeps the phrase store in its canonical form: addresses strictly rising, no erased byte listed. (R148,
R191) -/
def Obligations.StepKeepsPhraseStoreForm : Prop :=
  ∀ s t : State, s.store.wf = true → step s = .next t → t.store.wf = true

/-- State that no ordinary command touches: the phrase store changes only at the end of a programming or when a reset
cuts one short; the loaded tables only by a SETUP, a power-on, a reset pin or the autoload; the settings EEPROM only
by a save; the phrase lock only by LOCK_PHRASES, a power-on or a reset pin. (R187, R188, R189, R190, R191) -/
def Obligations.PersistentStateHasOwners : Prop :=
  ∀ (c : Instr) (s t : State), exec c s = .next t →
    (t.store = s.store ∨ c = .powerOn ∨ c = .resetPin ∨ ∃ r, c = .phraseWriteEnd r) ∧
    (t.tables = s.tables ∨ c = .powerOn ∨ c = .resetPin ∨ (∃ a, c = .autoloadEnd a) ∨ (∃ i w, c = .setupStation i w) ∨
      (∃ i w, c = .setupPoint i w) ∨ (∃ i f, c = .setupZone i f) ∨ (∃ i w, c = .setupShutter i w) ∨
      (∃ i w, c = .setupRoute i w) ∨ (∃ i f, c = .setupShaft i f) ∨ (∃ k i w, c = .setupSill k i w) ∨
      (∃ i w, c = .setupSchedule i w) ∨ (∃ i f, c = .setupPort i f) ∨ (∃ i w, c = .setupGlobal i w)) ∧
    (t.settings.eeprom = s.settings.eeprom ∨ c = .saveSettings ∨ ∃ r, c = .saveEnd r) ∧
    (t.settings.locked = s.settings.locked ∨ c = .powerOn ∨ c = .resetPin ∨ c = .lockPhrases)

/-- A forward count in IDLE, HOMING, RUNNING, STOPPING or TRIPPED moves P and is counted in the window, and does
nothing else. A forward count in CLEARING is counted in the remaining distance; at s_c or less the brake drops. A
forward count in LAST_RUN is counted in the advance count; when the full circuit is done the shaft starts a clear stop
for a PARK request. (R20, R23, R27, R47) -/
def Obligations.ForwardCountsMoveTheChain : Prop :=
  (∀ (k : Nat) (s : State), k < 2 → s.shaftEnabled k = true →
    (s.shaft k).state ∈ [ShaftState.idle, .homing, .running, .stopping, .tripped] →
    exec (.forwardCount k) s = .next (s.modShaft k fun x => { x with
      pos := if x.posValid then (x.pos + 1) % (s.geometry k).L else x.pos
      windowCount := x.windowCount + 1, windowMoved := true, standstill := 0 })) ∧
  (∀ (k d : Nat) (s : State), k < 2 → s.shaftEnabled k = true → (s.shaft k).state = .clearing →
    (s.shaft k).remaining = some d → ∃ t, exec (.forwardCount k) s = .next t ∧ ChangesOnly [.shafts, .net] s t ∧
    (t.shaft k).pos = (if (s.shaft k).posValid then ((s.shaft k).pos + 1) % (s.geometry k).L else (s.shaft k).pos) ∧
    (t.shaft k).windowCount = (s.shaft k).windowCount + 1 ∧ (t.shaft k).standstill = 0 ∧
    (if d - 1 ≤ (s.geometry k).sc then
      (t.shaft k).state = .stopping ∧ (t.shaft k).permit = false ∧ (t.shaft k).creep = false ∧
        (t.shaft k).brake = true ∧ (t.shaft k).remaining = none
    else (t.shaft k).state = .clearing ∧ (t.shaft k).remaining = some (d - 1) ∧ t.net = s.net) ∧
    ∀ j, j ≠ k → t.shaft j = s.shaft j) ∧
  (∀ (k n : Nat) (s : State), k < 2 → s.shaftEnabled k = true → (s.shaft k).state = .lastRun →
    (s.shaft k).advance = some n → ∃ t, exec (.forwardCount k) s = .next t ∧ ChangesOnly [.shafts, .shutters, .net] s t ∧
    (if n + 1 < (s.geometry k).L then
      t = s.modShaft k fun x => { x with
        pos := if x.posValid then (x.pos + 1) % (s.geometry k).L else x.pos
        windowCount := x.windowCount + 1, windowMoved := true, standstill := 0, advance := some (n + 1) }
    else (t.shaft k).park.isSome = true ∧ (t.shaft k).advance = none ∧ (t.shaft k).reapproach = 0 ∧
      (t.shaft k).clearSet = s.sills k ∧
      ((t.shaft k).state = .clearing ∧ (t.shaft k).remaining.isSome = true ∨
        (t.shaft k).state = .stopping ∧ (t.shaft k).brake = true ∧ (t.shaft k).permit = false)))

/-- A backward count in every moving or braked state but IDLE and TRIPPED trips the shaft REVERSE, after it has been
applied to the position; the other shaft is untouched but for its lamps. A backward count in IDLE is a settling count;
the fifth trips REVERSE. In TRIPPED it moves P and nothing else. (R21, R30) -/
def Obligations.BackwardCountsSettleOrTrip : Prop :=
  (∀ (k : Nat) (s : State), k < 2 → s.shaftEnabled k = true →
    (s.shaft k).state ∈ [ShaftState.homing, .running, .lastRun, .clearing, .stopping, .held] →
    ∃ t, exec (.backwardCount k) s = .next t ∧ (t.shaft k).latched .reverse ∧
    (t.shaft k).posValid = (s.shaft k).posValid ∧
    (t.shaft k).pos = (if (s.shaft k).posValid then subMod (s.shaft k).pos 1 (s.geometry k).L else (s.shaft k).pos) ∧
    (t.shaft k).windowCount = (s.shaft k).windowCount ∧ (t.shaft k).standstill = 0 ∧
    (∀ j, j ≠ k → (t.shaft j).core = (s.shaft j).core) ∧
    ChangesOnly [.shafts, .shutters, .calls, .arbiters, .day, .net, .tokens] s t) ∧
  (∀ (k : Nat) (s : State), k < 2 → s.shaftEnabled k = true →
    ((s.shaft k).state = .tripped → exec (.backwardCount k) s = .next (s.modShaft k fun x => { x with
      pos := if x.posValid then subMod x.pos 1 (s.geometry k).L else x.pos, windowMoved := true, standstill := 0 })) ∧
    ((s.shaft k).state = .idle → (s.shaft k).settling < 4 → exec (.backwardCount k) s = .next (s.modShaft k fun x =>
      { x with pos := if x.posValid then subMod x.pos 1 (s.geometry k).L else x.pos, windowMoved := true, standstill := 0
               settling := x.settling + 1 })) ∧
    ((s.shaft k).state = .idle → 4 ≤ (s.shaft k).settling → ∃ t, exec (.backwardCount k) s = .next t ∧
      (t.shaft k).latched .reverse ∧ (∀ j, j ≠ k → (t.shaft j).core = (s.shaft j).core) ∧
      ChangesOnly [.shafts, .shutters, .calls, .arbiters, .day, .net, .tokens] s t))

/-- A home mark sets an INVALID position, corrects one within the slip tolerance, and makes one beyond it INVALID with
a trip SLIP; in HOMING it starts passenger service. (R22, R25, R26, R30) -/
def Obligations.HomeMarkSetsOrTripsSlip : Prop :=
  ∀ (k : Nat) (s : State), k < 2 → s.shaftEnabled k = true →
    ((s.shaft k).state ∈ [ShaftState.idle, .running, .lastRun, .clearing, .stopping, .tripped] →
      ((s.shaft k).posValid = false ∨
        min (subMod (s.shaft k).pos (s.geometry k).H (s.geometry k).L)
          ((s.geometry k).L - subMod (s.shaft k).pos (s.geometry k).H (s.geometry k).L) ≤ (s.geometry k).slip) →
      exec (.homeMark k) s = .next (s.modShaft k fun x => { x with pos := (s.geometry k).H, posValid := true })) ∧
    ((s.shaft k).state ≠ .tripped → (s.shaft k).posValid = true →
      (s.geometry k).slip < min (subMod (s.shaft k).pos (s.geometry k).H (s.geometry k).L)
          ((s.geometry k).L - subMod (s.shaft k).pos (s.geometry k).H (s.geometry k).L) →
      ∃ t, exec (.homeMark k) s = .next t ∧ (t.shaft k).latched .slip ∧ (t.shaft k).posValid = false ∧
        (∀ j, j ≠ k → (t.shaft j).core = (s.shaft j).core) ∧
        ChangesOnly [.shafts, .shutters, .calls, .arbiters, .day, .net, .tokens] s t) ∧
    ((s.shaft k).state = .homing → (s.shaft k).posValid = false → s.day.mode ≠ .lastCall →
      ∃ t, exec (.homeMark k) s = .next t ∧ (t.shaft k).state = .running ∧ (t.shaft k).pos = (s.geometry k).H ∧
        (t.shaft k).posValid = true ∧ (t.shaft k).homeTimer = none ∧ (t.shaft k).permit = true ∧
        (t.shaft k).brake = false ∧ (t.shaft k).creep = (t.shaft k).degraded ∧
        (∀ j, j ≠ k → (t.shaft j).core = (s.shaft j).core) ∧ ChangesOnly [.shafts, .shutters, .net] s t)

/-- The end of a speed window measures the speed, trips OVERSPEED above Vmax, counts an empty window toward
standstill, and starts the next window; the windows of a disabled shaft run on, and neither trip nor act on its
standstill. The standstill check of a STOPPING shaft: it is HELD as CLEAR where its set is empty or its VALID
position's phase is not forbidden; a forbidden phase gives at most two re-approaches of one clear stop, each to a free
phase, and else HELD as UNCLEAR, as an INVALID position does. That a shaft whose count stands at 3 already has this
check again at its next empty window is the model's choice (notes/assumptions/25.md). A count in HELD is judged at
once: with the standing evaluation as it was nothing more happens; a changed one becomes the outcome, is told to the
zones of the set, and requests a SHAFT_HELD notice. That a shaft entering HELD with no sill in its set but PARK set has
the reason of PARK's origin, and not its stop reason, is the model's choice (notes/assumptions/46.md). (R23, R30, R29, R41, R42, R49, R50, R53, R83) -/
def Obligations.SpeedWindowMeasuresAndGuards : Prop :=
  (∀ (k e : Nat) (s : State), k < 2 → (s.shaft k).windowEnd = some e →
    (s.shaftEnabled k = true → ∃ t, exec (.speedWindowEnd k) s = .next t ∧ t.now = max s.now e ∧
      (t.shaft k).windowEnd = some (e + 100000) ∧ (t.shaft k).windowCount = 0 ∧ (t.shaft k).windowMoved = false ∧
      (t.shaft k).speed = min ((s.shaft k).windowCount * 10) 4000 ∧
      (t.shaft k).standstill =
        (if (s.shaft k).windowMoved then (s.shaft k).standstill else min 3 ((s.shaft k).standstill + 1)) ∧
      (t.shaft k).pos = (s.shaft k).pos ∧ (t.shaft k).posValid = (s.shaft k).posValid ∧
      (∀ j, j ≠ k → (t.shaft j).core = (s.shaft j).core) ∧
      ChangesOnly [.shafts, .shutters, .calls, .arbiters, .day, .net, .tokens, .now] s t ∧
      ((s.geometry k).Vmax < (s.shaft k).windowCount * 10 → (s.shaft k).state ≠ .tripped →
        (t.shaft k).latched .overspeed) ∧
      ((s.shaft k).state = .tripped → (t.shaft k).state = .tripped ∧ (t.shaft k).trip = (s.shaft k).trip)) ∧
    (s.shaftEnabled k = false → exec (.speedWindowEnd k) s = .next ((s.reach e).modShaft k fun x => { x with
      windowEnd := some (e + 100000), windowCount := 0, windowMoved := false, speed := min (x.windowCount * 10) 4000
      standstill := if x.windowMoved then x.standstill else min 3 (x.standstill + 1) }))) ∧
  (∀ (k e : Nat) (s : State), k < 2 → s.shaftEnabled k = true → (s.shaft k).windowEnd = some e →
    (s.shaft k).windowMoved = false → (s.shaft k).windowCount = 0 → 2 ≤ (s.shaft k).standstill →
    (s.shaft k).state = .stopping → ∃ t, exec (.speedWindowEnd k) s = .next t ∧ (t.shaft k).standstill = 3 ∧
    (∀ o, (o = .clear ∧ ((s.shaft k).clearSet = [] ∨ (s.shaft k).posValid = true ∧
          (s.geometry k).forbidden (s.shaft k).clearSet ((s.shaft k).pos % (s.geometry k).pitch) = false)) ∨
        (o = .unclear ∧ (s.shaft k).clearSet ≠ [] ∧ (s.shaft k).posValid = false) ∨
        (o = .unclear ∧ (s.shaft k).clearSet ≠ [] ∧
          (s.geometry k).forbidden (s.shaft k).clearSet ((s.shaft k).pos % (s.geometry k).pitch) = true ∧
          (2 ≤ (s.shaft k).reapproach ∨ (s.shaft k).bar = true ∨ s.day.mode = .closed ∨ (s.shaft k).ready = false ∨
            (s.shaft k).fault = true ∨ (∃ i ∈ s.shaftShutters k,
              (s.shutterLive i).state ∉ [ShutterState.open, .releaseWait, .isolated]) ∨
            ((s.geometry k).plan (s.shaft k).clearSet (s.shaft k).pos 0).target = none)) →
      (t.shaft k).state = .held ∧ (t.shaft k).outcome = some o ∧ (t.shaft k).permit = false ∧
        (t.shaft k).brake = true ∧ (t.shaft k).reapproach = (s.shaft k).reapproach ∧
        (t.shaft k).heldReason = (s.shaft k).requestReason.or (s.shaft k).stopReason ∧
        t.net.mgmt.sticky.getLsbD 15 = true ∧
        ∀ i c, s.shutter i = some c → i ∈ s.shaftShutters k → (s.shaft k).zoneFlags.getLsbD c.zone = true →
          (s.shutterLive i).state = .releaseWait → (t.shutterLive i).clearance = none ∧
          (o = .clear → (t.shutterLive i).state = .descending ∧ (t.shutterLive i).command = some .release) ∧
          (o = .unclear → (t.shutterLive i).state = .warning ∧
            (t.shutterLive i).warning = some (max s.now e + 1000000 * (s.zoneCfg c.zone).warningTime))) ∧
    (∀ p, (s.shaft k).clearSet ≠ [] → (s.shaft k).posValid = true →
      (s.geometry k).forbidden (s.shaft k).clearSet ((s.shaft k).pos % (s.geometry k).pitch) = true →
      (s.shaft k).reapproach < 2 → (s.shaft k).bar = false → s.day.mode ≠ .closed → (s.shaft k).ready = true →
      (s.shaft k).fault = false →
      (∀ i ∈ s.shaftShutters k, (s.shutterLive i).state ∈ [ShutterState.open, .releaseWait, .isolated]) →
      ((s.geometry k).plan (s.shaft k).clearSet (s.shaft k).pos 0).target = some p →
      (t.shaft k).reapproach = (s.shaft k).reapproach + 1 ∧ (t.shaft k).outcome = none ∧
        (t.shaft k).reapproaches = bump (s.shaft k).reapproaches ∧
        (∀ i, t.shutterLive i = s.shutterLive i) ∧ ChangesOnly [.shafts, .net, .now] s t ∧
        ((s.geometry k).sc < p.distance → s.day.overdue = false → (t.shaft k).state = .clearing ∧
          (t.shaft k).permit = true ∧ (t.shaft k).creep = true ∧ (t.shaft k).brake = false ∧
          (t.shaft k).remaining = some p.distance) ∧
        (p.distance ≤ (s.geometry k).sc → (t.shaft k).state = .stopping ∧ (t.shaft k).brake = true))) ∧
  (∀ (k : Nat) (s u : State), k < 2 → s.shaftEnabled k = true → (s.shaft k).state = .held →
    u = (s.modShaft k fun x => { x with
      pos := if x.posValid then (x.pos + 1) % (s.geometry k).L else x.pos
      windowCount := x.windowCount + 1, windowMoved := true, standstill := 0 }) →
    ((s.shaft k).outcome = some (u.standingEval k) → exec (.forwardCount k) s = .next u) ∧
    ((s.shaft k).outcome ≠ some (u.standingEval k) → ∃ t, exec (.forwardCount k) s = .next t ∧
      (t.shaft k).state = .held ∧ (t.shaft k).outcome = some (u.standingEval k) ∧
      (t.shaft k).heldReason = (s.shaft k).heldReason ∧ (t.shaft k).pos = (u.shaft k).pos ∧
      t.net.mgmt.sticky.getLsbD 15 = true ∧ ChangesOnly [.shafts, .shutters, .net] s t ∧
      ∀ i c, s.shutter i = some c → i ∈ s.shaftShutters k → (s.shaft k).zoneFlags.getLsbD c.zone = true →
        ((s.shutterLive i).state ∈ [ShutterState.releaseWait, .warning] → u.standingEval k = .clear →
          (t.shutterLive i).state = .descending ∧ (t.shutterLive i).command = some .release) ∧
        ((s.shutterLive i).state = .releaseWait → u.standingEval k = .unclear → (t.shutterLive i).state = .warning)))

/-- The drive inputs of an enabled shaft: FAULT trips it in every state but TRIPPED, READY lost only while PERMIT is
on; the other changes are only noted. The home timer's expiry in HOMING trips HOME_TIMEOUT, and the position stays
INVALID. (R25, R30, R31) -/
def Obligations.DriveInputsAndHomeTimerTrip : Prop :=
  (∀ (k : Nat) (s : State), k < 2 → s.shaftEnabled k = true →
    exec (.readyGained k) s = .next (s.modShaft k fun x => { x with ready := true }) ∧
    exec (.faultCleared k) s = .next (s.modShaft k fun x => { x with fault := false }) ∧
    ((s.shaft k).permit = false → exec (.readyLost k) s = .next (s.modShaft k fun x => { x with ready := false })) ∧
    ((s.shaft k).permit = true → (s.shaft k).state ≠ .tripped →
      ∃ t, exec (.readyLost k) s = .next t ∧ (t.shaft k).latched .drive ∧ (t.shaft k).ready = false ∧
        (t.shaft k).pos = (s.shaft k).pos ∧ (∀ j, j ≠ k → (t.shaft j).core = (s.shaft j).core) ∧
        ChangesOnly [.shafts, .calls, .arbiters, .day, .net, .tokens] s t) ∧
    ((s.shaft k).state ≠ .tripped →
      ∃ t, exec (.faultRaised k) s = .next t ∧ (t.shaft k).latched .drive ∧ (t.shaft k).fault = true ∧
        (t.shaft k).pos = (s.shaft k).pos ∧ (t.shaft k).clearSet = (s.shaft k).clearSet ∧
        (t.shaft k).reapproach = (s.shaft k).reapproach ∧ (∀ j, j ≠ k → (t.shaft j).core = (s.shaft j).core) ∧
        ChangesOnly [.shafts, .calls, .arbiters, .day, .net, .tokens] s t)) ∧
  (∀ (k e : Nat) (s : State), k < 2 → s.shaftEnabled k = true → (s.shaft k).state = .homing →
    (s.shaft k).homeTimer = some e → ∃ t, exec (.homeTimeout k) s = .next t ∧ (t.shaft k).latched .homeTimeout ∧
    (t.shaft k).posValid = (s.shaft k).posValid ∧ t.now = max s.now e ∧
    ChangesOnly [.shafts, .calls, .arbiters, .day, .net, .tokens, .now] s t)

/-- A TRIPPED shaft that is enabled stays TRIPPED with its cause, whatever the command, until RESET_SHAFT, a write of
its geometry record (which may disable it) or a reset of the part: a power-on, the reset pin, or, with a RESTART
pending, its time limit or the sending of a frame. (R30, R36, R37, R17) -/
def Obligations.TripIsLatched : Prop :=
  ∀ (c : Instr) (s t : State) (k : Nat), k < 2 → s.shaftEnabled k = true → (s.shaft k).state = .tripped →
    exec c s = .next t →
    ((t.shaft k).state = .tripped ∧ (t.shaft k).trip = (s.shaft k).trip) ∨ c = .resetShaft k ∨
      (∃ f, c = .setupShaft k f) ∨ c = .powerOn ∨ c = .resetPin ∨
      s.settings.restart ≠ none ∧ (c = .restartTimeout ∨ ∃ p, c = .frameSent p)

/-- The target search of a plan: the distance found is the least one from the slowing distance plus s_c up, within one
pitch, at whose window no phase is forbidden; UNCLEARABLE means that no distance of the pitch is free. A phase is
forbidden just where a piece of a band that is held with the set covers it, and just where it lies in [S - Gb, S + Ga]
of a sill S of the set, or the same C counts on, modulo the pitch; a window is free just where no phase of [phase -
tol, phase + tol], modulo the pitch, is forbidden, the whole circle for a window of the pitch or more. Every piece
lies within the circle, and a sill gives at most four. (R40, R43, R44) -/
def Obligations.PlanFindsTheFirstFreePhase : Prop :=
  ∀ (g : Geometry) (set : List Sill) (pos v : Nat),
    (∀ p, (g.plan set pos v).target = some p →
      g.slowing v + g.sc ≤ p.distance ∧ p.distance < g.slowing v + g.sc + g.pitch ∧
      p.phase = (pos + p.distance) % g.pitch ∧ p.target = (pos + p.distance) % g.L ∧
      p.brakePoint = (pos + p.distance - g.sc) % g.L ∧ g.windowFree set p.phase = true ∧
      ∀ d, g.slowing v + g.sc ≤ d → d < p.distance → g.windowFree set ((pos + d) % g.pitch) = false) ∧
    ((g.plan set pos v).target = none →
      ∀ d, g.slowing v + g.sc ≤ d → d < g.slowing v + g.sc + g.pitch →
        g.windowFree set ((pos + d) % g.pitch) = false) ∧
    (∀ phase, phase < g.pitch →
      (g.forbidden set phase = true ↔ ∃ b ∈ g.bands set, b.1 ≤ phase ∧ phase ≤ b.2) ∧
      (g.forbidden set phase = true ↔ ∃ x ∈ set, ∃ i ≤ g.Gb + g.Ga,
        (phase + g.Gb) % g.pitch = (x.position + i) % g.pitch ∨
          (phase + g.Gb) % g.pitch = (x.position + g.C + i) % g.pitch) ∧
      (g.windowFree set phase = true ↔ ∀ j ≤ 2 * g.tol, ∀ φ < g.pitch,
        (φ + g.tol) % g.pitch = (phase + j) % g.pitch → g.forbidden set φ = false) ∧
      (g.pitch ≤ 2 * g.tol + 1 →
        (g.windowFree set phase = true ↔ ∀ φ < g.pitch, g.forbidden set φ = false))) ∧
    (0 < g.pitch → ∀ b ∈ g.bands set, b.1 ≤ b.2 ∧ b.2 < g.pitch) ∧ (g.bands set).length ≤ 4 * set.length

/-- A LANDING report is stored for its landing, and a pulled stop or a tripped sill trips the shaft, the stop before
the sill; a report of a station that is no landing station is only counted. That any byte but 0 reads as TRIPPED or
PULLED is the model's choice (notes/assumptions/16.md). A lamp refresh sends the landing's present lamp again, in the
SAFETY class to the landing station's home port, and the interval runs from it; nothing is sent while the station is
not PRESENT. (R30, R32, R33) -/
def Obligations.LandingReportsAndLamps : Prop :=
  (∀ (s s₁ : State) (r : Received) (a b : Byte) (i : Nat), Tapped s .landing r → s₁ = s.takeHead r →
    r.frame.payload = [a, b] → s₁.findStation r.frame.src = some i →
    (∀ k l, s₁.landingOf i = some (k, l) → k < 2 → l < 12 → s₁.shaftEnabled k = true →
      ∃ t : State, exec .landing s = .next t ∧
        (t.landingLive k l).sillTripped = decide (a ≠ 0#8) ∧ (t.landingLive k l).stopPulled = decide (b ≠ 0#8) ∧
        (b ≠ 0#8 → (s₁.shaft k).state ≠ .tripped → (t.shaft k).latched .landingStop) ∧
        (b = 0#8 → a ≠ 0#8 → (s₁.shaft k).state ≠ .tripped → (t.shaft k).latched .sillTrip) ∧
        ((s₁.shaft k).state = .tripped ∨ a = 0#8 ∧ b = 0#8 → (t.shaft k).core = (s₁.shaft k).core) ∧
        (∀ j, j ≠ k → (t.shaft j).core = (s₁.shaft j).core) ∧
        ChangesOnly [.shafts, .calls, .arbiters, .day, .net, .tokens] s₁ t) ∧
    (∀ k l, s₁.landingOf i = some (k, l) → s₁.shaftEnabled k = false →
      exec .landing s = .next (s₁.modShaft k fun x => { x with unmatchedLandings := bump x.unmatchedLandings })) ∧
    (s₁.landingOf i = none → exec .landing s = .next (s₁.modShaft 0 fun x =>
      { x with unmatchedLandings := bump x.unmatchedLandings }))) ∧
  (∀ (k l e i : Nat) (c : StationCfg) (s : State), k < 2 → l < 12 → s.shaftEnabled k = true →
    (s.landingLive k l).refresh = some e → s.landingStation k l = some i → s.station i = some c →
    ((s.stationLive i).presence = .present → ∃ t, exec (.lampRefresh k l) s = .next t ∧
      t.net = (((s.reach e).modLanding k l fun x => { x with refresh := some (max s.now e + 5000000) }).offer c.homePort .safety
        { dest := c.address, src := s.globals.own, kind := 0x19#8, payload := .raw (s.landingLive k l).lamp.payload }).net ∧
      (t.landingLive k l).refresh = some (max s.now e + 5000000) ∧ (t.landingLive k l).lamp = (s.landingLive k l).lamp ∧
      ChangesOnly [.shafts, .net, .now] s t ∧ ∀ j, (t.shaft j).core = (s.shaft j).core) ∧
    ((s.stationLive i).presence ≠ .present →
      exec (.lampRefresh k l) s = .next ((s.reach e).modLanding k l fun x => { x with refresh := none })))

/-- A BEAT of a known station refreshes its supervision, decides between PRESENT and MISMATCH by the role it carries,
and stores its abilities and its status; a frame away from the home port is counted; no other record changes. A change
to PRESENT is a regain, and one to MISMATCH from UNKNOWN or PRESENT a loss, handed to the job that reads stations of
the record's role: the panel's points, the drive's COMMS fault, the landing's lamp with DEGRADED, the annunciator's
records, the sounder's pending list, the speaker's zone and tuning (`State.RegainTold`, `State.LossTold`); any other
BEAT is told to no job. STATION_BACK, ROLE_MISMATCH and STATION_STATUS are requested where they apply. A BEAT whose
payload is not of 3 bytes is counted as a bad payload, whatever the presence of its sender, after the Station Table
has heard it as any other frame (the model's choice for the hearing: notes/assumptions/15.md). (R7, R8, R10, R12, R13,
R26, R60, R94, R112, R130, R151, R170) -/
def Obligations.BeatDecidesPresence : Prop :=
  (∀ (s : State) (r : Received) (i : Nat) (c : StationCfg) (role abil status : Byte),
    s.headFor .beat = some r → s.findStation r.frame.src = some i → s.station i = some c →
    r.frame.payload = [role, abil, status] → ∃ t, exec .beat s = .next t ∧
    t.stationLive i = { presence := if roleOfCode role.toNat = some c.role then .present else .mismatch
                        missed := 0, advertised := { chime := abil.getLsbD 0, fade := abil.getLsbD 1 }
                        lastStatus := some status
                        foreign := if r.port = c.homePort then (s.stationLive i).foreign else bump (s.stationLive i).foreign
                        supervision := if c.beatPeriod = 0 then none else some (s.now + 1500000 * c.beatPeriod) } ∧
    (∀ j, j ≠ i → t.stationLive j = s.stationLive j) ∧ t.exchange.intake = s.exchange.intake.drop 1 ∧
    (roleOfCode role.toNat = some c.role →
      ((s.stationLive i).presence ≠ .present → s.RegainTold t i c.role) ∧
      ((s.stationLive i).presence ∈ [Presence.missing, .mismatch] → t.net.mgmt.sticky.getLsbD 18 = true) ∧
      ((s.stationLive i).presence = .present → ChangesOnly [.stations, .net, .exchange] s t)) ∧
    (roleOfCode role.toNat ≠ some c.role →
      ((s.stationLive i).presence ∈ [Presence.unknown, .present] → s.LossTold t i c.role) ∧
      ((s.stationLive i).presence ≠ .mismatch → t.net.mgmt.sticky.getLsbD 7 = true) ∧
      ((s.stationLive i).presence ∈ [Presence.missing, .mismatch] → ChangesOnly [.stations, .net, .exchange] s t)) ∧
    (∀ b, (s.stationLive i).lastStatus = some b → b ≠ status → t.net.mgmt.sticky.getLsbD 17 = true) ∧
    ChangesOnly [.stations, .shafts, .points, .zones, .shutters, .calls, .arbiters, .playback, .net, .exchange, .tokens] s t) ∧
  (∀ (s : State) (r : Received), s.headFor .beat = some r → r.frame.payload.length ≠ 3 → ∃ t, exec .beat s = .next t ∧
    t.exchange.counters = { s.exchange.counters with badPayload := bump s.exchange.counters.badPayload } ∧
    t.exchange.intake = s.exchange.intake.drop 1 ∧ t.mismatchDrop = s.mismatchDrop ∧
    ∀ i c, s.findStation r.frame.src = some i → s.station i = some c → (t.stationLive i).missed = 0 ∧
      ((s.stationLive i).presence = .mismatch → (t.stationLive i).presence = .mismatch))

/-- A KEEP of a known station is consumed: it refreshes supervision and makes the station PRESENT unless it is
MISMATCH, which from UNKNOWN or MISSING is a regain handed to the job of its role (`State.RegainTold`). A tapped frame
of a MISMATCH station is dropped and counted, and no job sees it; a KEEP of an unknown source is counted and changes
no record. That the presence of the sender is judged before the length, so that a wrong-length frame of a MISMATCH
station counts as a mismatch-drop, is the model's choice (notes/assumptions/18.md). (R7, R9, R12, R13, R170) -/
def Obligations.FramesAreHeardOrDropped : Prop :=
  (∀ (s : State) (r : Received) (i : Nat) (c : StationCfg), s.headFor .keep = some r →
    s.findStation r.frame.src = some i → s.station i = some c → ∃ t, exec .keep s = .next t ∧
    t.stationLive i = { s.stationLive i with
      presence := if (s.stationLive i).presence = .mismatch then .mismatch else .present
      missed := 0
      foreign := if r.port = c.homePort then (s.stationLive i).foreign else bump (s.stationLive i).foreign
      supervision := if c.beatPeriod = 0 then none else some (s.now + 1500000 * c.beatPeriod) } ∧
    (∀ j, j ≠ i → t.stationLive j = s.stationLive j) ∧ t.exchange.intake = s.exchange.intake.drop 1 ∧
    ((s.stationLive i).presence ∈ [Presence.unknown, .missing] → s.RegainTold t i c.role) ∧
    ((s.stationLive i).presence = .missing → t.net.mgmt.sticky.getLsbD 18 = true) ∧
    ((s.stationLive i).presence ∈ [Presence.present, .mismatch] → ChangesOnly [.stations, .net, .exchange] s t) ∧
    ChangesOnly [.stations, .shafts, .points, .zones, .shutters, .calls, .arbiters, .playback, .net, .exchange, .tokens] s t) ∧
  ((∀ (c : Instr) (w : FrameStep) (s : State) (r : Received) (i : Nat),
    (c, w) ∈ [(.detect, .detect), (.shutstat, .shutstat), (.landing, .landing), (.callPress, .press),
      (.callCancel, .cancel), (.callAck, .ack), (.pageSamples, .samples)] →
    s.headFor w = some r → s.findStation r.frame.src = some i → (s.stationLive i).presence = .mismatch →
    ∃ t, exec c s = .next t ∧ t.mismatchDrop = bump s.mismatchDrop ∧ (t.stationLive i).presence = .mismatch ∧
      (t.stationLive i).missed = 0 ∧ ChangesOnly [.stations, .net, .exchange, .mismatchDrop] s t) ∧
  (∀ (s : State) (r : Received), s.headFor .keep = some r → s.findStation r.frame.src = none →
    ∃ t, exec .keep s = .next t ∧ t.unknownSource = bump s.unknownSource ∧
      ChangesOnly [.unknownSource, .net, .exchange] s t))

/-- A supervision expiry restarts the timer and counts a missed period; the third makes the station MISSING, whatever
it was before but MISSING, with STATION_LOST. From UNKNOWN or PRESENT that is a loss, handed to the job that reads
stations of the record's role: the panel's points, the drive's COMMS fault, the landing's lamp with DEGRADED, the
annunciator's records with their rings, the sounder's pending list, the speaker's zone (`State.LossTold`); from
MISMATCH no job is told. R10 says of a MISSING station that its count stays at 3: that a further period leaves the count
as it is, also below 3 after a change of BEAT period (R6), is the model's choice (notes/assumptions/24.md). (R10, R13, R26, R60, R94, R99, R112, R130, R157) -/
def Obligations.ThirdMissedPeriodLosesTheStation : Prop :=
  ∀ (i e : Nat) (c : StationCfg) (s : State), s.station i = some c → (s.stationLive i).supervision = some e →
    ∃ t, exec (.supervisionTimeout i) s = .next t ∧ t.now = max s.now e ∧
    t.stationLive i = { s.stationLive i with
      supervision := if c.beatPeriod = 0 then none else some (max s.now e + 1500000 * c.beatPeriod)
      missed := if (s.stationLive i).presence = .missing then (s.stationLive i).missed else (s.stationLive i).missed + 1
      presence := if (s.stationLive i).missed < 2 then (s.stationLive i).presence else .missing } ∧
    (∀ j, j ≠ i → t.stationLive j = s.stationLive j) ∧
    ChangesOnly [.stations, .shafts, .points, .zones, .shutters, .calls, .arbiters, .playback, .net, .tokens, .now] s t ∧
    (((s.stationLive i).missed < 2 ∨ (s.stationLive i).presence = .missing) → ChangesOnly [.stations, .now] s t) ∧
    (2 ≤ (s.stationLive i).missed → (s.stationLive i).presence ≠ .missing → t.net.mgmt.sticky.getLsbD 6 = true ∧
      ((s.stationLive i).presence ∈ [Presence.unknown, .present] → s.LossTold t i c.role) ∧
      ((s.stationLive i).presence = .mismatch → ChangesOnly [.stations, .net, .now] s t))

/-- A good frame on a port in UP joins the tail of the intake queue and restarts the port's watches; with the intake
queue full it is counted OVERRUN instead, and still counts for the port. A good frame takes a DOWN port to TRIAL with
count 1; in TRIAL each adds 1, and the third takes it UP. Of the frames heard before UP only KEEP and BEAT reach the
intake queue. (R166, R167, R168, R170) -/
def Obligations.GoodFramesActOnTheirPort : Prop :=
  (∀ (p : Nat) (line : LineEvent) (f : Frame) (s : State), p < 5 → s.inPlace = true → (s.port p).state = .up →
    (s.port p).judges = true → judgeLine line = .ok f → ∃ t, exec (.frameReceive p line) s = .next t ∧
    (s.exchange.intake.length < 16 →
      t.exchange = { s.exchange with intake := s.exchange.intake ++ [{ port := p, frame := f }] } ∧
      t.port p = { s.port p with
        badRun := 0, silence := some (s.now + 30000)
        counters := { (s.port p).counters with good := bump (s.port p).counters.good } }) ∧
    (16 ≤ s.exchange.intake.length → t.exchange = s.exchange ∧
      t.port p = { s.port p with
        badRun := 0, silence := some (s.now + 30000), sticky := { (s.port p).sticky with overrun := true }
        counters := { (s.port p).counters with
          good := bump (s.port p).counters.good, overrun := bump (s.port p).counters.overrun } }) ∧
    (∀ q, q ≠ p → t.port q = s.port q) ∧ t.net.mgmt = s.net.mgmt ∧ ChangesOnly [.net, .exchange] s t) ∧
  (∀ (p : Nat) (line : LineEvent) (f : Frame) (s : State), p < 5 → s.inPlace = true →
    (s.port p).judges = true → judgeLine line = .ok f → s.exchange.intake.length < 16 →
    (s.port p).state = .down ∨ (s.port p).state = .trial → ∃ t, exec (.frameReceive p line) s = .next t ∧
    ChangesOnly [.net, .exchange] s t ∧
    ((s.port p).state = .down → (t.port p).state = .trial ∧ (t.port p).trial = 1 ∧
      (t.port p).silence = some (s.now + 30000)) ∧
    ((s.port p).state = .trial → (s.port p).trial < 2 → (t.port p).state = .trial ∧
      (t.port p).trial = (s.port p).trial + 1 ∧ (t.port p).silence = some (s.now + 30000)) ∧
    ((s.port p).state = .trial → 2 ≤ (s.port p).trial → (t.port p).state = .up) ∧
    t.exchange.intake = s.exchange.intake ++
      (if f.kind = 0x01#8 ∨ f.kind = 0x02#8 then [{ port := p, frame := f }] else []) ∧
    (t.port p).counters.trialDiscarded =
      (if f.kind = 0x01#8 ∨ f.kind = 0x02#8 then (s.port p).counters.trialDiscarded
       else bump (s.port p).counters.trialDiscarded))

/-- A bad frame is counted and flagged by the first check that fails; in UP the sixth in a row takes the port DOWN
with its queues emptied, in TRIAL it sets the trial count to 0, in DOWN it has no other effect. 30 ms without a good
frame take a port DOWN: the frame in hand and the three queues go, each counted flushed, and the KEEP interval
restarts. That a KEEP in hand counts as flushed with the queues is the model's choice (R176, notes/assumptions/21.md).
(R166, R167, R168, R176, R177) -/
def Obligations.BadFramesAndSilenceTakeAPortDown : Prop :=
  (∀ (p : Nat) (line : LineEvent) (x : LineCheck) (s : State), p < 5 → s.inPlace = true →
    (s.port p).judges = true → judgeLine line = .error x → ∃ t, exec (.frameReceive p line) s = .next t ∧
    ChangesOnly [.net] s t ∧
    ((s.port p).state = .up → (s.port p).badRun < 5 → t.port p = { s.port p with
      badRun := (s.port p).badRun + 1
      counters := (s.port p).counters.count x, sticky := (s.port p).sticky.note x }) ∧
    ((s.port p).state = .up → 5 ≤ (s.port p).badRun →
      (t.port p).state = .down ∧ (t.port p).safety = [] ∧ (t.port p).stream = [] ∧ (t.port p).normal = [] ∧
      (t.port p).hand = none ∧ (t.port p).silence = none ∧ (t.port p).keepTimer = some (s.now + 10000)) ∧
    ((s.port p).state = .trial → t.port p = { s.port p with
      trial := 0, counters := (s.port p).counters.count x, sticky := (s.port p).sticky.note x }) ∧
    ((s.port p).state = .down → t.port p = { s.port p with
      counters := (s.port p).counters.count x, sticky := (s.port p).sticky.note x })) ∧
  (∀ (p e : Nat) (s : State), p < 5 → (s.port p).silence = some e →
    ∃ t, exec (.portSilenceTimeout p) s = .next t ∧ t.now = max s.now e ∧ ChangesOnly [.net, .now] s t ∧
    t.port p = { s.port p with
      state := .down, trial := 0, badRun := 0, silence := none, keepTimer := some (max s.now e + 10000), keepDue := false
      safety := [], stream := [], normal := [], hand := none
      counters := { (s.port p).counters with
        flushed := bumpBy ((s.port p).safety.length + (s.port p).stream.length + (s.port p).normal.length +
          (if (s.port p).hand.any fun h => decide (h.source = .keep) then 1 else 0)) (s.port p).counters.flushed } })

/-- The KEEP interval's end: a port in DOWN or TRIAL, or an idle one in UP, takes a KEEP in hand; one in UP with a
queued frame in hand keeps the KEEP due. The two events that move a frame in hand on: the end of the deferral, after
which the port sends, and the end of a backoff, after which it defers again. A queued frame sent leaves the head of
its queue, is counted, and restarts the KEEP interval. That a KEEP sent, which no queue holds, is counted sent too is the
model's choice (notes/assumptions/21.md). (R167, R168, R174, R175) -/
def Obligations.TheTransmitterTakesAndSends : Prop :=
  (∀ (p e : Nat) (s : State), p < 5 → (s.port p).keepTimer = some e →
    ∃ t, exec (.keepInterval p) s = .next t ∧ t.now = max s.now e ∧ ChangesOnly [.net, .now] s t ∧
    (∀ q, q ≠ p → t.port q = s.port q) ∧
    ((s.port p).state ≠ .loop → (s.port p).hand = none →
      t.port p = { s.port p with keepTimer := none, keepDue := false, hand := some { source := .keep } }) ∧
    (∀ h c, (s.port p).state = .up → (s.port p).hand = some h → h.source = .queue c →
      t.port p = { s.port p with keepTimer := none, keepDue := true })) ∧
  (∀ (p : Nat) (h : Hand) (s : State), p < 5 → (s.port p).hand = some h →
    (h.phase = .deferring → exec (.deferralEnd p) s =
      .next (s.modPort p fun x => { x with hand := some { h with phase := .sending } })) ∧
    (∀ n e, h.phase = .backoff n e → exec (.backoffEnd p) s =
      .next ((s.reach e).modPort p fun x => { x with hand := some { h with phase := .deferring } }))) ∧
  (∀ (p : Nat) (h : Hand) (f : TxFrame) (s : State), p < 4 → (s.port p).state = .up → (s.port p).hand = some h →
    h.phase = .sending → f.report = .none →
    (h.source = .keep → ∃ t, exec (.frameSent p) s = .next t ∧ (t.port p).safety = (s.port p).safety ∧
      (t.port p).stream = (s.port p).stream ∧ (t.port p).normal = (s.port p).normal ∧
      (t.port p).counters = { (s.port p).counters with sent := bump (s.port p).counters.sent } ∧
      (t.port p).keepTimer = some (s.now + 10000) ∧ ChangesOnly [.net] s t) ∧
    (∀ c, h.source = .queue c → (s.port p).headOf c = some f → ∃ t, exec (.frameSent p) s = .next t ∧
      ChangesOnly [.net] s t ∧
      (t.port p).safety = (if c = .safety then (s.port p).safety.drop 1 else (s.port p).safety) ∧
      (t.port p).stream = (if c = .stream then (s.port p).stream.drop 1 else (s.port p).stream) ∧
      (t.port p).normal = (if c = .normal then (s.port p).normal.drop 1 else (s.port p).normal) ∧
      (t.port p).counters = { (s.port p).counters with sent := bump (s.port p).counters.sent } ∧
      (t.port p).keepTimer = some (s.now + 10000) ∧
      (t.port p).hand = (if (s.port p).keepDue then some { source := .keep }
        else if (t.port p).safety ≠ [] then some { source := .queue .safety }
        else if (t.port p).stream ≠ [] then some { source := .queue .stream }
        else if (t.port p).normal ≠ [] then some { source := .queue .normal } else none)))

/-- An early clash: below the twelfth attempt the frame stays at its queue's head and waits r slots of 128 bit times
after the jam, r below 2^k; the twelfth abandons it; a KEEP is abandoned at once. A late clash abandons the frame at
once, counts and flags it; a frame of fewer than 24 bytes cannot clash late. That LATE_CLASH of such a frame changes
nothing (notes/assumptions/21.md), and that a REPLY or a NOTICE counts as one of 24 bytes or more
(notes/assumptions/11.md), is the model's choice. (R175, R176) -/
def Obligations.ClashesBackOffOrAbandon : Prop :=
  (∀ (p : Nat) (h : Hand) (s : State), p < 5 → (s.port p).hand = some h → h.phase = .sending →
    (∀ c, h.source = .queue c → h.attempts < 11 → ∃ t r, exec (.earlyClash p) s = .next t ∧
      r < 2 ^ min (h.attempts + 1) (if c = .safety then 3 else 6) ∧
      t.port p = { s.port p with
        hand := some { h with attempts := h.attempts + 1, phase := .backoff r (s.now + 32 + r * 128) }
        counters := { (s.port p).counters with clash := bump (s.port p).counters.clash } } ∧
      ChangesOnly [.net, .draws] s t) ∧
    (∀ c, h.source = .queue c → 11 ≤ h.attempts → p ≠ 4 → ∃ t, exec (.earlyClash p) s = .next t ∧
      (t.port p).safety = (if c = .safety then (s.port p).safety.drop 1 else (s.port p).safety) ∧
      (t.port p).stream = (if c = .stream then (s.port p).stream.drop 1 else (s.port p).stream) ∧
      (t.port p).normal = (if c = .normal then (s.port p).normal.drop 1 else (s.port p).normal) ∧
      (t.port p).counters = { (s.port p).counters with
        clash := bump (s.port p).counters.clash, abandoned := bump (s.port p).counters.abandoned } ∧
      ChangesOnly [.net] s t) ∧
    (h.source = .keep → ∃ t, exec (.earlyClash p) s = .next t ∧
      (t.port p).keepTimer = some (s.now + 32 + 10000) ∧ (t.port p).safety = (s.port p).safety ∧
      (t.port p).stream = (s.port p).stream ∧ (t.port p).normal = (s.port p).normal ∧ ChangesOnly [.net] s t)) ∧
  (∀ (p : Nat) (h : Hand) (c : QueueClass) (f : TxFrame) (s : State), p < 4 → (s.port p).hand = some h →
    h.phase = .sending → h.source = .queue c → (s.port p).headOf c = some f →
    (f.short = true → exec (.lateClash p) s = .next s) ∧
    (f.short = false → ∃ t, exec (.lateClash p) s = .next t ∧ ChangesOnly [.net] s t ∧
      (t.port p).safety = (if c = .safety then (s.port p).safety.drop 1 else (s.port p).safety) ∧
      (t.port p).stream = (if c = .stream then (s.port p).stream.drop 1 else (s.port p).stream) ∧
      (t.port p).normal = (if c = .normal then (s.port p).normal.drop 1 else (s.port p).normal) ∧
      (t.port p).counters = { (s.port p).counters with lateClash := bump (s.port p).counters.lateClash } ∧
      (t.port p).sticky = { (s.port p).sticky with lateClash := true }))

/-- A frame for one station leaves unchanged for that station's home port, in the STREAM class for samples and in
NORMAL for any other, or is counted: unknown destination, same port, or port not UP; a copy that a full NORMAL queue
refuses leaves for no port and is counted refused only, not as forwarded (the model's choice:
notes/assumptions/31.md). `s₁` is the state in which the Station Table has taken the frame. A group frame goes to
every UP port but its arrival port whose filter passes the address, FFFFh passing every filter, and is counted once if
it leaves for at least one port. In the same-port case and in the group case the arrival port is the one on which the
frame really arrived, where R12 takes it as if it had arrived on its sender's home port: the model's choice, the first
of notes/assumptions/42.md. A frame whose home port is both its arrival port and not UP is counted in same-port only: the
model's choice (notes/assumptions/45.md). (R170, R171, R172, R173) -/
def Obligations.ForwardingFollowsTheDestination : Prop :=
  (∀ (s s₁ : State) (r : Received) (x : TxFrame), s.headFor .forward = some r → s₁ = s.takeHead r →
    r.frame.dest.msb = false →
    x = { dest := r.frame.dest, src := r.frame.src, kind := r.frame.kind, payload := .raw r.frame.payload } →
    ((s₁.findStation r.frame.dest).bind s₁.station = none → exec .forward s = .next (s₁.countExchange fun c =>
      { c with unknownDestination := bump c.unknownDestination })) ∧
    (∀ c, (s₁.findStation r.frame.dest).bind s₁.station = some c →
      (c.homePort = r.port → exec .forward s = .next (s₁.countExchange fun c => { c with samePort := bump c.samePort })) ∧
      (c.homePort ≠ r.port → (s₁.port c.homePort).state ≠ .up →
        exec .forward s = .next (s₁.countExchange fun c => { c with notUp := bump c.notUp })) ∧
      (c.homePort ≠ r.port → c.homePort < 5 → (s₁.port c.homePort).state = .up →
        ((r.frame.kind ≠ 0x30#8 ∧ (s₁.port c.homePort).normal.length < 16) ∨
          (r.frame.kind = 0x30#8 ∧ (s₁.port c.homePort).stream.length < 4) → ∃ t, exec .forward s = .next t ∧
          (t.port c.homePort).normal = (s₁.port c.homePort).normal ++ (if r.frame.kind = 0x30#8 then [] else [x]) ∧
          (t.port c.homePort).stream = (s₁.port c.homePort).stream ++ (if r.frame.kind = 0x30#8 then [x] else []) ∧
          t.exchange.counters = { s₁.exchange.counters with forwarded := bump s₁.exchange.counters.forwarded } ∧
          t.exchange.intake = s₁.exchange.intake ∧ (∀ q, q ≠ c.homePort → t.port q = s₁.port q) ∧
          ChangesOnly [.net, .exchange] s₁ t) ∧
        (r.frame.kind ≠ 0x30#8 → 16 ≤ (s₁.port c.homePort).normal.length →
          exec .forward s = .next (s₁.modPort c.homePort fun p => { p with
            counters := { p.counters with refusedNormal := bump p.counters.refusedNormal } }))))) ∧
  (∀ (s s₁ : State) (r : Received) (x : TxFrame) (goes : Nat → Prop), s.headFor .forward = some r → s₁ = s.takeHead r →
    r.frame.dest.msb = true →
    x = { dest := r.frame.dest, src := r.frame.src, kind := r.frame.kind, payload := .raw r.frame.payload } →
    (∀ p, goes p ↔ p < 5 ∧ p ≠ r.port ∧ (s₁.port p).state = .up ∧
      (r.frame.dest = 0xFFFF#16 ∨ (s₁.tables.ports.getD p {}).filter.getLsbD
        (((r.frame.dest.extractLsb' 8 8).toNat + (r.frame.dest.extractLsb' 0 8).toNat) % 64) = true)) →
    (∀ p < 5, if r.frame.kind = 0x30#8 then (s₁.port p).stream.length < 4 else (s₁.port p).normal.length < 16) →
    ∃ t, exec .forward s = .next t ∧ ChangesOnly [.net, .exchange] s₁ t ∧
    ((∀ p < 5, ¬ goes p) → t = s₁) ∧
    ((∃ p < 5, goes p) → t.exchange =
      { s₁.exchange with counters := { s₁.exchange.counters with forwarded := bump s₁.exchange.counters.forwarded } }) ∧
    ∀ p < 5, (¬ goes p → t.port p = s₁.port p) ∧
      (goes p → (t.port p).normal = (s₁.port p).normal ++ (if r.frame.kind = 0x30#8 then [] else [x]) ∧
        (t.port p).stream = (s₁.port p).stream ++ (if r.frame.kind = 0x30#8 then [x] else [])))

/-- A power-on or a reset pin puts every live state at its starting value, with the default tables and the phrase lock
clear; the reset pin keeps the Store Clock (less a pending step) and the last-fired stamps, a power-on loses both; the
EEPROM, the drive inputs and, with no programming cut short, the phrase store are kept. The model's choices: how the
phrase directory reads until the autoload (notes/assumptions/8.md and 38.md), the length of
the period and the trim direction after a power-on (notes/assumptions/10.md), what becomes of the stamps of free
indices (notes/assumptions/26.md), and that the image state and the drive inputs are kept (notes/assumptions/33.md). RESTART is BUSY during a save or a phrase write; else it is pending until its REPLY
has been sent or 100 ms have passed. Then every live state takes its value after a restart: the call table, the
queues, the ports, the playback channels and the Management Unit as they start, the stations UNKNOWN with their
supervision running, the zones and shutters as the stored isolated flags say, an arbiter for each sounder, the shafts
IDLE and safe, an enabled one with FAULT raised being TRIPPED with cause DRIVE at once. The tables, the clock, the
stamps and the lock are kept, and, by the model's choice, the image state and the drive inputs
(notes/assumptions/33.md). `s₀` is the part at the moment of the restart. (R14, R37, R132, R137, R164, R177, R188,
R190, R192) -/
def Obligations.ResetsKeepWhatTheyKeep : Prop :=
  (∀ s : State,
    (∃ t, exec .powerOn s = .next t ∧
      t = { State.reset with
        shafts := t.shafts, settings := t.settings, store := t.store
        pending := s.pending, now := s.now, draws := t.draws, tokens := s.tokens } ∧
      (∀ k < 2, t.shaft k = { ready := (s.shaft k).ready, fault := (s.shaft k).fault }) ∧
      t.settings = { image := s.settings.image, eeprom := s.settings.eeprom } ∧
      (s.settings.writing = none → t.store = s.store)) ∧
    (∃ t, exec .resetPin s = .next t ∧
      t = { State.reset with
        shafts := t.shafts, settings := t.settings, store := t.store
        clock := { s.clock with step := none }, day := { stamps := s.day.stamps }
        pending := s.pending, now := s.now, draws := t.draws, tokens := s.tokens } ∧
      (∀ k < 2, t.shaft k = { ready := (s.shaft k).ready, fault := (s.shaft k).fault }) ∧
      t.settings = { image := s.settings.image, eeprom := s.settings.eeprom } ∧
      (s.settings.writing = none → t.store = s.store))) ∧
  ((∀ (s s₁ : State) (r : Received), Accepted s .order none r → s₁ = s.takeHead r → exec .restart s = .next
    (if s₁.settings.saving.isSome ∨ s₁.settings.writing.isSome then s₁.reply r.ticket .busy
     else (s₁.modSettings fun x => { x with restart := some (s.now + 100000) }).reply r.ticket .done .none .restart)) ∧
  ∀ (c : Instr) (e : Micros) (s s₀ : State), s.settings.restart = some e →
    (c = .restartTimeout ∧ s₀ = s.reach e ∨ s₀ = s ∧ ∃ p h f, c = .frameSent p ∧ p < 5 ∧ (s.port p).hand = some h ∧
      h.phase = .sending ∧ h.source = .queue .normal ∧ (s.port p).headOf .normal = some f ∧ f.report = .restart) →
    ∃ t : State, exec c s = .next t ∧
    t = { State.reset with
      tables := s.tables, store := s.store, clock := { s₀.clock with step := none }, day := { stamps := s.day.stamps }
      settings := { s.settings with saving := none, writing := none, restart := none }
      inPlace := true, now := s₀.now, pending := s.pending, draws := s.draws, tokens := s.tokens
      stations := t.stations, zones := t.zones, shutters := t.shutters, arbiters := t.arbiters, shafts := t.shafts
      playback := { directory := t.playback.directory }, net := t.net } ∧
    (∀ i < 96, t.stationLive i = { supervision := match s.station i with
      | some c => if c.beatPeriod = 0 then none else some (s₀.now + 1500000 * c.beatPeriod)
      | none => none }) ∧
    (∀ z < 16, t.zone z = { state := if (s.zoneCfg z).storedIsolated then .isolated else .normal }) ∧
    (∀ i < 32, t.shutterLive i = { state :=
      if ((s.shutter i).any fun c => (s.zoneCfg c.zone).storedIsolated) then .isolated else .unknown }) ∧
    (∀ i < 96, t.arbiter i = if ((s.station i).any fun c => decide (c.role = .sounder)) then some {} else none) ∧
    (∀ k < 2, t.shaft k = { ready := (s.shaft k).ready, fault := (s.shaft k).fault, windowEnd := some (s₀.now + 100000)
                            state := if (s.shaft k).fault && s.shaftEnabled k then .tripped else .idle
                            trip := if (s.shaft k).fault && s.shaftEnabled k then some .drive else none }) ∧
    (∀ k < 2, (t.shaft k).permit = false ∧ (t.shaft k).creep = false ∧ (t.shaft k).brake = true ∧
      (t.shaft k).posValid = false) ∧
    (∀ p < 5, t.port p = { keepTimer := some (s₀.now + 10000) }) ∧
    (∀ p < 5, (t.port p).state = .down ∧ (t.port p).safety = [] ∧ (t.port p).stream = [] ∧ (t.port p).normal = [] ∧
      (t.port p).hand = none) ∧
    ((∀ k < 2, (s.shaft k).fault = false ∨ s.shaftEnabled k = false) → t.net.mgmt = {}) ∧
    (t.net.mgmt.rejected = 0 ∧ t.net.mgmt.badRequest = 0 ∧ t.net.mgmt.noticeLost = 0 ∧ t.net.mgmt.phraseBusy = 0) ∧
    (∀ n ∈ t.net.mgmt.queue, ∃ k < 2, n.body = .shaftTrip k (some .drive)) ∧
    (∀ x ∈ t.net.mgmt.timers, ∃ k < 2, x.body = .shaftTrip k (some .drive)) ∧
    (∀ j < 23, t.net.mgmt.sticky.getLsbD j = true → j = noticeIndex .shaftTrip) ∧
    ∀ i < 128, t.phrase i = s.store.headerEntry i)

/-- The autoload takes the image's tables only if the EEPROM answers, its marker and checksum agree and every entry
passes its checks; otherwise the default tables. The image state says which, and the tables are then in place. (R187,
R188, R23, R167) -/
def Obligations.AutoloadTakesOnlyAValidImage : Prop :=
  ∀ (ack : Bool) (s : State), s.inPlace = false → ∃ t, exec (.autoloadEnd ack) s = .next t ∧ t.inPlace = true ∧
    (if ack = true ∧ s.settings.eeprom.marker = true ∧ s.settings.eeprom.checksum = byteSum s.settings.eeprom.body ∧
        s.settings.eeprom.tables.check = true then
      t.tables = s.settings.eeprom.tables ∧ t.settings = { s.settings with image := .valid }
    else t.tables = {} ∧ t.settings = { s.settings with image := if ack then .invalid else .absent }) ∧
    (∀ k < 2, (t.shaft k).windowEnd = some (s.now + 100000)) ∧
    (∀ p < 5, (t.port p).keepTimer = some (s.now + 10000)) ∧
    ChangesOnly [.tables, .inPlace, .stations, .shafts, .zones, .shutters, .calls, .arbiters, .day, .playback, .net,
      .settings, .tokens] s t

/-- A second boundary moves the clock on by one second, or by two or none with a step pending, across minutes, hours,
days and weekdays; its fields stay in their ranges, the step is taken up, and the next period is trimmed at every N-th
boundary. Loss of the crystal makes the clock INVALID, drops a pending step and stands it, also where the clock was
set while the crystal stood; a loss already reported is not reported again (the model's choice:
notes/assumptions/26.md). The next cycles start it again and it stays INVALID. While it stands no boundary comes.
(R132, R133, R134, R135) -/
def Obligations.SecondBoundariesRunTheClock : Prop :=
  (∀ s : State, s.clock.running = true → s.clock.seconds < 60 → s.clock.minutes < 60 → s.clock.hours < 24 →
    s.clock.weekday < 7 → s.clock.day < 65536 → ∃ t, exec .secondBoundary s = .next t ∧
    t.clock.seconds < 60 ∧ t.clock.minutes < 60 ∧ t.clock.hours < 24 ∧ t.clock.weekday < 7 ∧ t.clock.day < 65536 ∧
    (((t.clock.day * 24 + t.clock.hours) * 60 + t.clock.minutes) * 60 + t.clock.seconds) % (65536 * 86400) =
      (((s.clock.day * 24 + s.clock.hours) * 60 + s.clock.minutes) * 60 + s.clock.seconds +
        (match s.clock.step with | none => 1 | some d => if 0 < d then 2 else 0)) % (65536 * 86400) ∧
    (t.clock.weekday + 7 - s.clock.weekday) % 7 = (if t.clock.day = s.clock.day then 0 else 1) ∧
    t.clock.step = none ∧ t.clock.divider = 0 ∧ t.clock.valid = s.clock.valid ∧
    (s.clock.trimInterval = 0 → t.clock.period = 32768) ∧
    (0 < s.clock.trimInterval → s.clock.trimCount + 1 < s.clock.trimInterval →
      t.clock.period = 32768 ∧ t.clock.trimCount = s.clock.trimCount + 1) ∧
    (0 < s.clock.trimInterval → s.clock.trimInterval ≤ s.clock.trimCount + 1 → t.clock.trimCount = 0 ∧
      t.clock.period = match s.clock.trimDirection with | .fast => 32767 | .slow => 32769) ∧
    ((t.clock.seconds ≠ 0 ∨ s.inPlace = false) → s.clock.seconds < 58 → ChangesOnly [.clock] s t)) ∧
  (∀ s : State,
    (s.clock.running = true ∨ s.clock.valid = true → ∃ t, exec .crystalLoss s = .next t ∧
      t.clock = { s.clock with running := false, valid := false, step := none } ∧
      t.net.mgmt.sticky.getLsbD 13 = true ∧ ChangesOnly [.clock, .net] s t) ∧
    (s.clock.running = false → s.clock.valid = false → exec .crystalLoss s = .next s) ∧
    exec .crystalCyclesResume s = .next { s with clock := { s.clock with running := true } } ∧
    (s.clock.running = false → exec .secondBoundary s = .next s))

/-- A minute rollover of a VALID clock, with the tables in place, stamps with the day count exactly the in-use entries
that are enabled, match weekday, hour and minute, and were not fired on that day; every other stamp stays. What the
one entry that fires at a minute rollover does beside its stamp. ANNOUNCE places a request of origin DAY, its mask
less the alarm overlay, behind a playing announcement, none for an empty mask. BELL places a CLOSING request of owner
DAY at each sounder of its zones outside the overlay, and with a full mask at those without a zone. A mode action
leads to its mode, or, with no effect in the present one, only counts. (R121, R134, R137, R138, R139, R141, R142,
R143) -/
def Obligations.MinuteEventStampsWhatFires : Prop :=
  (∀ s : State, s.clock.running = true → s.clock.valid = true → s.inPlace = true → s.clock.seconds = 59 →
    s.clock.step = none → ∃ t, exec .secondBoundary s = .next t ∧ t.clock.seconds = 0 ∧
    (∀ i < 24, t.day.stamps.at? i =
      if (s.entry i).any fun e => e.enabled && e.weekdays.getLsbD t.clock.weekday &&
          decide (e.hour = t.clock.hours ∧ e.minute = t.clock.minutes ∧ s.day.stamps.at? i ≠ some t.clock.day)
      then some t.clock.day else s.day.stamps.at? i) ∧
    ChangesOnly [.clock, .shafts, .shutters, .calls, .arbiters, .day, .playback, .net, .tokens] s t) ∧
  (∀ (i : Nat) (e : ScheduleEntry) (c : Clock) (s : State), s.clock.running = true → s.clock.valid = true →
    s.inPlace = true → s.clock.seconds = 59 → s.clock.step = none → c = s.clock.boundary → s.entry i = some e →
    (e.enabled = true ∧ e.weekdays.getLsbD c.weekday = true ∧ e.hour = c.hours ∧ e.minute = c.minutes ∧
      s.day.stamps.at? i ≠ some c.day) →
    (∀ j d, j ≠ i → s.entry j = some d → ¬ (d.enabled = true ∧ d.weekdays.getLsbD c.weekday = true ∧ d.hour = c.hours ∧
      d.minute = c.minutes ∧ s.day.stamps.at? j ≠ some c.day)) →
    ∃ t, exec .secondBoundary s = .next t ∧ t.day.fired = bump s.day.fired ∧
    (e.action = .announce → t.day.noEffect = s.day.noEffect ∧ t.day.mode = s.day.mode ∧
      (e.phrase = none ∨ e.zones &&& ~~~ s.overlayMask = 0#16 → ChangesOnly [.clock, .day] s t) ∧
      ∀ p q, e.phrase = some p → e.zones &&& ~~~ s.overlayMask ≠ 0#16 → s.playback.stored = some q →
        q.taken ≠ 0#16 → (∀ z < 16, q.taken.getLsbD z = true → s.keepsZone z = true ∧ s.presentSpeakers z ≠ []) →
        (s.phraseValid p = true → s.playback.queue.length < 8 →
          t.playback.queue = s.playback.queue ++ [{
            phrase := p, zones := e.zones &&& ~~~ s.overlayMask, gain := e.gain, urgent := false, origin := .day
            number := (s.playback.lastRequest + 1) % 65536 }] ∧
          t.playback.lastRequest = (s.playback.lastRequest + 1) % 65536 ∧
          t.playback.counters = s.playback.counters) ∧
        (s.phraseValid p = false → t.playback.queue = s.playback.queue ∧
          t.playback.counters = { s.playback.counters with
            refusedInvalid := bump s.playback.counters.refusedInvalid })) ∧
    (∀ p, e.action = .bell → e.bell = some p → t.day.noEffect = s.day.noEffect ∧ t.day.mode = s.day.mode ∧
      ChangesOnly [.clock, .day, .arbiters, .net, .tokens] s t ∧
      ∀ j d a, s.station j = some d → d.role = .sounder → s.arbiter j = some a →
        ((d.zone.any fun z => e.zones.getLsbD z && !s.overlay z) = true ∨ d.zone = none ∧ e.zones = 0xFFFF#16 →
          ∃ b, t.arbiter j = some b ∧ s.Placed j .closing p .day a b) ∧
        ((d.zone.any fun z => e.zones.getLsbD z && !s.overlay z) = false → (d.zone = none → e.zones ≠ 0xFFFF#16) →
          t.arbiter j = some a)) ∧
    (∀ m, (e.action, s.day.mode, m) ∈ [(DayAction.beginClosing, StoreMode.open, StoreMode.closing),
        (.lastCall, .open, .lastCall), (.lastCall, .closing, .lastCall), (.open, .closed, .open), (.open, .closing, .open),
        (.open, .lastCall, .open)] → s.day.closePending = false →
      t.day.mode = m ∧ t.day.noEffect = s.day.noEffect ∧ t.day.closePending = false) ∧
    (e.action = .close → s.day.mode ≠ .closed → s.day.closePending = false →
      (s.shaftStands 0 = false ∨ s.shaftStands 1 = false) → t.day.mode = .lastCall ∧ t.day.closePending = true ∧
        t.day.closeWait = some (s.now + 300000000) ∧ t.day.source = .schedule i ∧ t.day.noEffect = s.day.noEffect) ∧
    ((e.action, s.day.mode) ∈ [(DayAction.beginClosing, StoreMode.closing), (.beginClosing, .lastCall),
        (.beginClosing, .closed), (.lastCall, .lastCall), (.lastCall, .closed), (.close, .closed), (.open, .open)] ∨
        e.action = .close ∧ s.day.mode = .lastCall ∧ s.day.closePending = true →
      t.day.mode = s.day.mode ∧ t.day.noEffect = bump s.day.noEffect ∧ ChangesOnly [.clock, .day] s t))

/-- ORDER STORE_MODE: an action with an effect in the present mode leads to its mode, through the modes between, and
is answered DONE; OPEN in LAST_CALL brings a shaft on its last run back to RUNNING and withdraws a PARK request of
origin DAY. A refusal carries the present mode. A mode action of ORDER STORE_MODE with an effect in the present mode
announces its phrase, if it carries one, as a request of origin DAY, its mask less the alarm overlay; a gain above 511
is set to 511 and the REPLY says CLAMPED. That an action which passes through intermediate modes announces its phrase
once, not at each of them, and CLOSE before its closing check, is the model's choice (notes/assumptions/26.md). The
close wait's expiry makes the close overdue: a moving shaft is stopped for good, a homing one is parked and stopped
with the answer UNCLEAR, whatever sills are in use; with both shafts standing the store enters CLOSED. (R139, R141,
R142, R143, R144, R145, R146, R27, R52, R115) -/
def Obligations.StoreModeAndCloseWait : Prop :=
  (∀ (s s₁ : State) (r : Received), Accepted s .order none r → s₁ = s.takeHead r →
    (∀ m : ModeAction, (m, s₁.day.mode) ∈ [(ModeAction.beginClosing, StoreMode.closing), (.beginClosing, .lastCall),
        (.beginClosing, .closed), (.lastCall, .lastCall), (.lastCall, .closed), (.close, .closed), (.open, .open)] ∨
        (m, s₁.day.mode) = (.close, .lastCall) ∧ s₁.day.closePending = true →
      exec (.storeMode (some { action := .val m })) s =
        .next (s₁.reply r.ticket .refusedState (.mode s₁.day.mode))) ∧
    (∀ f : ModeFields, (∀ m, f.action ≠ .val m) ∨ f.phrase.any (fun p => decide (127 < p)) = true →
      exec (.storeMode (some f)) s = .next (s₁.reply r.ticket .badValue (.mode s₁.day.mode))) ∧
    exec (.storeMode none) s = .next (s₁.reply r.ticket .badValue (.mode s₁.day.mode)) ∧
    (s₁.day.closePending = false →
      (s₁.day.mode = .open → ∃ mid : State, exec (.storeMode (some { action := .val .beginClosing })) s =
        .next (mid.reply r.ticket .done) ∧ mid.day = { s₁.day with mode := .closing } ∧
        (∀ k, (mid.shaft k).core = (s₁.shaft k).core) ∧
        ChangesOnly [.day, .shafts, .arbiters, .net, .tokens] s₁ mid) ∧
      (s₁.day.mode ∈ [StoreMode.open, .closing] → ∃ mid : State,
        exec (.storeMode (some { action := .val .lastCall })) s = .next (mid.reply r.ticket .done) ∧
        mid.day = { s₁.day with mode := .lastCall } ∧
        (s₁.day.overdue = false → ∀ k < 2, s₁.shaftEnabled k = true → (s₁.shaft k).state = .running →
          (mid.shaft k).state = .lastRun ∧ (mid.shaft k).advance = some 0) ∧
        ChangesOnly [.shafts, .shutters, .calls, .arbiters, .day, .net, .tokens] s₁ mid) ∧
      (s₁.day.mode = .lastCall → (s₁.shaftStands 0 = false ∨ s₁.shaftStands 1 = false) → ∃ mid : State,
        exec (.storeMode (some { action := .val .close })) s = .next (mid.reply r.ticket .done) ∧
        mid.day = { s₁.day with closePending := true, closeWait := some (s.now + 300000000), source := .order } ∧
        ChangesOnly [.day] s₁ mid) ∧
      (s₁.day.mode = .lastCall → s₁.shaftStands 0 = true → s₁.shaftStands 1 = true → ∃ mid : State,
        exec (.storeMode (some { action := .val .close })) s = .next (mid.reply r.ticket .done) ∧
        mid.day.mode = .closed ∧ mid.day.closePending = false ∧ mid.day.overdue = false ∧ mid.day.closeWait = none ∧
        (∀ x ∈ mid.calls.records, x.cls ∈ [CallClass.urgent, .floorwalker]) ∧
        ChangesOnly [.shafts, .shutters, .calls, .arbiters, .day, .net, .tokens] s₁ mid) ∧
      (s₁.day.mode ∈ [StoreMode.open, .closing] → ∃ mid : State,
        exec (.storeMode (some { action := .val .close })) s = .next (mid.reply r.ticket .done) ∧
        ((s₁.shaftStands 0 = false ∨ s₁.shaftStands 1 = false) → mid.day = { s₁.day with
          mode := .lastCall, closePending := true, closeWait := some (s.now + 300000000), source := .order }) ∧
        (s₁.shaftStands 0 = true → s₁.shaftStands 1 = true → mid.day.mode = .closed ∧ mid.day.closePending = false ∧
          mid.day.overdue = false ∧ mid.day.closeWait = none) ∧
        (s₁.day.overdue = false → ∀ k < 2, s₁.shaftEnabled k = true → (s₁.shaft k).state = .running →
          (mid.shaft k).state = .lastRun ∧ (mid.shaft k).advance = some 0) ∧
        ChangesOnly [.shafts, .shutters, .calls, .arbiters, .day, .net, .tokens] s₁ mid)) ∧
    (s₁.day.mode ≠ .open → ∃ mid : State, exec (.storeMode (some { action := .val .open })) s =
      .next (mid.reply r.ticket .done) ∧ mid.day.mode = .open ∧
      (s₁.day.mode = .lastCall → mid.day.closePending = false ∧ mid.day.overdue = false ∧ mid.day.closeWait = none ∧
        ∀ k < 2, (mid.shaft k).park = (if (s₁.shaft k).park = some .day then none else (s₁.shaft k).park) ∧
          (s₁.shaftEnabled k = true → (s₁.shaft k).state = .lastRun → (s₁.shaft k).zoneFlags = 0#16 →
            (mid.shaft k).state = .running ∧ (mid.shaft k).advance = none ∧ (mid.shaft k).bar = false ∧
            (mid.shaft k).permit = true ∧ (mid.shaft k).brake = false)) ∧
      (s₁.day.mode ≠ .lastCall → ∀ k, (mid.shaft k).core = (s₁.shaft k).core) ∧
      ChangesOnly [.shafts, .shutters, .calls, .arbiters, .day, .net, .tokens] s₁ mid)) ∧
  (∀ (m : ModeAction) (f : ModeFields) (zs : ZoneMask) (g : Nat) (s s₁ : State) (r : Received),
    Accepted s .order none r → s₁ = s.takeHead r → f.action = .val m → f.zones = some zs → f.gain = some g →
    (f.phrase.all fun p => decide (p ≤ 127)) = true → s₁.day.closePending = false →
    (m, s₁.day.mode) ∈ [(ModeAction.beginClosing, StoreMode.open), (.lastCall, .open), (.lastCall, .closing),
      (.close, .open), (.close, .closing), (.close, .lastCall), (.open, .closed), (.open, .closing), (.open, .lastCall)] →
    ∃ mid : State, exec (.storeMode (some f)) s = .next (mid.reply r.ticket (if 511 < g then .clamped else .done)) ∧
      ChangesOnly [.shafts, .shutters, .calls, .arbiters, .day, .playback, .net, .tokens] s₁ mid ∧
      (f.phrase = none ∨ zs &&& ~~~ s₁.overlayMask = 0#16 → mid.playback = s₁.playback) ∧
      ∀ p q, f.phrase = some p → zs &&& ~~~ s₁.overlayMask ≠ 0#16 → s₁.playback.stored = some q →
        q.taken ≠ 0#16 → (∀ z < 16, q.taken.getLsbD z = true → s₁.keepsZone z = true ∧ s₁.presentSpeakers z ≠ []) →
        (s₁.phraseValid p = true → s₁.playback.queue.length < 8 →
          mid.playback.queue = s₁.playback.queue ++ [{
            phrase := p, zones := zs &&& ~~~ s₁.overlayMask, gain := min 511 g, urgent := false, origin := .day
            number := (s₁.playback.lastRequest + 1) % 65536 }] ∧
          mid.playback.lastRequest = (s₁.playback.lastRequest + 1) % 65536 ∧
          mid.playback.counters = s₁.playback.counters) ∧
        (s₁.phraseValid p = false → mid.playback.queue = s₁.playback.queue ∧
          mid.playback.counters = { s₁.playback.counters with
            refusedInvalid := bump s₁.playback.counters.refusedInvalid })) ∧
  (∀ (e : Nat) (s : State), s.day.closeWait = some e → s.day.closePending = true →
    ∃ t, exec .closeWaitExpiry s = .next t ∧ t.now = max s.now e ∧ t.day.closeWait = none ∧
    (∀ k < 2, s.shaftEnabled k = true → (s.shaft k).state ∈ [ShaftState.lastRun, .clearing, .stopping] →
      (t.shaft k).state = .stopping ∧ (t.shaft k).bar = true ∧ ((s.shaft k).state ≠ .stopping → (t.shaft k).brake = true)) ∧
    (∀ k < 2, s.shaftEnabled k = true → (s.shaft k).state = .homing →
      (t.shaft k).state = .stopping ∧ (t.shaft k).outcome = some .unclear ∧ (t.shaft k).homeTimer = none ∧
      (t.shaft k).permit = false ∧ (t.shaft k).creep = false ∧ (t.shaft k).brake = true ∧
      (t.shaft k).park = some ((s.shaft k).park.getD .day)) ∧
    (∀ k < 2, (s.shaft k).state = .running → (t.shaft k).core = (s.shaft k).core) ∧
    (s.shaftStands 0 = true → s.shaftStands 1 = true →
      t.day.mode = .closed ∧ t.day.closePending = false ∧ t.day.overdue = false) ∧
    ((∃ k < 2, s.shaftEnabled k = true ∧
        (s.shaft k).state ∈ [ShaftState.homing, .running, .lastRun, .clearing, .stopping]) →
      t.day.overdue = true ∧ t.day.closePending = true ∧ t.day.mode = s.day.mode) ∧
    ChangesOnly [.shafts, .shutters, .calls, .arbiters, .day, .net, .tokens, .now] s t)

/-- A request is judged in order by the Station Table, its port, its console and its header; while a restart is
pending every ORDER and SETUP is then answered BUSY. The model's choices: a command finds nothing to do while the head
of the intake queue is not a frame of its own (notes/assumptions/1.md), nor while byte 3 of that frame names another
entry or object (notes/assumptions/2.md), and BUSY comes after the header check (notes/assumptions/17.md). (R7, R170,
R178, R179, R192) -/
def Obligations.RequestsAreJudgedInOrder : Prop :=
  ∀ (c : Instr) (w : FrameStep) (s : State), requestStep c = some w →
    (s.requestFor w (requestObject c) = none → exec c s = .next s) ∧
    (∀ r i b, s.headFor w = some r → requestObject c = some i → r.frame.payload[3]? = some b → b.toNat ≠ i →
      exec c s = .next s) ∧
    ∀ (r : Received) (s₁ : State), s.requestFor w (requestObject c) = some r → s₁ = s.takeHead r →
    (s₁.passes r = false → exec c s = .next { s₁ with mismatchDrop := bump s₁.mismatchDrop }) ∧
    (s₁.passes r = true →
      (r.port ≠ 4 ∨ s.fromConsole r.frame.src = false →
        exec c s = .next (s₁.modMgmt fun m => { m with rejected := bump m.rejected })) ∧
      (r.port = 4 → s.fromConsole r.frame.src = true → r.frame.payload.length < 4 →
        exec c s = .next (s₁.modMgmt fun m => { m with badRequest := bump m.badRequest })) ∧
      (r.port = 4 → s.fromConsole r.frame.src = true → 4 ≤ r.frame.payload.length → s.settings.restart ≠ none →
        w ≠ .query → exec c s = .next (s₁.reply r.ticket .busy)))

/-- The clock orders, each with its checks in order: SET_CLOCK loads the fields, restamps the schedule and
begins a whole period of 32,768 cycles, so that the next boundary falls one second after the order; STEP_CLOCK leaves a
step pending, SET_TRIM sets the trim from its count 0. (R132, R133, R135, R136) -/
def Obligations.ClockOrdersSetStepAndTrim : Prop :=
  ∀ (s s₁ : State) (r : Received), Accepted s .order none r → s₁ = s.takeHead r →
    (∀ f : ClockFields, (f.seconds < 60 ∧ f.minutes < 60 ∧ f.hours < 24 ∧ f.weekday < 7 ∧ f.day < 65536 →
        ∃ mid : State, exec (.setClock (some f)) s = .next (mid.reply r.ticket .done) ∧
          mid = { s₁ with
            clock := { s₁.clock with valid := true, seconds := f.seconds, minutes := f.minutes, hours := f.hours
                                     weekday := f.weekday, day := f.day, divider := 0, period := 32768
                                     step := none }
            day := { s₁.day with stamps := mid.day.stamps } } ∧
          ∀ i < 24, ∀ e, s₁.entry i = some e → mid.day.stamps.at? i =
            some (if e.hour * 60 + e.minute ≤ f.hours * 60 + f.minutes then f.day else (f.day + 65535) % 65536)) ∧
      (¬ (f.seconds < 60 ∧ f.minutes < 60 ∧ f.hours < 24 ∧ f.weekday < 7 ∧ f.day < 65536) →
        exec (.setClock (some f)) s = .next (s₁.reply r.ticket .badValue))) ∧
    (∀ d : Int, exec (.stepClock (some d)) s = .next
      (if d ≠ 1 ∧ d ≠ -1 then s₁.reply r.ticket .badValue
       else if s₁.clock.valid = false then s₁.reply r.ticket .refusedState
       else if s₁.clock.step ≠ none then s₁.reply r.ticket .busy
       else (s₁.modClock fun c => { c with step := some d }).reply r.ticket .done)) ∧
    (∀ (d : TrimDirection) (n : Nat), exec (.setTrim (some { direction := .val d, interval := n })) s =
      .next ((s₁.modClock fun c => { c with trimDirection := d, trimInterval := min 3600 n, trimCount := 0 }).reply r.ticket
        (if 3600 < n then .clamped else .done))) ∧
    ∀ n, exec (.setTrim (some { direction := .bad, interval := n })) s = .next (s₁.reply r.ticket .badValue)

/-- START_SHAFT of an IDLE or HELD shaft with no condition against it, and not in the overdue close: HOMING with the
home timer when the position is INVALID, RUNNING or, in LAST_CALL, LAST_RUN when it is VALID; refused otherwise with
the shaft unchanged. (R25, R26, R27, R34) -/
def Obligations.StartShaftEntersService : Prop :=
  ∀ (k : Nat) (s s₁ : State) (r : Received), Accepted s .order (some k) r → s₁ = s.takeHead r →
    (2 ≤ k → exec (.startShaft k) s = .next (s₁.reply r.ticket .badIndex)) ∧
    (k < 2 → (s₁.shaftEnabled k = false ∨ (s₁.shaft k).state ∉ [ShaftState.idle, .held] ∨ s₁.day.mode = .closed ∨
        (s₁.shaft k).ready = false ∨ (s₁.shaft k).fault = true ∨ (s₁.shaft k).zoneFlags ≠ 0#16 ∨
        (∃ i ∈ s₁.shaftShutters k, (s₁.shutterLive i).state ∉ [ShutterState.open, .isolated]) ∨
        (∃ l ∈ s₁.landings k, (s₁.landingLive k l).stopPulled = true ∨ s₁.overlayOf (s₁.landingZone k l) = true)) →
      exec (.startShaft k) s = .next (s₁.reply r.ticket .refusedState)) ∧
    (k < 2 → s₁.shaftEnabled k = true → (s₁.shaft k).state ∈ [ShaftState.idle, .held] → s₁.startBarred k = false →
      s₁.day.overdue = false →
      ∃ mid : State, exec (.startShaft k) s = .next (mid.reply r.ticket .done) ∧ ChangesOnly [.shafts, .shutters, .net] s₁ mid ∧
        (mid.shaft k).park = none ∧ (mid.shaft k).reapproach = 0 ∧ (mid.shaft k).permit = true ∧ (mid.shaft k).brake = false ∧
        (mid.shaft k).pos = (s₁.shaft k).pos ∧ (mid.shaft k).posValid = (s₁.shaft k).posValid ∧
        ((s₁.shaft k).posValid = false → (mid.shaft k).state = .homing ∧ (mid.shaft k).creep = true ∧
          (mid.shaft k).homeTimer =
            some (s.now + 1000000 * ((5 * (s₁.geometry k).L + 4 * (s₁.geometry k).Vc - 1) / (4 * (s₁.geometry k).Vc)))) ∧
        ((s₁.shaft k).posValid = true → (mid.shaft k).creep = (mid.shaft k).degraded ∧
          (mid.shaft k).state = if s₁.day.mode = .lastCall then .lastRun else .running) ∧
        ∀ j, j ≠ k → (mid.shaft j).core = (s₁.shaft j).core)

/-- STOP_SHAFT makes a PARK request of origin ORDER: a RUNNING shaft starts a clear stop, a HOMING one stops with
outcome UNCLEAR, an IDLE, STOPPING or TRIPPED one stays where it is; the REPLY is DONE. RESET_SHAFT frees a TRIPPED
shaft that is cleared of its causes and standing, with no request in its set, to IDLE; else it names the part that
failed, or is refused. That it names the first that failed, in the order drive, landings, standstill, is the model's
choice (notes/assumptions/25.md). (R25, R35, R36, R38, R46) -/
def Obligations.StopAndResetShaft : Prop :=
  (∀ (k : Nat) (s s₁ : State) (r : Received), Accepted s .order (some k) r → s₁ = s.takeHead r →
    (2 ≤ k → exec (.stopShaft k) s = .next (s₁.reply r.ticket .badIndex)) ∧
    (k < 2 → s₁.shaftEnabled k = true → ∃ mid : State, exec (.stopShaft k) s = .next (mid.reply r.ticket .done) ∧
      ChangesOnly [.shafts, .shutters, .net] s₁ mid ∧
      (mid.shaft k).park = some .order ∧
      ((s₁.shaft k).park = none → s₁.sills k ≠ [] →
        ((s₁.shaft k).state ∈ [ShaftState.running, .lastRun] → (mid.shaft k).clearSet = s₁.sills k ∧
          (mid.shaft k).reapproach = 0 ∧ (mid.shaft k).advance = none ∧
          (mid.shaft k).clearStops = bump (s₁.shaft k).clearStops ∧ (mid.shaft k).state ∈ [ShaftState.clearing, .stopping]) ∧
        ((s₁.shaft k).state = .homing → (mid.shaft k).state = .stopping ∧ (mid.shaft k).outcome = some .unclear ∧
          (mid.shaft k).homeTimer = none ∧ (mid.shaft k).permit = false ∧ (mid.shaft k).brake = true)) ∧
      ((s₁.shaft k).state ∈ [ShaftState.idle, .stopping, .tripped] → (mid.shaft k).state = (s₁.shaft k).state))) ∧
  (∀ (k : Nat) (s s₁ : State) (r : Received), Accepted s .order (some k) r → s₁ = s.takeHead r →
    (2 ≤ k → exec (.resetShaft k) s = .next (s₁.reply r.ticket .badIndex)) ∧
    (k < 2 → s₁.shaftEnabled k = false ∨ (s₁.shaft k).state ≠ .tripped →
      exec (.resetShaft k) s = .next (s₁.reply r.ticket .refusedState)) ∧
    (k < 2 → s₁.shaftEnabled k = true → (s₁.shaft k).state = .tripped →
      ((s₁.shaft k).ready = false ∨ (s₁.shaft k).fault = true →
        exec (.resetShaft k) s = .next (s₁.reply r.ticket .refusedState (.failedPart .drive))) ∧
      ((s₁.shaft k).ready = true → (s₁.shaft k).fault = false →
        (∃ l ∈ s₁.landings k, (s₁.landingLive k l).stopPulled = true ∨ (s₁.landingLive k l).sillTripped = true) →
        exec (.resetShaft k) s = .next (s₁.reply r.ticket .refusedState (.failedPart .landings))) ∧
      ((s₁.shaft k).ready = true → (s₁.shaft k).fault = false →
        (∀ l ∈ s₁.landings k, (s₁.landingLive k l).stopPulled = false ∧ (s₁.landingLive k l).sillTripped = false) →
        ((s₁.shaft k).standstill ≠ 3 →
          exec (.resetShaft k) s = .next (s₁.reply r.ticket .refusedState (.failedPart .standstill))) ∧
        ((s₁.shaft k).standstill = 3 → s₁.day.closePending = false → (s₁.shaft k).clearSet = [] →
          ∃ mid : State, exec (.resetShaft k) s = .next (mid.reply r.ticket .done) ∧ ChangesOnly [.shafts, .net] s₁ mid ∧
            (mid.shaft k).core = { (s₁.shaft k).core with
              state := .idle, trip := none, settling := 0, reapproach := 0, permit := false, creep := false, brake := true
              degraded := false, heldReason := none } ∧
            ∀ j, j ≠ k → (mid.shaft j).core = (s₁.shaft j).core))))

/-- A DETECT report of a point, by the state of the point's zone: ALERT, a second knock, entry to ALARM also from
SILENCED and RESETTING, a further alarm, or nothing; the point takes the reported state. On entry to ALARM every
shutter of the zone without a landing is released, one across a landing waits for its shaft's answer, and every shaft
with a landing in the zone has the zone's flag, a running one starting a clear stop. That an UNKNOWN shutter across a
landing waits with no command in force also where a RAISE was in force is the model's choice between R81 and R93
(notes/assumptions/23.md). The knock window's expiry in ALERT: the zone waits on while its knock point is in ALARM,
or, its knock forgotten, while a point is active; with every point quiet it returns to NORMAL. (R59, R61, R63, R64,
R65, R66, R67, R68, R69, R71, R81, R82) -/
def Obligations.DetectorsMoveTheZone : Prop :=
  (∀ (s s₁ : State) (r : Received) (n b : Byte) (p i : Nat) (c : PointCfg) (st : PointState),
    Tapped s .detect r → s₁ = s.takeHead r → r.frame.payload = [n, b] →
    s₁.findStation r.frame.src = some p → s₁.findPoint p n.toNat = some i → s₁.point i = some c → c.zone < 16 →
    PointState.ofByte b = some st → ∃ t : State, exec .detect s = .next t ∧
    t.pointLive i = { state := st, source := if st = .fault then some .report else none } ∧
    (∀ j, j ≠ i → t.pointLive j = s₁.pointLive j) ∧
    (∀ z, z ≠ c.zone → (t.zone z).state = (s₁.zone z).state) ∧
    ChangesOnly [.points, .zones, .shafts, .shutters, .calls, .arbiters, .playback, .net, .tokens] s₁ t ∧
    ((s₁.zone c.zone).state = .normal →
      (reportClass c.kind st = .clearing → (t.zone c.zone).state = .normal) ∧
      (reportClass c.kind st = .prealarm → (t.zone c.zone).state = .alert ∧ (t.zone c.zone).knockPoint = none ∧
        (t.zone c.zone).knockTimer = some (s.now + 1000000 * (s.zoneCfg c.zone).knockWindow)) ∧
      (reportClass c.kind st = .automatic → (s.zoneCfg c.zone).doubleKnock = true →
        (t.zone c.zone).state = .alert ∧ (t.zone c.zone).knockPoint = some i ∧
        (t.zone c.zone).knockTimer = some (s.now + 1000000 * (s.zoneCfg c.zone).knockWindow)) ∧
      (reportClass c.kind st = .automatic → (s.zoneCfg c.zone).doubleKnock = false →
        (t.zone c.zone).state = .alarm ∧ (t.zone c.zone).cause = some .automatic ∧
          (t.zone c.zone).alarmPoint = some (.point i))) ∧
    ((s₁.zone c.zone).state ∈ [ZoneState.normal, .alert] → reportClass c.kind st = .manual →
      (t.zone c.zone).state = .alarm ∧ (t.zone c.zone).cause = some .manual ∧
        (t.zone c.zone).alarmPoint = some (.point i) ∧
        (t.zone c.zone).knockTimer = none ∧ (t.zone c.zone).knockPoint = none) ∧
    (∀ k, (s₁.zone c.zone).state = .alert → reportClass c.kind st = .automatic → (s.zoneCfg c.zone).doubleKnock = true →
      (s₁.zone c.zone).knockPoint = some k → k ≠ i →
      (t.zone c.zone).state = .alarm ∧ (t.zone c.zone).cause = some .doubleKnock ∧
        (t.zone c.zone).alarmPoint = some (.point i)) ∧
    ((s₁.zone c.zone).state = .alert →
      (reportClass c.kind st ∈ [ReportClass.clearing, .prealarm] ∨
          reportClass c.kind st = .automatic ∧ (s.zoneCfg c.zone).doubleKnock = true ∧
            (s₁.zone c.zone).knockPoint = some i →
        t.zone c.zone = { s₁.zone c.zone with fault := (t.zone c.zone).fault }) ∧
      (reportClass c.kind st = .automatic → (s.zoneCfg c.zone).doubleKnock = true →
        (s₁.zone c.zone).knockPoint = none → t.zone c.zone = { s₁.zone c.zone with
          fault := (t.zone c.zone).fault, knockPoint := some i
          knockTimer := some (s.now + 1000000 * (s.zoneCfg c.zone).knockWindow) }) ∧
      (reportClass c.kind st = .automatic → (s.zoneCfg c.zone).doubleKnock = false →
        (t.zone c.zone).state = .alarm ∧ (t.zone c.zone).cause = some .automatic ∧
          (t.zone c.zone).alarmPoint = some (.point i))) ∧
    ((s₁.zone c.zone).state ∈ [ZoneState.silenced, .resetting] →
      (reportClass c.kind st ∈ [ReportClass.automatic, .manual] →
        (s₁.pointLive i).state ∉ [PointState.alarm, .manual] → (t.zone c.zone).state = .alarm ∧
          (t.zone c.zone).cause = some (if reportClass c.kind st = .manual then .manual else .automatic) ∧
          (t.zone c.zone).alarmPoint = some (.point i)) ∧
      (reportClass c.kind st ∈ [ReportClass.clearing, .prealarm] ∨
          (s₁.pointLive i).state ∈ [PointState.alarm, .manual] →
        t.zone c.zone = { s₁.zone c.zone with fault := (t.zone c.zone).fault })) ∧
    ((s₁.zone c.zone).state = .isolated → t.zone c.zone = { s₁.zone c.zone with fault := (t.zone c.zone).fault }) ∧
    ((t.zone c.zone).fault = true ↔ ∃ j d, s.point j = some d ∧ d.zone = c.zone ∧ (t.pointLive j).state = .fault) ∧
    ((s₁.zone c.zone).state = .alarm → (reportClass c.kind st ∈ [ReportClass.clearing, .prealarm] ∨
        (s₁.pointLive i).state ∈ [PointState.alarm, .manual]) →
      t.zone c.zone = { s₁.zone c.zone with fault := (t.zone c.zone).fault }) ∧
    ((s₁.zone c.zone).state = .alarm → reportClass c.kind st ∈ [ReportClass.automatic, .manual] →
      (s₁.pointLive i).state ∉ [PointState.alarm, .manual] → (t.zone c.zone).state = .alarm ∧
        (t.zone c.zone).furtherAlarms = bump (s₁.zone c.zone).furtherAlarms) ∧
    ((s₁.zone c.zone).state ≠ .alarm → (t.zone c.zone).state = .alarm →
      (∀ j d, s.shutter j = some d → d.zone = c.zone → d.landing = none →
        (s₁.shutterLive j).state ∈ [ShutterState.unknown, .open] →
        (t.shutterLive j).state = .descending ∧ (t.shutterLive j).command = some .release ∧ (t.shutterLive j).sends = 1 ∧
          (t.shutterLive j).resend = some (s.now + 1000000) ∧
          (t.shutterLive j).motion = some (s.now + 1000000 * d.descentLimit)) ∧
      (∀ j d l, s.shutter j = some d → d.zone = c.zone → d.landing = some l →
        (s₁.shutterLive j).state ∈ [ShutterState.unknown, .open] →
        ((t.shutterLive j).state = .releaseWait ∧ (t.shutterLive j).command = none ∧
            (t.shutterLive j).clearance = some (s.now + 1000000 * (s.zoneCfg c.zone).clearanceTimeout) ∨
          (t.shutterLive j).state = .warning ∧ (t.shutterLive j).command = none ∧
            (t.shutterLive j).warning = some (s.now + 1000000 * (s.zoneCfg c.zone).warningTime) ∨
          (t.shutterLive j).state = .descending ∧ (t.shutterLive j).command = some .release) ∧
        (l.shaft < 2 → s.holdsLanding l.shaft c.zone = true → s.shaftEnabled l.shaft = false →
          (t.shutterLive j).state = .descending)) ∧
      ∀ k < 2, s.holdsLanding k c.zone = true → (t.shaft k).zoneFlags.getLsbD c.zone = true ∧
        (s.shaftEnabled k = true → (s₁.shaft k).state = .running → (s₁.shaft k).zoneFlags.getLsbD c.zone = false →
          (t.shaft k).state ∈ [ShaftState.clearing, .stopping]))) ∧
  (∀ (z e : Nat) (s : State), z < 16 → (s.zone z).state = .alert → (s.zone z).knockTimer = some e →
    ((∃ n, (s.zone z).knockPoint = some n ∧ (s.pointLive n).state = .alarm) →
      exec (.knockWindowExpiry z) s = .next ((s.reach e).modZone z fun x => { x with
        knockTimer := some (max s.now e + 1000000 * (s.zoneCfg z).knockWindow) })) ∧
    ((∀ n, (s.zone z).knockPoint = some n → (s.pointLive n).state ≠ .alarm) →
      (∃ i c, s.point i = some c ∧ c.zone = z ∧ (s.pointLive i).state ∈ [PointState.prealarm, .alarm, .manual]) →
      exec (.knockWindowExpiry z) s = .next ((s.reach e).modZone z fun x => { x with
        knockPoint := none, knockTimer := some (max s.now e + 1000000 * (s.zoneCfg z).knockWindow) })) ∧
    ((∀ n, (s.zone z).knockPoint = some n → (s.pointLive n).state ≠ .alarm) →
      (∀ i c, s.point i = some c → c.zone = z → (s.pointLive i).state ∈ [PointState.normal, .fault]) →
      ∃ t : State, exec (.knockWindowExpiry z) s = .next t ∧
        t.zone z = { s.zone z with state := .normal, knockPoint := none, knockTimer := none } ∧
        (∀ y, y ≠ z → t.zone y = s.zone y) ∧ t.now = max s.now e ∧ ChangesOnly [.zones, .shafts, .net, .now] s t ∧
        ∀ k, (t.shaft k).core = (s.shaft k).core))

/-- A report of a drive with a command in force: the position a command asks for is taken and stops the resends, its
end position ends the command, a stopped curtain is a stall with a HALT, and a curtain that has not obeyed is sent the
command again once the resends have stopped, a RAISE only while its zone is RESETTING. A change of state makes the
zone's completion check. A report of a drive with no command in force. An uncommanded descent trips the shaft
LOCAL_DROP, adds UNEXPECTED and is a local drop of the zone; an UNKNOWN or RAISING shutter takes its place from the
report, with RAISE while its zone is RESETTING; one that is down stays down, or, found rising, is released again in an
alarm; an ISOLATED one stays so, and only its drop is told. That a RAISING shutter with no
command in force stays RAISING on a report of RAISING, a case for which R92 has no row, is the model's choice, the third
of notes/assumptions/42.md. (R71, R72, R80, R86, R87, R88, R89, R91, R92, R95) -/
def Obligations.DriveReportsUnderACommand : Prop :=
  (∀ (s s₁ : State) (r : Received) (p f : Byte) (d i : Nat) (c : ShutterCfg) (pos : CurtainPos),
    Tapped s .shutstat r → s₁ = s.takeHead r → r.frame.payload = [p, f] → s₁.findStation r.frame.src = some d →
    s₁.driveShutter d = some i → s₁.shutter i = some c → CurtainPos.ofByte p = some pos →
    (s₁.shutterLive i).state ≠ .isolated →
    s₁.isUncommanded i c { position := pos, localRelease := f.getLsbD 0 } = false →
    ∃ t : State, exec .shutstat s = .next t ∧
    (t.shutterLive i).lastReport = some { position := pos, localRelease := f.getLsbD 0 } ∧
    ((s₁.shutterLive i).command = some .release →
      (pos = .descending → (t.shutterLive i).state = .descending ∧ (t.shutterLive i).resend = none ∧
        (t.shutterLive i).command = some .release ∧ (t.shutterLive i).motion = (s₁.shutterLive i).motion ∧
        (t.shutterLive i).faults = { (s₁.shutterLive i).faults with noResponse := false }) ∧
      (pos = .closedEnd → (t.shutterLive i).state = .closed ∧ (t.shutterLive i).resend = none ∧
        (t.shutterLive i).command = none ∧ (t.shutterLive i).motion = none ∧
        (t.shutterLive i).faults = { (s₁.shutterLive i).faults with noResponse := false }) ∧
      (pos = .openEnd → (t.shutterLive i).state = (s₁.shutterLive i).state ∧ (t.shutterLive i).command = some .release ∧
        ((s₁.shutterLive i).resend = none → (s₁.zone c.zone).state ∈ [ZoneState.alarm, .silenced] →
          (t.shutterLive i).sends = 1 ∧ (t.shutterLive i).resend = some (s.now + 1000000))) ∧
      (pos = .raising → (t.shutterLive i).state = (s₁.shutterLive i).state ∧ (t.shutterLive i).command = some .release ∧
        (t.shutterLive i).unexpected = bump (s₁.shutterLive i).unexpected)) ∧
    ((s₁.shutterLive i).command = some .raise →
      (pos = .raising → (t.shutterLive i).state = .raising ∧ (t.shutterLive i).resend = none ∧
        (t.shutterLive i).command = some .raise ∧ (t.shutterLive i).motion = (s₁.shutterLive i).motion ∧
        (t.shutterLive i).faults = { (s₁.shutterLive i).faults with noResponse := false }) ∧
      (pos = .openEnd → (t.shutterLive i).state = .open ∧ (t.shutterLive i).resend = none ∧
        (t.shutterLive i).command = none ∧ (t.shutterLive i).motion = none ∧ (t.shutterLive i).forced = false ∧
        (t.shutterLive i).faults = { comms := (s₁.shutterLive i).faults.comms }) ∧
      (∀ q, (pos, q) ∈ [(CurtainPos.closedEnd, ShutterState.closed), (.descending, .descending)] →
        (t.shutterLive i).state = q ∧ (t.shutterLive i).command = some .raise ∧
        ((s₁.shutterLive i).resend = none → (s₁.zone c.zone).state = .resetting →
          (t.shutterLive i).sends = 1 ∧ (t.shutterLive i).resend = some (s.now + 1000000)) ∧
        ((s₁.shutterLive i).resend ≠ none → (t.shutterLive i).sends = (s₁.shutterLive i).sends ∧
          (t.shutterLive i).resend = (s₁.shutterLive i).resend))) ∧
    ((s₁.shutterLive i).command ≠ none → pos ∈ [CurtainPos.stoppedMid, .jammed] →
      (t.shutterLive i).state = .stalled ∧ (t.shutterLive i).resend = none ∧ (t.shutterLive i).motion = none ∧
        (t.shutterLive i).command = none ∧ (t.shutterLive i).faults = { (s₁.shutterLive i).faults with jammed := true } ∧
        ∀ v, s₁.station c.drive = some v → ∃ u w : State, u = w.offer v.homePort .safety
          { dest := v.address, src := s.globals.own, kind := 0x11#8, payload := .raw [2#8] } ∧
          t = (if (s₁.shutterLive i).state = .stalled then u else u.completionCheck c.zone)) ∧
    ((s₁.shutterLive i).command ≠ none → (s₁.zone c.zone).state ≠ .resetting →
      ChangesOnly [.shafts, .shutters, .net] s₁ t ∧ (∀ j, j ≠ i → t.shutterLive j = s₁.shutterLive j) ∧
      ∀ k, (t.shaft k).core = (s₁.shaft k).core) ∧
    ((s₁.shutterLive i).command ≠ none → (s₁.zone c.zone).state = .resetting →
      ChangesOnly [.shafts, .shutters, .zones, .calls, .arbiters, .playback, .net, .tokens] s₁ t ∧
      ((t.zone c.zone).state = .normal ∨ (t.zone c.zone).state = .resetting) ∧
      ∀ z, z ≠ c.zone → t.zone z = s₁.zone z)) ∧
  (∀ (s s₁ : State) (r : Received) (p f : Byte) (d i : Nat) (c : ShutterCfg) (pos : CurtainPos) (rep : DriveReport)
    (x : ShutterLive), Tapped s .shutstat r → s₁ = s.takeHead r → r.frame.payload = [p, f] →
    s₁.findStation r.frame.src = some d → s₁.driveShutter d = some i → s₁.shutter i = some c → c.zone < 16 →
    CurtainPos.ofByte p = some pos → rep = { position := pos, localRelease := f.getLsbD 0 } → x = s₁.shutterLive i →
    x.command = none → ∃ t : State, exec .shutstat s = .next t ∧ (t.shutterLive i).lastReport = some rep ∧
    ((x.state ∈ [ShutterState.open, .releaseWait, .warning] ∨
        x.state ∈ [ShutterState.unknown, .raising] ∧ (s₁.zone c.zone).state ∈ [ZoneState.normal, .alert]) →
      rep.localRelease = true ∨ pos ∈ [CurtainPos.descending, .closedEnd, .stoppedMid, .jammed] →
      (t.shutterLive i).faults.unexpected = true ∧ (t.shutterLive i).unexpected = bump x.unexpected ∧
      (t.shutterLive i).clearance = none ∧ (t.shutterLive i).warning = none ∧
      (t.shutterLive i).state ∈ [ShutterState.descending, .closed, .stalled] ∧
      (pos = .closedEnd → (t.shutterLive i).state = .closed) ∧
      (∀ l, c.landing = some l → l.shaft < 2 → s₁.shaftEnabled l.shaft = true → (s₁.shaft l.shaft).state ≠ .tripped →
        (t.shaft l.shaft).latched .localDrop) ∧
      ((s₁.zone c.zone).state ∉ [ZoneState.alarm, .isolated] → (t.zone c.zone).state = .alarm ∧
        (t.zone c.zone).cause = some .localDrop ∧ (t.zone c.zone).alarmPoint = some (.shutter i)) ∧
      ((s₁.zone c.zone).state = .alarm →
        t.zone c.zone = { s₁.zone c.zone with furtherAlarms := bump (s₁.zone c.zone).furtherAlarms })) ∧
    (x.state ∈ [ShutterState.unknown, .raising] →
      (pos = .openEnd → rep.localRelease = false → (t.shutterLive i).state = .open ∧ (t.shutterLive i).motion = none ∧
        (t.shutterLive i).forced = false ∧ (t.shutterLive i).faults = { comms := x.faults.comms }) ∧
      (pos = .raising → rep.localRelease = false → (t.shutterLive i).state = .raising) ∧
      (∀ q, (pos, q) ∈ [(CurtainPos.descending, ShutterState.descending), (.closedEnd, .closed), (.stoppedMid, .stalled),
          (.jammed, .stalled)] → (s₁.zone c.zone).state ∉ [ZoneState.normal, .alert] → (t.shutterLive i).state = q ∧
        (t.shutterLive i).command = (if (s₁.zone c.zone).state = .resetting then some .raise else none))) ∧
    (x.state ∈ [ShutterState.open, .releaseWait, .warning] → rep.localRelease = false →
      (pos = .openEnd → t.shutterLive i = { x with lastReport := some rep }) ∧
      (pos = .raising → t.shutterLive i = { x with lastReport := some rep, unexpected := bump x.unexpected })) ∧
    (x.state ∈ [ShutterState.descending, .closed, .stalled] →
      (pos = .descending → (t.shutterLive i).state = .descending) ∧
      (pos = .closedEnd → (t.shutterLive i).state = .closed ∧ (t.shutterLive i).motion = none) ∧
      (pos ∈ [CurtainPos.stoppedMid, .jammed] → (t.shutterLive i).state = .stalled ∧
        (t.shutterLive i).faults.jammed = true) ∧
      (pos ∈ [CurtainPos.openEnd, .raising] → (s₁.zone c.zone).state ∈ [ZoneState.alarm, .silenced] →
        (t.shutterLive i).state = .descending ∧ (t.shutterLive i).command = some .release ∧
        (t.shutterLive i).sends = 1 ∧ (t.shutterLive i).resend = some (s.now + 1000000) ∧
        (t.shutterLive i).unexpected = bump x.unexpected) ∧
      (pos = .openEnd → (s₁.zone c.zone).state ∉ [ZoneState.alarm, .silenced] → (t.shutterLive i).state = .open ∧
        (t.shutterLive i).faults = { comms := x.faults.comms }) ∧
      (pos = .raising → (s₁.zone c.zone).state ∉ [ZoneState.alarm, .silenced] → (t.shutterLive i).state = .raising)) ∧
    (x.state = .isolated → t.shutterLive i = { x with lastReport := some rep } ∧
      ((s₁.zone c.zone).state = .isolated → t.zone c.zone = { s₁.zone c.zone with
        ignoredDrops :=
          if rep.localRelease = true ∨ pos ∈ [CurtainPos.descending, .closedEnd, .stoppedMid, .jammed] ∧
              (∀ q, x.lastReport = some q → q.position = .openEnd) then bump (s₁.zone c.zone).ignoredDrops
          else (s₁.zone c.zone).ignoredDrops })))

/-- The four timers of a shutter: a resend of the SHUT frame up to three sends and then NO_RESPONSE, a RELEASE only
while the zone is ALARM or SILENCED and a RAISE only while it is RESETTING; a forced release that first trips the
shaft; the release at the end of a warning; neither of the two in any other state of the shutter; SLOW for a late
movement. (R80, R84, R85, R89, R90) -/
def Obligations.ShutterTimersAct : Prop :=
  ∀ (i e : Nat) (c : ShutterCfg) (s : State), s.shutter i = some c →
    (∀ cmd, (s.shutterLive i).resend = some e → (s.shutterLive i).command = some cmd →
      ((s.zone c.zone).state ∉ (match cmd with
          | .release => [ZoneState.alarm, .silenced]
          | .raise => [ZoneState.resetting]) →
        exec (.resendTimer i) s = .next ((s.reach e).modShutter i fun x => { x with resend := none })) ∧
      ((s.zone c.zone).state ∈ (match cmd with
          | .release => [ZoneState.alarm, .silenced]
          | .raise => [ZoneState.resetting]) →
      ∃ t : State, exec (.resendTimer i) s = .next t ∧ t.now = max s.now e ∧
        (∀ j, j ≠ i → t.shutterLive j = s.shutterLive j) ∧
        ((s.shutterLive i).sends < 3 → ChangesOnly [.shutters, .net, .now] s t ∧
          (∀ v, s.station c.drive = some v → t.net = ((s.reach e).offer v.homePort .safety
            { dest := v.address, src := s.globals.own, kind := 0x11#8
              payload := .raw [match cmd with | .release => 0#8 | .raise => 1#8] }).net) ∧
          t.shutterLive i = { s.shutterLive i with
            sends := (s.shutterLive i).sends + 1, resend := some (max s.now e + 1000000) }) ∧
        (3 ≤ (s.shutterLive i).sends → ChangesOnly [.shutters, .shafts, .net, .now] s t ∧
          t.shutterLive i = { s.shutterLive i with
            resend := none, faults := { (s.shutterLive i).faults with noResponse := true } }))) ∧
    (∀ r, (s.shutterLive i).clearance = some e → c.landing = some r → r.shaft < 2 → (s.shutterLive i).state = .releaseWait →
      ∃ t : State, exec (.clearanceTimeout i) s = .next t ∧ t.now = max s.now e ∧
        (t.shutterLive i).state = .descending ∧ (t.shutterLive i).forced = true ∧ (t.shutterLive i).clearance = none ∧
        (t.shutterLive i).command = some .release ∧ (t.shutterLive i).sends = 1 ∧
        (s.shaftEnabled r.shaft = true → (s.shaft r.shaft).state ≠ .tripped → (t.shaft r.shaft).latched .forcedRelease) ∧
        ((s.shaft r.shaft).state = .tripped → (t.shaft r.shaft).core = (s.shaft r.shaft).core) ∧
        (∀ v, s.station c.drive = some v → ∃ u w : State, u = w.offer v.homePort .safety
            { dest := v.address, src := s.globals.own, kind := 0x11#8, payload := .raw [0#8] } ∧
          t = ((u.setShutter i .descending).modShutter i fun x => { x with forced := true }).notify (.shutterForced i)) ∧
        (∀ j, j ≠ i → t.shutterLive j = s.shutterLive j) ∧ t.net.mgmt.sticky.getLsbD 3 = true ∧
        ChangesOnly [.shutters, .shafts, .calls, .arbiters, .day, .net, .tokens, .now] s t) ∧
    ((s.shutterLive i).warning = some e → (s.shutterLive i).state = .warning →
      ∃ t : State, exec (.warningTimeout i) s = .next t ∧ ChangesOnly [.shutters, .shafts, .net, .now] s t ∧
        (∀ k, (t.shaft k).core = (s.shaft k).core) ∧ (∀ j, j ≠ i → t.shutterLive j = s.shutterLive j) ∧
        (∀ v, s.station c.drive = some v → ∃ u w : State, w.net = s.net ∧ u = w.offer v.homePort .safety
            { dest := v.address, src := s.globals.own, kind := 0x11#8, payload := .raw [0#8] } ∧
          t = u.setShutter i .descending) ∧
        t.shutterLive i = { s.shutterLive i with
          state := .descending, warning := none, command := some .release, sends := 1, complied := false
          resend := some (max s.now e + 1000000), motion := some (max s.now e + 1000000 * c.descentLimit) }) ∧
    (∀ tm, (tm = .clearanceTimeout i ∧ (s.shutterLive i).clearance = some e ∧ (s.shutterLive i).state ≠ .releaseWait ∨
        tm = .warningTimeout i ∧ (s.shutterLive i).warning = some e ∧ (s.shutterLive i).state ≠ .warning) →
      ∃ t : State, exec tm s = .next t ∧ ChangesOnly [.shutters, .now] s t ∧
        (t.shutterLive i).state = (s.shutterLive i).state ∧ (t.shutterLive i).command = (s.shutterLive i).command) ∧
    ((s.shutterLive i).motion = some e → ∃ t : State, exec (.motionTimeout i) s = .next t ∧
        ChangesOnly [.shutters, .shafts, .net, .now] s t ∧ (∀ k, (t.shaft k).core = (s.shaft k).core) ∧
        (∀ j, j ≠ i → t.shutterLive j = s.shutterLive j) ∧
        t.shutterLive i = { s.shutterLive i with
          motion := none
          faults := { (s.shutterLive i).faults with
            slow := (s.shutterLive i).faults.slow || decide ((s.shutterLive i).command = some .raise ∨
              (s.shutterLive i).state = .raising ∨ (s.shutterLive i).state = .descending) } })

/-- A PRESS: refused in a closed store for SERVICE and CASH, merged into the record that answers to it, else a new
record at the tail of the list; a full table refuses all but an URGENT press, which displaces the oldest SERVICE
record. A CALL frame from a sender that is no call point, or unknown, or with an action or a class outside the listed
ones, is counted bad-call and nothing else. R102 names no step for a CALL whose action is neither PRESS nor CANCEL: that
the PRESS step takes it is the model's choice (notes/assumptions/1.md). (R100, R102, R103, R104, R107) -/
def Obligations.PressTakesMergesOrRefuses : Prop :=
  (∀ (s s₁ : State) (r : Received) (b : Byte) (p : Nat) (c : StationCfg) (k : CallClass),
    Tapped s .press r → s₁ = s.takeHead r → r.frame.payload = [0#8, b] → s₁.findStation r.frame.src = some p →
    s₁.station p = some c → c.role = .callPoint → CallClass.ofByte b = some k →
    (s₁.day.mode = .closed → k ∈ [CallClass.service, .cash] → exec .callPress s = .next (s₁.modCalls fun c =>
      { c with counters := { c.counters with refused := bump c.counters.refused } })) ∧
    (¬ (s₁.day.mode = .closed ∧ k ∈ [CallClass.service, .cash]) →
      (∀ x, s₁.answering p k = some x → ∃ t : State, exec .callPress s = .next t ∧
        t.calls.records = s₁.calls.records.map (fun y =>
          if y.number = x.number then { y with repeats := bumpRepeat y.repeats } else y) ∧
        t.calls.counters = s₁.calls.counters ∧ t.calls.lastNumber = s₁.calls.lastNumber ∧
        ChangesOnly [.calls, .arbiters, .net, .tokens] s₁ t) ∧
      (s₁.answering p k = none → s₁.calls.records.length < 48 → ∃ (t : State) (x : CallRecord),
        exec .callPress s = .next t ∧ t.calls.records = s₁.calls.records ++ [x] ∧
        x = { point := p, cls := k, pressed := k, number := x.number, held := s₁.overlayOf c.zone
              target := s₁.intakeTarget p
              timer := if s₁.overlayOf c.zone then none else
                some (s.now + 1000000 * (if k = .urgent then s.globals.escalation / 2 else s.globals.escalation)) } ∧
        t.calls.lastNumber = x.number ∧ (∀ y ∈ s₁.calls.records, y.number ≠ x.number) ∧
        t.calls.counters = { s₁.calls.counters with taken := bump s₁.calls.counters.taken } ∧
        ChangesOnly [.calls, .arbiters, .net, .tokens] s₁ t) ∧
      (s₁.answering p k = none → 48 ≤ s₁.calls.records.length →
        (k ≠ .urgent ∨ ∀ y ∈ s₁.calls.records, y.cls ≠ .service) → exec .callPress s = .next (s₁.modCalls fun c =>
          { c with counters := { c.counters with refused := bump c.counters.refused } })) ∧
      (∀ old, s₁.answering p k = none → 48 ≤ s₁.calls.records.length → k = .urgent →
        (s₁.calls.records.find? fun y => decide (y.cls = .service)) = some old → ∃ (t : State) (x : CallRecord),
        exec .callPress s = .next t ∧ x.point = p ∧ x.cls = k ∧ x.step = 0 ∧
        t.calls.records = (s₁.calls.records.filter fun y => decide (y.number ≠ old.number)) ++ [x] ∧
        t.calls.counters = { s₁.calls.counters with
          taken := bump s₁.calls.counters.taken, cleared := bump s₁.calls.counters.cleared
          displaced := bump s₁.calls.counters.displaced } ∧
        ChangesOnly [.calls, .arbiters, .net, .tokens] s₁ t))) ∧
  ((∀ (s s₁ : State) (r : Received) (a b : Byte), Tapped s .press r → s₁ = s.takeHead r → r.frame.payload = [a, b] →
    (a ≠ 0#8 ∨ CallClass.ofByte b = none ∨
      (∀ p c, s₁.findStation r.frame.src = some p → s₁.station p = some c → c.role ≠ .callPoint)) →
    exec .callPress s = .next (s₁.modCalls fun c =>
      { c with counters := { c.counters with badCall := bump c.counters.badCall } })) ∧
  (∀ (s s₁ : State) (r : Received) (a b : Byte), Tapped s .cancel r → s₁ = s.takeHead r → r.frame.payload = [a, b] →
    (CallClass.ofByte b = none ∨
      (∀ p c, s₁.findStation r.frame.src = some p → s₁.station p = some c → c.role ≠ .callPoint)) →
    exec .callCancel s = .next (s₁.modCalls fun c =>
      { c with counters := { c.counters with badCall := bump c.counters.badCall } })) ∧
  ∀ b : Byte, CallClass.ofByte b = none ↔ 4 ≤ b.toNat)

/-- A CANCEL from its call point, or an acknowledgement from an annunciator, removes the record that answers: no ring
of it is left at any sounder, every PRESENT annunciator has its present list, and an acknowledged call point is told
so. With no record answering only the unmatched counter moves. The escalation timer of a record: at step 0 the record
goes to its next target with a new timer; at step 1 it becomes URGENT to OFFICE with no timer, or is merged into the
URGENT record of its call point. (R99, R105, R106, R107, R108, R109, R110, R111) -/
def Obligations.RecordsLeaveOrEscalate : Prop :=
  ((∀ (s s₁ : State) (r : Received) (b : Byte) (p : Nat) (c : StationCfg) (k : CallClass),
    Tapped s .cancel r → s₁ = s.takeHead r → r.frame.payload = [1#8, b] → s₁.findStation r.frame.src = some p →
    s₁.station p = some c → c.role = .callPoint → CallClass.ofByte b = some k →
    (s₁.answering p k = none → exec .callCancel s = .next (s₁.modCalls fun c =>
      { c with counters := { c.counters with unmatched := bump c.counters.unmatched } })) ∧
    ∀ x, s₁.answering p k = some x → ∃ t : State, exec .callCancel s = .next t ∧
      t.calls.records = (s₁.calls.records.filter fun y => decide (y.number ≠ x.number)) ∧
      t.calls.counters = { s₁.calls.counters with cleared := bump s₁.calls.counters.cleared } ∧
      (∀ j, t.ringPending j (.call x.number) = false ∧ t.ringInForce j (.call x.number) = false) ∧
      (∀ j ∈ t.stationsOf .annunciator, t.isPresent j = true → t.calls.shown.at? j = some (t.displayList j)) ∧
      ChangesOnly [.calls, .arbiters, .net, .tokens] s₁ t) ∧
  (∀ (s s₁ : State) (r : Received) (hi lo b : Byte) (q p : Nat) (d c : StationCfg) (k : CallClass),
    Tapped s .ack r → s₁ = s.takeHead r → r.frame.payload = [hi, lo, b] → s₁.findStation r.frame.src = some q →
    s₁.station q = some d → d.role = .annunciator → s₁.findStation (word16 hi lo) = some p → s₁.station p = some c →
    c.role = .callPoint → CallClass.ofByte b = some k →
    (s₁.answering p k = none → exec .callAck s = .next (s₁.modCalls fun c =>
      { c with counters := { c.counters with unmatched := bump c.counters.unmatched } })) ∧
    ∀ x, s₁.answering p k = some x → ∃ t : State, exec .callAck s = .next t ∧
      t.calls.records = (s₁.calls.records.filter fun y => decide (y.number ≠ x.number)) ∧
      t.calls.counters = { s₁.calls.counters with acked := bump s₁.calls.counters.acked } ∧
      (∀ j, t.ringPending j (.call x.number) = false ∧ t.ringInForce j (.call x.number) = false) ∧
      (∀ j ∈ t.stationsOf .annunciator, t.isPresent j = true → t.calls.shown.at? j = some (t.displayList j)) ∧
      (s₁.isPresent p = true → ∃ u : State, t = u.offer c.homePort .normal
        { dest := c.address, src := s.globals.own, kind := 0x21#8, payload := .raw [1#8] }) ∧
      ChangesOnly [.calls, .arbiters, .net, .tokens] s₁ t)) ∧
  (∀ (n e : Nat) (r : CallRecord) (s : State), s.record n = some r → r.timer = some e →
    (r.step = 0 → ∃ t : State, exec (.escalationStep1 n) s = .next t ∧ t.now = max s.now e ∧
      t.calls.records = s.calls.records.map (fun y => if y.number = n then { r with
        step := 1
        target := if r.target = .primary ∧ s.available r.point .secondary = true then .secondary else .office
        timer := some (max s.now e +
          1000000 * (if r.cls = .urgent then s.globals.escalation / 2 else s.globals.escalation)) } else y) ∧
      t.calls.counters = s.calls.counters ∧ ChangesOnly [.calls, .arbiters, .net, .tokens, .now] s t) ∧
    (r.step = 1 → (∀ x ∈ s.calls.records, x.point = r.point → x.cls = .urgent → x.number = n) →
      ∃ t : State, exec (.escalationStep2 n) s = .next t ∧ t.now = max s.now e ∧
      t.calls.records = s.calls.records.map (fun y => if y.number = n then
        { r with cls := .urgent, target := .office, step := 2, timer := none } else y) ∧
      t.calls.counters = s.calls.counters ∧ t.net.mgmt.sticky.getLsbD 19 = true ∧
      ChangesOnly [.calls, .arbiters, .net, .tokens, .now] s t) ∧
    (r.step = 1 → ∀ x, (s.calls.records.find? fun x => decide (x.point = r.point ∧ x.cls = .urgent ∧ x.number ≠ n)) = some x →
      ∃ t : State, exec (.escalationStep2 n) s = .next t ∧ t.now = max s.now e ∧
      t.calls.records = ((s.calls.records.map fun y => if y.number = x.number then
        { x with step := 2, target := .office, timer := none, repeats := bumpRepeat x.repeats } else y).filter
          fun y => decide (y.number ≠ n)) ∧
      t.calls.counters = { s.calls.counters with cleared := bump s.calls.counters.cleared } ∧
      t.net.mgmt.sticky.getLsbD 19 = true ∧ ChangesOnly [.calls, .arbiters, .net, .tokens, .now] s t))

/-- The choice of a ring: the oldest URGENT request, else the oldest of the first class that has one, from the class
after the last served in ROTATING mode and in the fixed order in FIXED mode; a non-empty list always gives one. The
events of a sounder: the sent report makes its pattern SOUNDING; the end of a pattern, and the start limit, free the
sounder for the next chosen request, whose TOLL frame is queued and whose class becomes the last served unless it is
URGENT; preemption queues a STOP and serves the oldest request at once; the refresh repeats CONTINUOUS. (R118, R123,
R124, R125, R126) -/
def Obligations.SounderEventsServeTheChosenRing : Prop :=
  (∀ (m : SounderMode) (last : RingClass) (pending : List Ring),
    (chooseRing m last pending = none ↔ pending = []) ∧
    ∀ r, chooseRing m last pending = some r → ∃ a b, pending = a ++ r :: b ∧ (∀ x ∈ a, x.cls ≠ r.cls) ∧
      ((∃ x ∈ pending, x.cls = .urgent) → r.cls = .urgent) ∧
      (r.cls ≠ .urgent → ∀ c ∈ (match m with | .rotating => last.circleAfter | .fixed => fixedOrder).takeWhile (· ≠ r.cls),
        ∀ x ∈ pending, x.cls ≠ c)) ∧
  (∀ (i e tok : Nat) (a : Arbiter) (c : RingClass) (o : RingOwner) (p : Pattern) (s : State), s.arbiter i = some a →
    (∀ (q : Nat) (h : Hand) (f : TxFrame), q < 5 → (s.port q).hand = some h → h.phase = .sending →
      h.source = .queue .normal → (s.port q).headOf .normal = some f → f.report = .toll i tok →
      a.inForce = .timed c o p tok (.starting e) →
      ∃ t : State, exec (.frameSent q) s = .next t ∧ ChangesOnly [.arbiters, .net] s t ∧
        (∀ j, j ≠ i → t.arbiter j = s.arbiter j) ∧
        t.arbiter i = some { a with
          inForce := .timed c o p tok (.sounding (s.now + patternLength p))
          preempt := if a.pending = [] then a.preempt else if c = .urgent ∨ s.globals.preemptWait = 0 then none
            else some (s.now + 1000000 * s.globals.preemptWait) }) ∧
    (a.inForce = .timed c o p tok (.sounding e) → a.service = .arbitrating →
      (a.pending = [] → exec (.patternEnd i) s = .next ((s.reach e).modArbiter i fun a =>
        { a with inForce := .none, preempt := none })) ∧
      ∀ r, chooseRing s.globals.sounderMode a.lastServed a.pending = some r → ∃ (t : State) (b : Arbiter),
        exec (.patternEnd i) s = .next t ∧ t.arbiter i = some b ∧ b.pending = a.pending.erase r ∧ b.preempt = none ∧
        b.inForce = .timed r.cls r.owner (patternSent (s.effective i) r.pattern) s.tokens (.starting (max s.now e + 2000000)) ∧
        b.counters = { a.counters with served := bump a.counters.served } ∧
        b.lastServed = (if r.cls = .urgent then a.lastServed else r.cls) ∧ (∀ j, j ≠ i → t.arbiter j = s.arbiter j) ∧
        (∀ v, s.station i = some v → s.isPresent i = true → t.net = ((s.reach e).offer v.homePort .normal
          { dest := v.address, src := s.globals.own, kind := 0x23#8, report := .toll i s.tokens
            payload := .raw (Toll.timed (patternSent (s.effective i) r.pattern)).payload }).net) ∧
        (s.isPresent i = false → t.net = s.net) ∧
        ChangesOnly [.arbiters, .net, .tokens, .now] s t) ∧
    (a.inForce = .timed c o p tok (.starting e) → a.service = .arbitrating →
      (a.pending = [] → exec (.startLimit i) s = .next ((s.reach e).modArbiter i fun a => { a with
        inForce := .none, preempt := none, counters := { a.counters with notSent := bump a.counters.notSent } })) ∧
      ∀ r, chooseRing s.globals.sounderMode a.lastServed a.pending = some r → ∃ (t : State) (b : Arbiter),
        exec (.startLimit i) s = .next t ∧ t.arbiter i = some b ∧ b.pending = a.pending.erase r ∧ b.preempt = none ∧
        b.inForce = .timed r.cls r.owner (patternSent (s.effective i) r.pattern) s.tokens (.starting (max s.now e + 2000000)) ∧
        b.counters = { a.counters with
          served := bump a.counters.served, notSent := bump a.counters.notSent } ∧
        b.lastServed = (if r.cls = .urgent then a.lastServed else r.cls) ∧ (∀ j, j ≠ i → t.arbiter j = s.arbiter j) ∧
        (∀ v, s.station i = some v → s.isPresent i = true → t.net = ((s.reach e).offer v.homePort .normal
          { dest := v.address, src := s.globals.own, kind := 0x23#8, report := .toll i s.tokens
            payload := .raw (Toll.timed (patternSent (s.effective i) r.pattern)).payload }).net) ∧
        (s.isPresent i = false → t.net = s.net) ∧
        ChangesOnly [.arbiters, .net, .tokens, .now] s t) ∧
    (∀ ph r rest, a.preempt = some e → a.inForce = .timed c o p tok ph → a.pending = r :: rest →
      ∃ (t : State) (b : Arbiter), exec (.preemptTimeout i) s = .next t ∧ t.arbiter i = some b ∧ b.pending = rest ∧
        b.preempt = none ∧
        b.inForce = .timed r.cls r.owner (patternSent (s.effective i) r.pattern) s.tokens (.starting (max s.now e + 2000000)) ∧
        b.counters = { a.counters with
          served := bump a.counters.served, preempted := bump a.counters.preempted } ∧
        b.lastServed = (if r.cls = .urgent then a.lastServed else r.cls) ∧
        (∀ v, s.station i = some v → s.isPresent i = true → t.net = (((s.reach e).offer v.homePort
            (if a.lastSent = some .continuous then .safety else .normal)
            { dest := v.address, src := s.globals.own, kind := 0x23#8, payload := .raw [0#8, 0#8, 0#8] }).offer
          v.homePort .normal
          { dest := v.address, src := s.globals.own, kind := 0x23#8, report := .toll i s.tokens
            payload := .raw (Toll.timed (patternSent (s.effective i) r.pattern)).payload }).net) ∧
        (∀ j, j ≠ i → t.arbiter j = s.arbiter j) ∧ ChangesOnly [.arbiters, .net, .tokens, .now] s t) ∧
    (a.refresh = some e → ∃ t : State, exec (.evacRefresh i) s = .next t ∧
      t.arbiter i = some { a with
        refresh := some (max s.now e + 10000000)
        lastSent := if s.isPresent i then some .continuous else a.lastSent } ∧
      (∀ j, j ≠ i → t.arbiter j = s.arbiter j) ∧ ChangesOnly [.arbiters, .net, .now] s t ∧
      (∀ v, s.station i = some v → s.isPresent i = true → ∃ u : State, t = u.offer v.homePort .safety
        { dest := v.address, src := s.globals.own, kind := 0x23#8, payload := .raw [3#8, 0#8, 0#8] })))

/-- A stored-announcement request while an announcement plays: it joins the tail of the queue, an urgent one joins
behind the urgent ones already waiting; in a full queue an urgent request displaces the last non-urgent one, any other
is refused. That a refused request takes no number is the model's choice (notes/assumptions/28.md). The start of a
stored announcement, by a PLAY while STORED is IDLE and nothing waits. `eligible` are the zones of its mask that
follow neither EVAC nor PAGE and are outside the alarm overlay, `taken` those of them with a PRESENT speaker: with one
such zone it plays from sample 0, its first block emitted at once, and its zones follow STORED; with none it is
counted bell-only where an eligible zone has a sounder, else skipped. Each sounder of an eligible zone without a
PRESENT speaker is given a fallback ring, CHIME x 2, counted if taken. A zone is lost to the current announcement when
the page takes it, when it enters ALARM, and when its last PRESENT speaker is lost: it leaves the taken set for good,
and the lost zones are counted; a zone without a speaker has a fallback ring at each of its sounders. With no zone
left the announcement is abandoned, counted and reported, and, nothing waiting, STORED is IDLE. A speaker lost from a
zone that keeps another changes nothing. (R121, R150, R155, R156, R157, R159) -/
def Obligations.StoredRequestsQueue : Prop :=
  (∀ (s : State) (phrase gain : Nat) (zones : ZoneMask) (urgent : Bool) (origin : RequestOrigin) (r : StoredRequest),
    s.phraseValid phrase = true → zones ≠ 0#16 → s.playback.stored.isSome = true →
    r = { phrase := phrase, zones := zones, gain := gain, urgent := urgent, origin := origin
          number := (s.playback.lastRequest + 1) % 65536 } →
    (s.playback.queue.length < 8 → urgent = false →
      s.placeStored phrase zones gain urgent origin =
        (s.modPlayback fun p => { p with lastRequest := r.number, queue := p.queue ++ [r] }, true)) ∧
    (s.playback.queue.length < 8 → urgent = true → ∃ a b, s.playback.queue = a ++ b ∧ (∀ x ∈ a, x.urgent = true) ∧
      (∀ x ∈ b.head?, x.urgent = false) ∧ s.placeStored phrase zones gain urgent origin =
        (s.modPlayback fun p => { p with lastRequest := r.number, queue := a ++ r :: b }, true)) ∧
    (8 ≤ s.playback.queue.length → urgent = true → (∃ x ∈ s.playback.queue, x.urgent = false) → ∃ a x b,
      s.playback.queue = a ++ x :: b ∧ x.urgent = false ∧ (∀ y ∈ b, y.urgent = true) ∧
      s.placeStored phrase zones gain urgent origin =
        (s.modPlayback fun p => { p with
          lastRequest := r.number, queue := joinUrgent r (a ++ b)
          counters := { p.counters with displaced := bump p.counters.displaced } }, true)) ∧
    (8 ≤ s.playback.queue.length → (urgent = false ∨ ∀ x ∈ s.playback.queue, x.urgent = true) →
      s.placeStored phrase zones gain urgent origin =
        (s.modPlayback fun p => { p with
          counters := { p.counters with refusedFull := bump p.counters.refusedFull } }, false))) ∧
  (∀ (f : PlayFields) (eligible taken : ZoneMask) (s s₁ : State) (r : Received), Accepted s .order none r →
    s₁ = s.takeHead r → f.phrase ≤ 127 → (s₁.phrase f.phrase).validity = .valid → f.zones ≠ 0#16 →
    s₁.playback.stored = none → s₁.playback.queue = [] →
    (∀ z < 16, eligible.getLsbD z = true ↔ f.zones.getLsbD z = true ∧ s₁.takesEvac z = false ∧ s₁.takesPage z = false ∧
      s₁.overlay z = false) →
    (∀ z < 16, taken.getLsbD z = true ↔ eligible.getLsbD z = true ∧
      ∃ i c, s₁.station i = some c ∧ c.role = .speaker ∧ c.zone = some z ∧ s₁.isPresent i = true) →
    ∃ mid : State, exec (.play (some f)) s = .next (mid.reply r.ticket (if 511 < f.gain then .clamped else .done)
        (.requestNumber ((s₁.playback.lastRequest + 1) % 65536))) ∧
      ChangesOnly [.playback, .arbiters, .net, .tokens] s₁ mid ∧ mid.playback.queue = [] ∧
      mid.playback.lastRequest = (s₁.playback.lastRequest + 1) % 65536 ∧
      (taken ≠ 0#16 → mid.playback.stored = some {
          request := { phrase := f.phrase, zones := f.zones, gain := min 511 f.gain, urgent := f.urgent, origin := .order
                       number := (s₁.playback.lastRequest + 1) % 65536 }
          taken := taken
          cursor := { entry := s₁.phrase f.phrase
                      gain := min 511 (min 511 f.gain * (s₁.phrase f.phrase).gain / 256), sample := 24 }
          block := 1, clock := some (s.now + 3000) } ∧
        (∀ z < 16, taken.getLsbD z = true → mid.zoneChan z = .stored) ∧
        mid.playback.counters.bellOnly = s₁.playback.counters.bellOnly ∧
        mid.playback.counters.skipped = s₁.playback.counters.skipped) ∧
      (taken = 0#16 → mid.playback.stored = none ∧
        ((∃ i c, s₁.station i = some c ∧ c.role = .sounder ∧ (c.zone.any eligible.getLsbD) = true) →
          mid.playback.counters.bellOnly = bump s₁.playback.counters.bellOnly ∧
          mid.playback.counters.skipped = s₁.playback.counters.skipped) ∧
        ((∀ i c, s₁.station i = some c → c.role = .sounder → (c.zone.any eligible.getLsbD) = false) →
          mid.playback.counters.bellOnly = s₁.playback.counters.bellOnly ∧
          mid.playback.counters.skipped = bump s₁.playback.counters.skipped)) ∧
      (∀ i c a, s₁.station i = some c → c.role = .sounder → s₁.arbiter i = some a →
        ((c.zone.any fun z => eligible.getLsbD z && !taken.getLsbD z) = true →
          ∃ b, mid.arbiter i = some b ∧ s₁.Placed i .fallback (.chime 2) .playback a b) ∧
        ((c.zone.any fun z => eligible.getLsbD z && !taken.getLsbD z) = false → mid.arbiter i = some a)) ∧
      mid.playback.counters.fallback = bumpBy ((List.range 96).filter fun i =>
        (s₁.station i).any (fun c => decide (c.role = .sounder) &&
          c.zone.any fun z => eligible.getLsbD z && !taken.getLsbD z) && s₁.isPresent i &&
        (s₁.arbiter i).any fun a => decide (a.pending.length < 8) || a.pending.any fun x => decide (x.owner = .playback)).length
          s₁.playback.counters.fallback) ∧
  ((∀ (f : PageFields) (p : StoredPlay) (s s₁ : State) (r : Received), Accepted s .order none r → s₁ = s.takeHead r →
    f.zones ≠ 0#16 → s₁.playback.page.phase = .idle → s₁.playback.stored = some p → p.cursor.sample ≠ 0 →
    (∀ z < 16, p.taken.getLsbD z = true → s₁.keepsZone z = true ∧ s₁.presentSpeakers z ≠ []) →
    ∃ mid : State, exec (.pageStart (some f)) s = .next (mid.reply r.ticket (if 511 < f.gain then .clamped else .done)) ∧
      ChangesOnly [.playback, .arbiters, .net, .tokens] s₁ mid ∧
      mid.playback.counters.lostZone = bumpBy ((List.range 16).filter fun z =>
        p.taken.getLsbD z && f.zones.getLsbD z).length s₁.playback.counters.lostZone ∧
      (p.taken &&& ~~~ f.zones ≠ 0#16 → mid.playback.stored = some { p with taken := p.taken &&& ~~~ f.zones } ∧
        mid.playback.queue = s₁.playback.queue ∧ mid.playback.counters.abandoned = s₁.playback.counters.abandoned ∧
        (∀ i, mid.arbiter i = s₁.arbiter i)) ∧
      (p.taken &&& ~~~ f.zones = 0#16 → mid.playback.counters.abandoned = bump s₁.playback.counters.abandoned ∧
        mid.net.mgmt.sticky.getLsbD 21 = true ∧
        (s₁.playback.queue = [] → mid.playback.stored = none ∧ ∀ i, mid.arbiter i = s₁.arbiter i))) ∧
  (∀ (s s₁ : State) (r : Received) (n b : Byte) (d i : Nat) (c : PointCfg) (p : StoredPlay),
    Tapped s .detect r → s₁ = s.takeHead r → r.frame.payload = [n, b] → s₁.findStation r.frame.src = some d →
    s₁.findPoint d n.toNat = some i → s₁.point i = some c → c.zone < 16 → PointState.ofByte b = some .manual →
    (s₁.zone c.zone).state ∈ [ZoneState.normal, .alert] → s.globals.standbyPhrase = none →
    s₁.playback.stored = some p → p.cursor.sample ≠ 0 → p.taken.getLsbD c.zone = true →
    (∀ z < 16, p.taken.getLsbD z = true → s₁.keepsZone z = true ∧ s₁.presentSpeakers z ≠ []) →
    ∃ t : State, exec .detect s = .next t ∧
      t.playback.counters.lostZone = bump s₁.playback.counters.lostZone ∧
      (p.taken &&& ~~~ ZoneMask.single c.zone ≠ 0#16 →
        t.playback.stored = some { p with taken := p.taken &&& ~~~ ZoneMask.single c.zone } ∧
        t.playback.queue = s₁.playback.queue ∧ t.playback.counters.abandoned = s₁.playback.counters.abandoned) ∧
      (p.taken &&& ~~~ ZoneMask.single c.zone = 0#16 →
        t.playback.counters.abandoned = bump s₁.playback.counters.abandoned ∧ t.net.mgmt.sticky.getLsbD 21 = true ∧
        (s₁.playback.queue = [] → t.playback.stored = none))) ∧
  ∀ (i e z : Nat) (c : StationCfg) (p : StoredPlay) (s : State), s.station i = some c → c.role = .speaker →
    c.zone = some z → z < 16 → (s.stationLive i).presence = .present → (s.stationLive i).missed = 2 →
    (s.stationLive i).supervision = some e → s.playback.stored = some p → p.cursor.sample ≠ 0 →
    p.taken.getLsbD z = true →
    (∀ y < 16, p.taken.getLsbD y = true → s.keepsZone y = true ∧ s.presentSpeakers y ≠ []) →
    ∃ t : State, exec (.supervisionTimeout i) s = .next t ∧
      ((∃ j d, j ≠ i ∧ s.station j = some d ∧ d.role = .speaker ∧ d.zone = some z ∧ s.isPresent j = true) →
        t.playback.stored = some p ∧ t.playback.counters = s.playback.counters ∧ ∀ j, t.arbiter j = s.arbiter j) ∧
      ((∀ j d, j ≠ i → s.station j = some d → d.role = .speaker → d.zone = some z → s.isPresent j = false) →
        t.playback.counters.lostZone = bump s.playback.counters.lostZone ∧
        (p.taken &&& ~~~ ZoneMask.single z ≠ 0#16 →
          t.playback.stored = some { p with taken := p.taken &&& ~~~ ZoneMask.single z } ∧
          ∀ j d a, s.station j = some d → d.role = .sounder → s.arbiter j = some a →
            (d.zone = some z → ∃ b, t.arbiter j = some b ∧ (s.reach e).Placed j .fallback (.chime 2) .playback a b) ∧
            (d.zone ≠ some z → t.arbiter j = some a)) ∧
        (p.taken &&& ~~~ ZoneMask.single z = 0#16 →
          t.playback.counters.abandoned = bump s.playback.counters.abandoned ∧
          (s.playback.queue = [] → t.playback.stored = none ∧
            ∀ j d a, s.station j = some d → d.role = .sounder → s.arbiter j = some a → d.zone = some z →
              ∃ b, t.arbiter j = some b ∧ (s.reach e).Placed j .fallback (.chime 2) .playback a b))))

/-- PLAY is checked in the order of its table; a request that the queue takes is answered DONE or CLAMPED with its
number. That a PLAY answered BAD_VALUE is not counted as refused-invalid is the model's choice
(notes/assumptions/43.md). (R155, R158) -/
def Obligations.PlayIsCheckedAndPlaced : Prop :=
  ∀ (f : PlayFields) (s s₁ : State) (r : Received), Accepted s .order none r → s₁ = s.takeHead r →
    (127 < f.phrase → exec (.play (some f)) s = .next (s₁.reply r.ticket .badIndex)) ∧
    (f.phrase ≤ 127 → (s₁.phrase f.phrase).validity ≠ .valid ∨ f.zones = 0#16 →
      exec (.play (some f)) s = .next (s₁.reply r.ticket .badValue)) ∧
    (f.phrase ≤ 127 → (s₁.phrase f.phrase).validity = .valid → f.zones ≠ 0#16 →
      ((s₁.placeStored f.phrase f.zones (min 511 f.gain) f.urgent .order).2 = true ↔
        s₁.playback.queue.length < 8 ∨ f.urgent = true ∧ ∃ x ∈ s₁.playback.queue, x.urgent = false) ∧
      ((s₁.placeStored f.phrase f.zones (min 511 f.gain) f.urgent .order).2 = false →
        exec (.play (some f)) s =
          .next ((s₁.placeStored f.phrase f.zones (min 511 f.gain) f.urgent .order).1.reply r.ticket .busy)) ∧
      ((s₁.placeStored f.phrase f.zones (min 511 f.gain) f.urgent .order).2 = true → exec (.play (some f)) s =
        .next ((s₁.placeStored f.phrase f.zones (min 511 f.gain) f.urgent .order).1.settlePlayback.reply r.ticket
          (if 511 < f.gain then .clamped else .done) (.requestNumber ((s₁.playback.lastRequest + 1) % 65536)))) ∧
      (s₁.placeStored f.phrase f.zones (min 511 f.gain) f.urgent .order).1.playback.counters.displaced =
        if s₁.playback.queue.length < 8 ∨ f.urgent = false ∨ ∀ x ∈ s₁.playback.queue, x.urgent = true then
          s₁.playback.counters.displaced else bump s₁.playback.counters.displaced)

/-- A block moment of EVAC or STORED emits the next 24 samples and moves the channel on by a block of 3 ms; after the
last block EVAC begins its phrase again and STORED ends. The refresh of EVAC sends TUNE EVAC, in the SAFETY class,
once to every PRESENT speaker of the zones that follow it. That samples are 0 and each moment is counted while a block
is programmed, for a phrase that plays already, is the model's choice (notes/assumptions/20.md). (R151, R152, R154,
R156, R178) -/
def Obligations.BlockMomentsEmitAndAdvance : Prop :=
  (∀ (p : EvacPlay) (e : Nat) (s : State), s.playback.evac = some p → p.clock = some e →
    p.cursor.entry.start + 2 * p.cursor.entry.count ≤ 8388608 → p.cursor.sample < p.cursor.entry.count →
    ∃ t : State, exec (.blockMoment .evac) s = .next t ∧ t.now = max s.now e ∧
      t.playback = { s.playback with evac := some { p with
        cursor := { p.cursor with sample := p.cursor.sample + 24 }, block := (p.block + 1) % 256
        clock := some (e + 3000) } } ∧
      t.net.ports = ((s.reach e).emit .evac 0xFFA1#16 p.block
        ((List.range 24).map fun k => p.cursor.output s.store s.settings.writing.isSome (p.cursor.sample + k))).net.ports ∧
      t.net.mgmt = { s.net.mgmt with phraseBusy :=
        if s.settings.writing.isSome then bump s.net.mgmt.phraseBusy else s.net.mgmt.phraseBusy } ∧
      ChangesOnly [.playback, .net, .now] s t) ∧
  (∀ (p : EvacPlay) (e n : Nat) (s : State), s.playback.evac = some p → p.clock = some e →
    p.cursor.entry.count ≤ p.cursor.sample → s.globals.evacPhrase = some n →
    (s.phrase n).start + 2 * (s.phrase n).count ≤ 8388608 →
    ∃ (t : State) (q : EvacPlay), exec (.blockMoment .evac) s = .next t ∧ t.playback.evac = some q ∧
      q.cursor = { entry := s.phrase n, gain := min 511 (s.globals.evacGain * (s.phrase n).gain / 256), sample := 24 } ∧
      q.block = (p.block + 1) % 256 ∧ q.clock = some (e + 3000) ∧ q.refresh = p.refresh ∧
      t.net.ports = ((s.reach e).emit .evac 0xFFA1#16 p.block ((List.range 24).map fun k =>
        Cursor.output { entry := s.phrase n, gain := min 511 (s.globals.evacGain * (s.phrase n).gain / 256) }
          s.store s.settings.writing.isSome k)).net.ports ∧
      t.now = max s.now e ∧ ChangesOnly [.playback, .net, .now] s t) ∧
  (∀ (p : StoredPlay) (e : Nat) (s : State), s.playback.stored = some p → p.clock = some e →
    p.cursor.entry.start + 2 * p.cursor.entry.count ≤ 8388608 →
    (p.cursor.sample + 24 < p.cursor.entry.count →
      ∃ t : State, exec (.blockMoment .stored) s = .next t ∧ t.now = max s.now e ∧
      t.playback = { s.playback with stored := some { p with
        cursor := { p.cursor with sample := p.cursor.sample + 24 }, block := (p.block + 1) % 256
        clock := some (e + 3000) } } ∧
      t.net.ports = ((s.reach e).emit .stored 0xFFA3#16 p.block
        ((List.range 24).map fun k => p.cursor.output s.store s.settings.writing.isSome (p.cursor.sample + k))).net.ports ∧
      ChangesOnly [.playback, .net, .now] s t) ∧
    (p.cursor.entry.count ≤ p.cursor.sample + 24 → s.playback.queue = [] →
      ∃ t w : State, exec (.blockMoment .stored) s = .next t ∧ t = w.settlePlayback ∧ w.playback.stored = none ∧
      w.net.ports = ((s.reach e).emit .stored 0xFFA3#16 p.block
        ((List.range 24).map fun k => p.cursor.output s.store s.settings.writing.isSome (p.cursor.sample + k))).net.ports ∧
      t.playback.stored = none ∧
      t.playback.counters = { s.playback.counters with completed := bump s.playback.counters.completed } ∧
      ChangesOnly [.playback, .arbiters, .net, .tokens, .now] s t)) ∧
  ∀ (p : EvacPlay) (e : Nat) (s : State), s.playback.evac = some p → p.refresh = some e →
    ∃ t : State, exec .tuneEvacRefresh s = .next t ∧ t.now = max s.now e ∧
      t.playback.evac = some { p with refresh := some (e + 10000000) } ∧
      (∀ z < 16, ∀ i, s.zoneChan z = .evac → i ∈ s.presentSpeakers z → t.playback.tuning.at? i = some .evac) ∧
      (∃ (is : List Nat) (w : State), is.Nodup ∧ w.net = s.net ∧ t = is.foldl State.tune w ∧
        (∀ i, i ∈ is ↔ ∃ z < 16, s.zoneChan z = .evac ∧ i ∈ s.presentSpeakers z) ∧
        ∀ (i : Nat) (v : StationCfg) (u : State), i ∈ is → s.station i = some v → ChangesOnly [.playback, .net, .now] s u →
          u.playback.zoneMap = s.playback.zoneMap → (u.tune i).net = (u.offer v.homePort .safety
            { dest := v.address, src := s.globals.own, kind := 0x31#8
              payload := .raw [1#8, if (s.effective i).fade then 1#8 else 0#8] }).net) ∧
      t.playback.zoneMap = s.playback.zoneMap ∧ ChangesOnly [.playback, .net, .now] s t

/-- A frame of samples for the page is placed in the jitter buffer by its distance from the next number: in order or
over a gap of at most 4, in place of a silence, as a duplicate, as late, or as a fresh start; each case has its
counter, a gap counting the silences that fill it. A block appended to a full buffer first drops the oldest one, which
is counted as an overflow, and the next number moves on. The third block starts the playing, and the first block is
then emitted at once as block 0, the rising ramp beginning with it. A frame from elsewhere is only counted. (R152, R153,
R161, R162, R163) -/
def Obligations.PageSamplesFillTheBuffer : Prop :=
  ∀ (s s₁ : State) (r : Received) (b : Byte) (rest : List Byte), Tapped s .samples r → s₁ = s.takeHead r →
    r.frame.payload = b :: rest →
    (s₁.playback.page.phase = .idle ∨ s₁.playback.page.source ≠ some r.frame.src →
      exec .pageSamples s = .next (s₁.modPlayback fun p => { p with
        counters := { p.counters with foreignSamples := bump p.counters.foreignSamples } })) ∧
    (s₁.playback.page.phase ≠ .idle → s₁.playback.page.source = some r.frame.src →
      ∃ t : State, exec .pageSamples s = .next t ∧ t.playback.page.idle = some (s.now + 200000) ∧
      ChangesOnly [.playback, .net] s₁ t ∧
      (s₁.playback.page.next = none → s₁.playback.page.buffer = [] →
        t.playback.page.buffer = [.real (unpackSamples rest)] ∧ t.playback.page.next = some b.toNat ∧
        t.playback.page.phase = s₁.playback.page.phase) ∧
      ∀ e d, s₁.playback.page.next = some e → e < 256 → d = (b.toNat + (256 - e)) % 256 →
        (s₁.playback.page.buffer[d]? = some .silence → s₁.playback.page.buffer.length < 3 → d < 3 →
          t.playback.page.buffer = s₁.playback.page.buffer.set d (.real (unpackSamples rest)) ∧
          t.playback.counters = { s₁.playback.counters with recovered := bump s₁.playback.counters.recovered }) ∧
        (∀ xs, s₁.playback.page.buffer[d]? = some (.real xs) → s₁.playback.page.phase = .playing →
          t.playback.page.buffer = s₁.playback.page.buffer ∧
          t.playback.counters = { s₁.playback.counters with duplicate := bump s₁.playback.counters.duplicate }) ∧
        (s₁.playback.page.buffer.length ≤ 128 → 128 ≤ d → s₁.playback.page.phase = .playing →
          t.playback.page.buffer = s₁.playback.page.buffer ∧
          t.playback.counters = { s₁.playback.counters with late := bump s₁.playback.counters.late }) ∧
        (s₁.playback.page.buffer[d]? = some .silence → s₁.playback.page.phase = .playing →
          t.playback.page.buffer = s₁.playback.page.buffer.set d (.real (unpackSamples rest)) ∧
          t.playback.page.next = some e ∧ t.playback.page.phase = .playing ∧ t.net = s₁.net ∧
          t.playback.counters = { s₁.playback.counters with recovered := bump s₁.playback.counters.recovered }) ∧
        (s₁.playback.page.phase = .playing → s₁.playback.page.buffer.length ≤ d →
          d ≤ s₁.playback.page.buffer.length + 4 → d < 8 →
          t.playback.page.buffer = s₁.playback.page.buffer ++
            List.replicate (d - s₁.playback.page.buffer.length) .silence ++ [.real (unpackSamples rest)] ∧
          t.playback.page.next = some e ∧ t.playback.page.phase = .playing ∧ t.net = s₁.net) ∧
        (s₁.playback.page.phase = .playing → s₁.playback.page.buffer.length ≤ 8 → s₁.playback.page.buffer.length ≤ d →
          d ≤ s₁.playback.page.buffer.length + 4 →
          t.playback.page.buffer = (s₁.playback.page.buffer ++
            List.replicate (d - s₁.playback.page.buffer.length) JitterBlock.silence ++
              [JitterBlock.real (unpackSamples rest)]).drop (d - 7) ∧
          t.playback.page.next = some ((e + (d - 7)) % 256) ∧ t.playback.page.phase = .playing ∧ t.net = s₁.net ∧
          t.playback.counters = { s₁.playback.counters with
            gapFilled := bumpBy (d - s₁.playback.page.buffer.length) s₁.playback.counters.gapFilled
            overflow := bumpBy (d - 7) s₁.playback.counters.overflow }) ∧
        (s₁.playback.page.phase = .prefill → s₁.playback.page.buffer.length ≤ d →
          d ≤ s₁.playback.page.buffer.length + 4 → s₁.playback.page.buffer.length < 3 →
          t.playback.counters = { s₁.playback.counters with
            gapFilled := bumpBy (d - s₁.playback.page.buffer.length) s₁.playback.counters.gapFilled } ∧
          (d < 2 → t.playback.page.phase = .prefill ∧ t.playback.page.next = some e ∧ t.net = s₁.net ∧
            t.playback.page.buffer = s₁.playback.page.buffer ++
              List.replicate (d - s₁.playback.page.buffer.length) .silence ++ [.real (unpackSamples rest)]) ∧
          (2 ≤ d → t.playback.page.phase = .playing ∧ t.playback.page.next = some ((e + 1) % 256) ∧
            t.playback.page.buffer = (s₁.playback.page.buffer ++
              List.replicate (d - s₁.playback.page.buffer.length) JitterBlock.silence ++
              [JitterBlock.real (unpackSamples rest)]).drop 1 ∧
            ∀ first later, s₁.playback.page.buffer ++ List.replicate (d - s₁.playback.page.buffer.length)
              JitterBlock.silence ++ [JitterBlock.real (unpackSamples rest)] = first :: later →
              s₁.PageBlockSent t 0 0 first.samples)) ∧
        (s₁.playback.page.buffer.length + 4 < d → d < 128 →
          t.playback.page.buffer = [.real (unpackSamples rest)] ∧ t.playback.page.next = some b.toNat ∧
          t.playback.page.phase = .prefill ∧ t.playback.page.clock = none ∧
          t.playback.counters = { s₁.playback.counters with resync := bump s₁.playback.counters.resync }) ∧
        (s₁.playback.page.phase = .prefill → s₁.playback.page.buffer.length = 2 → d = 2 →
          t.playback.page.phase = .playing ∧ t.playback.page.clock = some (s.now + 3000) ∧
          t.playback.page.block = 1 ∧ t.playback.page.ramped = 24 ∧ t.playback.page.buffer.length = 2 ∧
          t.playback.page.next = some ((e + 1) % 256) ∧
          ∀ first later, s₁.playback.page.buffer = first :: later → s₁.PageBlockSent t 0 0 first.samples))

/-- A block moment of the page takes the head of the buffer, or finds it empty, counts that and lets the underrun
timer run on or start. The block is emitted as a SAMPLES frame to FFA2h with the present block number: its 24 samples,
or 24 zeros for a silence block and for an underrun, in their order, under the page gain and the rising ramp of the
first 32 samples, once to each port that is home to a PRESENT speaker of a zone that follows PAGE
(`State.PageBlockSent`). A page is started by PAGE_START with a mask that is not empty while none is on, and its zones
then follow it unless EVAC has them; PAGE_END, the underrun timer and the idle timer end it, and no zone follows PAGE
after that; each requests PAGE_ENDED with its own reason, ORDER, UNDERRUN or IDLE (`State.PageEndTold`). That the end
of a page keeps its gain and its next block number is the model's choice (notes/assumptions/28.md). (R150, R152, R153,
R160, R162, R163, R178) -/
def Obligations.PagesPlayAndEnd : Prop :=
  (∀ (e : Nat) (s : State), s.playback.page.clock = some e → ∃ t : State, exec .pageBlockMoment s = .next t ∧
    t.now = max s.now e ∧ ChangesOnly [.playback, .net, .now] s t ∧ t.net.mgmt = s.net.mgmt ∧
    (∀ xs rest, s.playback.page.buffer = .real xs :: rest →
      s.PageBlockSent t s.playback.page.block s.playback.page.ramped xs) ∧
    (s.playback.page.buffer = [] ∨ s.playback.page.buffer.head? = some .silence →
      s.PageBlockSent t s.playback.page.block s.playback.page.ramped (List.replicate 24 0#12)) ∧
    (∀ b rest, s.playback.page.buffer = b :: rest →
      t.playback = { s.playback with page := { s.playback.page with
        block := (s.playback.page.block + 1) % 256, ramped := min 32 (s.playback.page.ramped + 24)
        clock := some (e + 3000), buffer := rest, next := s.playback.page.next.map fun n => (n + 1) % 256
        underrun := none } }) ∧
    (s.playback.page.buffer = [] →
      t.playback = { s.playback with
        page := { s.playback.page with
          block := (s.playback.page.block + 1) % 256, ramped := min 32 (s.playback.page.ramped + 24)
          clock := some (e + 3000), underrun := s.playback.page.underrun.or (some (max s.now e + 70000)) }
        counters := { s.playback.counters with underrun := bump s.playback.counters.underrun } })) ∧
  ((∀ (f : PageFields) (s s₁ : State) (r : Received), Accepted s .order none r → s₁ = s.takeHead r →
    (f.zones = 0#16 → exec (.pageStart (some f)) s = .next (s₁.reply r.ticket .badValue)) ∧
    (f.zones ≠ 0#16 → s₁.playback.page.phase ≠ .idle → exec (.pageStart (some f)) s = .next (s₁.reply r.ticket .busy)) ∧
    (f.zones ≠ 0#16 → s₁.playback.page.phase = .idle → ∃ mid : State,
      exec (.pageStart (some f)) s = .next (mid.reply r.ticket (if 511 < f.gain then .clamped else .done)) ∧
      mid.playback.page = { phase := .prefill, zones := f.zones, gain := min 511 f.gain, source := some r.frame.src
                            idle := some (s.now + 200000) } ∧
      (∀ z < 16, f.zones.getLsbD z = true → s₁.takesEvac z = false → mid.zoneChan z = .page) ∧
      ChangesOnly [.playback, .arbiters, .net, .tokens] s₁ mid) ∧
    (s₁.playback.page.phase = .idle → exec .pageEnd s = .next (s₁.reply r.ticket .refusedState)) ∧
    (s₁.playback.page.phase ≠ .idle → ∃ mid : State, exec .pageEnd s = .next (mid.reply r.ticket .done) ∧
      mid.playback.page = { s₁.playback.page with
        phase := .idle, zones := 0#16, source := none, buffer := [], clock := none, idle := none, underrun := none } ∧
      (∀ z, mid.zoneChan z ≠ .page) ∧ mid.net.mgmt.sticky.getLsbD 22 = true ∧
      s₁.PageEndTold mid [.playback] .order ∧
      ChangesOnly [.playback, .arbiters, .net, .tokens] s₁ mid)) ∧
  ∀ (c : Instr) (e : Nat) (why : PageEnd) (s : State),
    (c = .underrunTimeout ∧ why = .underrun ∧ s.playback.page.underrun = some e ∨
      c = .pageIdleTimeout ∧ why = .idle ∧ s.playback.page.idle = some e) →
    ∃ t : State, exec c s = .next t ∧ t.now = max s.now e ∧
      t.playback.page = { s.playback.page with
        phase := .idle, zones := 0#16, source := none, buffer := [], clock := none, idle := none, underrun := none } ∧
      (∀ z, t.zoneChan z ≠ .page) ∧ t.net.mgmt.sticky.getLsbD 22 = true ∧
      s.PageEndTold t [.playback, .now] why ∧
      ChangesOnly [.playback, .arbiters, .net, .tokens, .now] s t)

/-- SETUP STATION that puts a free index in use: the checks in their order, then the record as written (the BEAT
period at most 10 s), a new station's live fields with its supervision running, an arbiter for a SOUNDER; freeing a
referenced record is refused, and freeing any other ends it. The writes named here give a zone and a set of abilities
for every role: that one which gives "absent" or an empty set for a role that does not use the field is taken is the
model's choice (notes/assumptions/40.md). SETUP STATION of an index in use: a write that changes the address or the
role of a referenced record is refused, one of an unreferenced record makes it a new station with fresh live fields; a
write that keeps both keeps the live fields, the supervision starting again with a changed BEAT period. A SOUNDER's
service is set afresh from the zone it now names, and a record that is no SOUNDER any more has no arbiter. That a
write which gives "absent" or an empty set of abilities for a role that does not use the field is taken is the model's
choice (notes/assumptions/40.md). (R2, R3, R4, R5, R6, R10, R119, R120, R131) -/
def Obligations.SetupStationWritesTheRecord : Prop :=
  (∀ (i : Nat) (s s₁ : State) (r : Received), Accepted s .setup (some i) r → s₁ = s.takeHead r →
    (∀ (a p rc n : Nat) (z : Option Nat) (ab : Abilities) (f : StationFields),
      f = { address := some a, homePort := some p, role := some rc, zone := some z, beatPeriod := some n, abilities := some ab } →
      s₁.station i = none →
      (96 ≤ i → exec (.setupStation i (.fields f)) s = .next (s₁.reply r.ticket .badIndex)) ∧
      (i < 96 → (a = 0 ∨ 0x7FFF < a ∨ roleOfCode rc = none) →
        exec (.setupStation i (.fields f)) s = .next (s₁.reply r.ticket .badValue)) ∧
      ∀ (role : Role) (c : StationCfg), i < 96 → 1 ≤ a → a ≤ 0x7FFF → roleOfCode rc = some role →
        c = { address := BitVec.ofNat 16 a, homePort := p, role := role, zone := z, beatPeriod := min 10 n, abilities := ab } →
        (s₁.tables.stationOk i c = false →
          exec (.setupStation i (.fields f)) s = .next (s₁.reply r.ticket .badValue)) ∧
        (s₁.tables.stationOk i c = true → ∃ mid : State,
          exec (.setupStation i (.fields f)) s = .next (mid.reply r.ticket (if 10 < n then .clamped else .done)) ∧
          mid.tables = { s₁.tables with stations := s₁.tables.stations.set i (some c) } ∧
          mid.stationLive i = { supervision := if n = 0 then none else some (s.now + 1500000 * min 10 n) } ∧
          (∀ j, j ≠ i → mid.stationLive j = s₁.stationLive j) ∧
          (role = .sounder → ∃ b, mid.arbiter i = some b) ∧
          ChangesOnly [.tables, .stations, .calls, .arbiters, .playback, .net, .tokens] s₁ mid)) ∧
    (96 ≤ i → exec (.setupStation i .free) s = .next (s₁.reply r.ticket .badIndex)) ∧
    (i < 96 → s₁.station i = none → exec (.setupStation i .free) s = .next (s₁.reply r.ticket .done)) ∧
    (∀ c, s₁.station i = some c → s₁.referenced i = true →
      exec (.setupStation i .free) s = .next (s₁.reply r.ticket .refusedState)) ∧
    ∀ c, s₁.station i = some c → s₁.referenced i = false → ∃ mid : State,
      exec (.setupStation i .free) s = .next (mid.reply r.ticket .done) ∧
      mid.tables = { s₁.tables with stations := s₁.tables.stations.set i none } ∧ mid.stationLive i = {} ∧
      (∀ j, j ≠ i → mid.stationLive j = s₁.stationLive j) ∧ (c.role = .sounder → mid.arbiter i = none) ∧
      ChangesOnly [.tables, .stations, .zones, .calls, .arbiters, .playback, .net, .tokens] s₁ mid) ∧
  (∀ (i rc n : Nat) (s s₁ : State) (r : Received) (o c : StationCfg) (f : StationFields) (ok : Status),
    Accepted s .setup (some i) r → s₁ = s.takeHead r → s₁.station i = some o → roleOfCode rc = some c.role →
    c.beatPeriod = min 10 n → ok = (if 10 < n then .clamped else .done) →
    f = { address := some c.address.toNat, homePort := some c.homePort, role := some rc, zone := some c.zone
          beatPeriod := some n, abilities := some c.abilities } →
    (s₁.tables.stationOk i c = false → exec (.setupStation i (.fields f)) s = .next (s₁.reply r.ticket .badValue)) ∧
    (s₁.tables.stationOk i c = true →
      (s₁.referenced i = true → o.address ≠ c.address ∨ o.role ≠ c.role →
        exec (.setupStation i (.fields f)) s = .next (s₁.reply r.ticket .refusedState)) ∧
      (o = c → exec (.setupStation i (.fields f)) s = .next (s₁.reply r.ticket ok)) ∧
      (o ≠ c → o.address = c.address → o.role = c.role → ∃ mid : State,
        exec (.setupStation i (.fields f)) s = .next (mid.reply r.ticket ok) ∧
        mid.tables = { s₁.tables with stations := s₁.tables.stations.set i (some c) } ∧
        mid.stationLive i = (if o.beatPeriod = c.beatPeriod then s₁.stationLive i else { s₁.stationLive i with
          missed := 0, supervision := if c.beatPeriod = 0 then none else some (s.now + 1500000 * c.beatPeriod) }) ∧
        (∀ j, j ≠ i → mid.stationLive j = s₁.stationLive j) ∧
        (c.role = .sounder → ∀ a, s₁.arbiter i = some a → a.service = s₁.serviceFor i →
          ∃ b, mid.arbiter i = some b ∧ b.service = mid.serviceFor i) ∧
        ChangesOnly [.tables, .stations, .calls, .arbiters, .playback, .net, .tokens] s₁ mid) ∧
      (s₁.referenced i = false → o.address ≠ c.address ∨ o.role ≠ c.role → ∃ mid : State,
        exec (.setupStation i (.fields f)) s = .next (mid.reply r.ticket ok) ∧
        mid.tables = { s₁.tables with stations := s₁.tables.stations.set i (some c) } ∧
        mid.stationLive i =
          { supervision := if c.beatPeriod = 0 then none else some (s.now + 1500000 * c.beatPeriod) } ∧
        (∀ j, j ≠ i → mid.stationLive j = s₁.stationLive j) ∧
        (c.role = .sounder → ∃ b, mid.arbiter i = some b ∧ b.service = mid.serviceFor i) ∧
        (o.role = .sounder → c.role ≠ .sounder → mid.arbiter i = none) ∧
        ChangesOnly [.tables, .stations, .zones, .calls, .arbiters, .playback, .net, .tokens] s₁ mid)))

/-- SETUP POINT and SETUP SHUTTER that put a free index in use, in a zone and under a shaft that allow it: the record
as written and the live fields of a new identity, whether or not the shutter has a landing. The shutter takes its
state and its COMMS fault without a SHUTTER_STATE or SHUTTER_FAULT notice (the model's choice:
notes/assumptions/27.md): one without a landing sends and notifies nothing, and one with a landing sets neither flag,
unless the answer of its shaft moves another shutter. SETUP POINT and SETUP SHUTTER of an index in use: refused while
a zone or a shaft stands against it. A point that keeps its panel and number keeps its live state, an active one
counting as newly reported in a NORMAL zone, whatever its class; any other is a new identity. A shutter given another
drive is a new identity; one moved to an ISOLATED zone is isolated, and one moved out of it takes its place from its
last report, an uncommanded descent being a local drop; any other rewrite keeps its live fields; with a landing or
without one. The lamps and the clear set of each shaft it names, before and after, follow. That a changed write which
keeps its landing reference is refused too, under a shaft that can move, is the model's choice
(notes/assumptions/22.md). A free ends the record and its live fields. (R57, R58, R61, R63, R72, R76, R77, R78, R91,
R96) -/
def Obligations.SetupPointAndShutterPutInUse : Prop :=
  (∀ (i : Nat) (s s₁ : State) (r : Received), Accepted s .setup (some i) r → s₁ = s.takeHead r →
    (∀ (c : PointCfg) (f : PointFields), s₁.point i = none →
      f = { panel := some c.panel, number := some c.number, zone := some c.zone, kind := .val c.kind } →
      (128 ≤ i → exec (.setupPoint i (.fields f)) s = .next (s₁.reply r.ticket .badIndex)) ∧
      (i < 128 → s₁.tables.pointOk i c = false →
        exec (.setupPoint i (.fields f)) s = .next (s₁.reply r.ticket .badValue)) ∧
      (i < 128 → s₁.tables.pointOk i c = true → (s₁.zone c.zone).state ∉ [ZoneState.normal, .isolated] →
        exec (.setupPoint i (.fields f)) s = .next (s₁.reply r.ticket .refusedState)) ∧
      (i < 128 → s₁.tables.pointOk i c = true → (s₁.zone c.zone).state ∈ [ZoneState.normal, .isolated] →
        ∃ mid : State, exec (.setupPoint i (.fields f)) s = .next (mid.reply r.ticket .done) ∧
        mid.tables = { s₁.tables with points := s₁.tables.points.set i (some c) } ∧
        mid.pointLive i = (if s₁.isPresent c.panel then {} else { state := .fault, source := some .link }) ∧
        (∀ j, j ≠ i → mid.pointLive j = s₁.pointLive j) ∧
        ((mid.zone c.zone).fault = true ↔ ∃ j d, mid.point j = some d ∧ d.zone = c.zone ∧ (mid.pointLive j).state = .fault) ∧
        ChangesOnly [.tables, .points, .zones, .net] s₁ mid)) ∧
    (∀ (d c : ShutterCfg) (f : ShutterFields), s₁.shutter i = none → c = d.clamp →
      f = { drive := some d.drive, zone := some d.zone, landing := some d.landing
            descentLimit := some d.descentLimit, raiseLimit := some d.raiseLimit } →
      (32 ≤ i → exec (.setupShutter i (.fields f)) s = .next (s₁.reply r.ticket .badIndex)) ∧
      (i < 32 → s₁.tables.shutterOk i c = false →
        exec (.setupShutter i (.fields f)) s = .next (s₁.reply r.ticket .badValue)) ∧
      (i < 32 → s₁.tables.shutterOk i c = true → s₁.overlay c.zone = true ∨
        (∃ l, c.landing = some l ∧ s₁.shaftEnabled l.shaft = true ∧
          (s₁.shaft l.shaft).state ∉ [ShaftState.idle, .tripped]) →
        exec (.setupShutter i (.fields f)) s = .next (s₁.reply r.ticket .refusedState)) ∧
      (i < 32 → s₁.tables.shutterOk i c = true → s₁.overlay c.zone = false →
        (∀ l, c.landing = some l → s₁.shaftEnabled l.shaft = false ∨
          (s₁.shaft l.shaft).state ∈ [ShaftState.idle, .tripped]) →
        ∃ mid : State,
        exec (.setupShutter i (.fields f)) s = .next (mid.reply r.ticket (if c = d then .done else .clamped)) ∧
        mid.tables = { s₁.tables with shutters := s₁.tables.shutters.set i (some c) } ∧
        mid.shutterLive i =
          { state := if (s₁.zone c.zone).state = .isolated then .isolated else .unknown
            faults := { comms := decide ((s₁.stationLive c.drive).presence = .missing ∨
              (s₁.stationLive c.drive).presence = .mismatch) } } ∧
        (c.landing = none → mid.net = s₁.net ∧ mid.shafts = s₁.shafts) ∧
        mid.net.mgmt.sticky.getLsbD (noticeIndex .shutterFault) = s₁.net.mgmt.sticky.getLsbD (noticeIndex .shutterFault) ∧
        ((∀ j, j ≠ i → (mid.shutterLive j).state = (s₁.shutterLive j).state) →
          mid.net.mgmt.sticky.getLsbD (noticeIndex .shutterState) =
            s₁.net.mgmt.sticky.getLsbD (noticeIndex .shutterState)) ∧
        (∀ j, j ≠ i → c.landing = none → mid.shutterLive j = s₁.shutterLive j) ∧
        ChangesOnly [.tables, .shutters, .shafts, .net] s₁ mid))) ∧
  (∀ (i : Nat) (s s₁ : State) (r : Received), Accepted s .setup (some i) r → s₁ = s.takeHead r →
    (∀ (o c : PointCfg) (f : PointFields), s₁.point i = some o →
      f = { panel := some c.panel, number := some c.number, zone := some c.zone, kind := .val c.kind } →
      (s₁.tables.pointOk i c = false → exec (.setupPoint i (.fields f)) s = .next (s₁.reply r.ticket .badValue)) ∧
      (s₁.tables.pointOk i c = true → (s₁.zone o.zone).state ∉ [ZoneState.normal, .isolated] ∨
          (s₁.zone c.zone).state ∉ [ZoneState.normal, .isolated] →
        exec (.setupPoint i (.fields f)) s = .next (s₁.reply r.ticket .refusedState)) ∧
      (s₁.tables.pointOk i c = true → (s₁.zone o.zone).state ∈ [ZoneState.normal, .isolated] →
        (s₁.zone c.zone).state ∈ [ZoneState.normal, .isolated] →
        (o = c → exec (.setupPoint i (.fields f)) s = .next (s₁.reply r.ticket .done)) ∧
        (o ≠ c → ∃ mid : State, exec (.setupPoint i (.fields f)) s = .next (mid.reply r.ticket .done) ∧
          mid.tables = { s₁.tables with points := s₁.tables.points.set i (some c) } ∧
          (∀ j, j ≠ i → mid.pointLive j = s₁.pointLive j) ∧
          (∀ z ∈ [o.zone, c.zone], z < 16 → ((mid.zone z).fault = true ↔
            ∃ j d, mid.point j = some d ∧ d.zone = z ∧ (mid.pointLive j).state = .fault)) ∧
          (o.panel ≠ c.panel ∨ o.number ≠ c.number →
            mid.pointLive i = (if s₁.isPresent c.panel then {} else { state := .fault, source := some .link }) ∧
            (∀ z, (mid.zone z).state = (s₁.zone z).state) ∧ ChangesOnly [.tables, .points, .zones, .net] s₁ mid) ∧
          (o.panel = c.panel → o.number = c.number → mid.pointLive i = s₁.pointLive i ∧
            ((s₁.zone c.zone).state = .isolated ∨ (s₁.pointLive i).state ∈ [PointState.normal, .fault] →
              (mid.zone c.zone).state = (s₁.zone c.zone).state) ∧
            ((s₁.zone c.zone).state = .normal → ∀ k, k = reportClass c.kind (s₁.pointLive i).state →
              (k = .prealarm → (mid.zone c.zone).state = .alert ∧ (mid.zone c.zone).knockPoint = none ∧
                (mid.zone c.zone).knockTimer = some (s₁.now + 1000000 * (s₁.zoneCfg c.zone).knockWindow) ∧
                ChangesOnly [.tables, .zones, .shafts, .net] s₁ mid) ∧
              (k = .automatic → (s₁.zoneCfg c.zone).doubleKnock = true →
                (mid.zone c.zone).state = .alert ∧ (mid.zone c.zone).knockPoint = some i ∧
                (mid.zone c.zone).knockTimer = some (s₁.now + 1000000 * (s₁.zoneCfg c.zone).knockWindow) ∧
                ChangesOnly [.tables, .zones, .shafts, .net] s₁ mid) ∧
              (k = .automatic → (s₁.zoneCfg c.zone).doubleKnock = false →
                (mid.zone c.zone).state = .alarm ∧ (mid.zone c.zone).cause = some .automatic ∧
                (mid.zone c.zone).alarmPoint = some (.point i)) ∧
              (k = .manual → (mid.zone c.zone).state = .alarm ∧ (mid.zone c.zone).cause = some .manual ∧
                (mid.zone c.zone).alarmPoint = some (.point i))))))) ∧
    ((128 ≤ i → exec (.setupPoint i .free) s = .next (s₁.reply r.ticket .badIndex)) ∧
      (i < 128 → s₁.point i = none → exec (.setupPoint i .free) s = .next (s₁.reply r.ticket .done)) ∧
      ∀ o, s₁.point i = some o →
        ((s₁.zone o.zone).state ∉ [ZoneState.normal, .isolated] →
          exec (.setupPoint i .free) s = .next (s₁.reply r.ticket .refusedState)) ∧
        ((s₁.zone o.zone).state ∈ [ZoneState.normal, .isolated] → ∃ mid : State,
          exec (.setupPoint i .free) s = .next (mid.reply r.ticket .done) ∧
          mid.tables = { s₁.tables with points := s₁.tables.points.set i none } ∧ mid.pointLive i = {} ∧
          (∀ j, j ≠ i → mid.pointLive j = s₁.pointLive j) ∧ (o.zone < 16 → ((mid.zone o.zone).fault = true ↔
            ∃ j d, mid.point j = some d ∧ d.zone = o.zone ∧ (mid.pointLive j).state = .fault)) ∧
          ChangesOnly [.tables, .points, .zones, .net] s₁ mid)) ∧
    ((32 ≤ i → exec (.setupShutter i .free) s = .next (s₁.reply r.ticket .badIndex)) ∧
      (i < 32 → s₁.shutter i = none → exec (.setupShutter i .free) s = .next (s₁.reply r.ticket .done))) ∧
    ∀ (o : ShutterCfg) (held : Option LandingRef → Prop), s₁.shutter i = some o →
      (∀ x, held x ↔ ∃ l, x = some l ∧ s₁.shaftEnabled l.shaft = true ∧
        (s₁.shaft l.shaft).state ∉ [ShaftState.idle, .tripped]) →
      ((s₁.shutterLive i).state ∉ [ShutterState.open, .unknown, .isolated] ∨ s₁.overlay o.zone = true ∨ held o.landing →
        exec (.setupShutter i .free) s = .next (s₁.reply r.ticket .refusedState)) ∧
      ((s₁.shutterLive i).state ∈ [ShutterState.open, .unknown, .isolated] → s₁.overlay o.zone = false → ¬ held o.landing →
        ∃ mid : State, exec (.setupShutter i .free) s = .next (mid.reply r.ticket .done) ∧
        mid.tables = { s₁.tables with shutters := s₁.tables.shutters.set i none } ∧ mid.shutterLive i = {} ∧
        (∀ x ∈ mid.net.mgmt.timers, x.key.kind ∈ [NoticeKind.shutterForced, .shutterFault] → x.key.object ≠ i) ∧
        ChangesOnly [.tables, .shutters, .shafts, .net] s₁ mid) ∧
      ∀ (d c : ShutterCfg) (f : ShutterFields) (ok : Status), c = d.clamp → ok = (if c = d then .done else .clamped) →
        f = { drive := some d.drive, zone := some d.zone, landing := some d.landing
              descentLimit := some d.descentLimit, raiseLimit := some d.raiseLimit } →
        (s₁.tables.shutterOk i c = false →
          exec (.setupShutter i (.fields f)) s = .next (s₁.reply r.ticket .badValue)) ∧
        (s₁.tables.shutterOk i c = true → ((s₁.shutterLive i).state ∉ [ShutterState.open, .unknown, .isolated] ∨
            s₁.overlay o.zone = true ∨ s₁.overlay c.zone = true ∨ o ≠ c ∧ (held o.landing ∨ held c.landing)) →
          exec (.setupShutter i (.fields f)) s = .next (s₁.reply r.ticket .refusedState)) ∧
        (s₁.tables.shutterOk i c = true → (s₁.shutterLive i).state ∈ [ShutterState.open, .unknown, .isolated] →
          s₁.overlay o.zone = false → s₁.overlay c.zone = false →
          (o = c → exec (.setupShutter i (.fields f)) s = .next (s₁.reply r.ticket ok)) ∧
          (o ≠ c → ¬ held o.landing → ¬ held c.landing → ∃ mid : State,
            exec (.setupShutter i (.fields f)) s = .next (mid.reply r.ticket ok) ∧
            mid.tables = { s₁.tables with shutters := s₁.tables.shutters.set i (some c) } ∧
            (∀ descent : Prop, (descent ↔ o.drive = c.drive ∧ o.zone ≠ c.zone ∧ (s₁.zone c.zone).state ≠ .isolated ∧
                (s₁.shutterLive i).state = .isolated ∧ ∃ q, (s₁.shutterLive i).lastReport = some q ∧ q.drops = true) →
              ¬ descent → ∀ l, (o.landing = some l ∨ c.landing = some l) → l.shaft < 2 →
                (mid.shaft l.shaft).clearSet = mid.computeClearSet l.shaft ∧
                (s₁.shaftEnabled l.shaft = true → ∀ m ∈ mid.landings l.shaft,
                  (mid.landingLive l.shaft m).lamp = mid.lampOf l.shaft m)) ∧
            (o.drive ≠ c.drive → mid.shutterLive i =
              { state := if (s₁.zone c.zone).state = .isolated then .isolated else .unknown
                faults := { comms := decide ((s₁.stationLive c.drive).presence = .missing ∨
                  (s₁.stationLive c.drive).presence = .mismatch) } }) ∧
            (o.drive = c.drive → o.zone = c.zone → mid.shutterLive i = s₁.shutterLive i ∧
              (o.landing = none → c.landing = none →
                mid = { s₁ with tables := { s₁.tables with shutters := s₁.tables.shutters.set i (some c) } })) ∧
            (o.drive = c.drive → o.zone ≠ c.zone →
              ((s₁.zone c.zone).state = .isolated ↔ (s₁.shutterLive i).state = .isolated) →
              mid.shutterLive i = s₁.shutterLive i) ∧
            (o.drive = c.drive → o.zone ≠ c.zone → (s₁.zone c.zone).state = .isolated →
              (s₁.shutterLive i).state ≠ .isolated → mid.shutterLive i = { s₁.shutterLive i with
                state := .isolated, resend := none, clearance := none, warning := none, motion := none
                command := none, sends := 0 }) ∧
            (o.drive = c.drive → o.zone ≠ c.zone → (s₁.zone c.zone).state ≠ .isolated →
              (s₁.shutterLive i).state = .isolated →
              ((s₁.shutterLive i).lastReport = none → mid.shutterLive i = { s₁.shutterLive i with state := .unknown }) ∧
              ((s₁.shutterLive i).lastReport = some { position := .openEnd, localRelease := false } →
                mid.shutterLive i = { s₁.shutterLive i with
                  state := .open, forced := false
                  faults := { comms := (s₁.shutterLive i).faults.comms } }) ∧
              ((s₁.shutterLive i).lastReport = some { position := .raising, localRelease := false } →
                mid.shutterLive i = { s₁.shutterLive i with state := .raising }) ∧
              ∀ q, (s₁.shutterLive i).lastReport = some q →
                q.localRelease = true ∨ q.position ∉ [CurtainPos.openEnd, .raising] →
                (mid.shutterLive i).state = (if q.position = .closedEnd then .closed else .descending) ∧
                (q.position ≠ .closedEnd → (mid.shutterLive i).command = some .release) ∧
                (mid.shutterLive i).faults.unexpected = true ∧
                (mid.shutterLive i).unexpected = bump (s₁.shutterLive i).unexpected ∧
                (mid.zone c.zone).state = .alarm ∧ (mid.zone c.zone).cause = some .localDrop ∧
                (mid.zone c.zone).alarmPoint = some (.shutter i) ∧
                ∀ l, c.landing = some l → s₁.shaftEnabled l.shaft = true → (s₁.shaft l.shaft).state ≠ .tripped →
                  (mid.shaft l.shaft).latched .localDrop) ∧
            ChangesOnly [.tables, .zones, .shafts, .shutters, .calls, .arbiters, .playback, .day, .net, .tokens] s₁ mid)))

/-- SETUP of the tables with no live state of their own to judge: a zone's values set to their ranges, a route with no
call standing, a schedule entry with its stamp, a port's filter and mirror; each replaces its entry and no other. That
a field left out of a SETUP ZONE keeps its present value, for every set of fields, is the model's choice
(notes/assumptions/2.md). A route is freed unless a call record stands for its call point; a schedule entry is freed,
its stamp staying behind. SETUP GLOBAL: entry 0 takes addresses and phrases that pass their checks, with the other
values set to their ranges, a field left out keeping its present value (the model's choice: notes/assumptions/2.md); a
notice entry takes its enable, mode and route, and EDGE stops the repeats of its kind; an entry above 23 and a table
code that is none of the ten are BAD_INDEX. (R62, R98, R131, R137, R149, R173, R180, R181, R184, R185) -/
def Obligations.SetupsReplaceTheirEntry : Prop :=
  (∀ (s s₁ : State) (r : Received), s₁ = s.takeHead r →
    (∀ (z : Nat) (f : ZoneFields) (d c : ZoneCfg), Accepted s .setup (some z) r → d = zoneDraft (s₁.zoneCfg z) f →
      c = { d with knockWindow := max 30 (min 300 d.knockWindow), clearanceTimeout := max 5 (min 60 d.clearanceTimeout)
                   warningTime := max 2 (min 15 d.warningTime) } →
      (16 ≤ z → exec (.setupZone z f) s = .next (s₁.reply r.ticket .badIndex)) ∧
      (z < 16 → (s₁.zone z).state ∉ [ZoneState.normal, .isolated] →
        exec (.setupZone z f) s = .next (s₁.reply r.ticket .refusedState)) ∧
      (z < 16 → (s₁.zone z).state ∈ [ZoneState.normal, .isolated] → ∃ mid : State,
        exec (.setupZone z f) s = .next (mid.reply r.ticket (if c = d then .done else .clamped)) ∧
        mid.tables = { s₁.tables with zones := s₁.tables.zones.set z c } ∧
        ChangesOnly [.tables, .playback, .arbiters, .net, .tokens] s₁ mid)) ∧
    (∀ (i : Nat) (x : Route) (f : RouteFields), Accepted s .setup (some i) r →
      f = { callPoint := some x.callPoint, primary := some x.primary, secondary := some x.secondary
            sounder := some x.sounder, bellCode := some x.bellCode } →
      exec (.setupRoute i (.fields f)) s = .next
        (if 64 ≤ i then s₁.reply r.ticket .badIndex
         else if s₁.tables.routeOk i x = false then s₁.reply r.ticket .badValue
         else if s₁.calls.records.any fun y => decide (y.point = x.callPoint) ||
             (s₁.tables.routes.at? i).any fun o => decide (y.point = o.callPoint) then s₁.reply r.ticket .refusedState
         else State.reply { s₁ with tables := { s₁.tables with routes := s₁.tables.routes.set i (some x) } }
           r.ticket .done)) ∧
    (∀ (i : Nat) (x : ScheduleEntry) (f : ScheduleFields), Accepted s .setup (some i) r →
      f = { enabled := some x.enabled, weekdays := some x.weekdays, hour := some x.hour, minute := some x.minute
            action := .val x.action, phrase := some x.phrase, zones := some x.zones, gain := some x.gain
            bell := some x.bell } →
      exec (.setupSchedule i (.fields f)) s = .next
        (if 24 ≤ i then s₁.reply r.ticket .badIndex
         else if scheduleOk x = false then s₁.reply r.ticket .badValue
         else State.reply { s₁ with
             tables := { s₁.tables with schedule := s₁.tables.schedule.set i (some { x with gain := min 511 x.gain }) }
             day := { s₁.day with stamps := s₁.day.stamps.set i (some (
               if s₁.day.stamps.at? i = some s₁.clock.day then s₁.clock.day
               else if x.hour * 60 + x.minute ≤ s₁.clock.hours * 60 + s₁.clock.minutes then s₁.clock.day
               else (s₁.clock.day + 65535) % 65536)) } }
           r.ticket (if 511 < x.gain then .clamped else .done))) ∧
    ∀ (p : Nat) (filter : BitVec 64) (mirror : Bool), Accepted s .setup (some p) r →
      exec (.setupPort p { filter := some filter, mirror := some mirror }) s = .next
        (if 5 ≤ p then s₁.reply r.ticket .badIndex
         else if p = 4 ∧ mirror = true then s₁.reply r.ticket .badValue
         else State.reply { s₁ with tables := { s₁.tables with
             ports := s₁.tables.ports.set p { filter := filter, mirror := mirror } } } r.ticket .done)) ∧
  (∀ (i : Nat) (s s₁ : State) (r : Received), Accepted s .setup (some i) r → s₁ = s.takeHead r →
    exec (.setupRoute i .free) s = .next
      (if 64 ≤ i then s₁.reply r.ticket .badIndex
       else if s₁.calls.records.any (fun y => (s₁.tables.routes.at? i).any fun o => decide (y.point = o.callPoint)) then
         s₁.reply r.ticket .refusedState
       else State.reply { s₁ with tables := { s₁.tables with routes := s₁.tables.routes.set i none } } r.ticket .done) ∧
    exec (.setupSchedule i .free) s = .next
      (if 24 ≤ i then s₁.reply r.ticket .badIndex
       else State.reply { s₁ with tables := { s₁.tables with schedule := s₁.tables.schedule.set i none } } r.ticket .done)) ∧
  (∀ (s s₁ : State) (r : Received), s₁ = s.takeHead r →
    (∀ i, Accepted s .setup (some i) r → exec (.setupGlobal i .unknownTable) s = .next (s₁.reply r.ticket .badIndex)) ∧
    (∀ i w, Accepted s .setup (some i) r → 23 < i → exec (.setupGlobal i w) s = .next (s₁.reply r.ticket .badIndex)) ∧
    (∀ (f : GlobalFields) (d g : Global), Accepted s .setup (some 0) r → d = globalDraft s₁.globals f →
      g = { d with escalation := max 10 (min 600 d.escalation)
                   preemptWait := if d.preemptWait = 0 then 0 else max 5 (min 60 d.preemptWait)
                   bellStrokes := max 1 (min 9 d.bellStrokes), bellRepeats := max 1 (min 9 d.bellRepeats)
                   evacGain := min 511 d.evacGain } →
      (globalAddresses f = false ∨ f.sounderMode = .bad ∨ s₁.tables.globalOk d = false →
        exec (.setupGlobal 0 (.settings f)) s = .next (s₁.reply r.ticket .badValue)) ∧
      (globalAddresses f = true → f.sounderMode ≠ .bad → s₁.tables.globalOk d = true → ∃ mid : State,
        exec (.setupGlobal 0 (.settings f)) s = .next (mid.reply r.ticket (if g = d then .done else .clamped)) ∧
        mid.tables = { s₁.tables with globals := g } ∧
        (g.preemptWait = 0 → ∀ i a, mid.arbiter i = some a → a.preempt = none) ∧
        ChangesOnly [.tables, .arbiters, .playback, .net, .tokens] s₁ mid)) ∧
    ∀ (n : Nat) (e : Bool) (m : NoticeMode) (q : NoticeRoute), Accepted s .setup (some n) r → 1 ≤ n → n ≤ 23 → ∃ mid : State,
      exec (.setupGlobal n (.notice { enable := .val e, mode := .val m, route := .val q })) s =
        .next (mid.reply r.ticket .done) ∧
      mid.tables = { s₁.tables with notices := s₁.tables.notices.set (n - 1) { enable := e, mode := m, route := q } } ∧
      (m = .edge → ∀ x ∈ mid.net.mgmt.timers, noticeIndex x.key.kind ≠ n - 1) ∧
      (m = .level → mid.net = s₁.net) ∧ ChangesOnly [.tables, .net] s₁ mid)

/-- SETUP SHAFT and SETUP SILL, taken only while the shaft is IDLE, TRIPPED or disabled: the geometry with its speeds
set to their ranges, the position INVALID when L, N or H change, and a sill record. That a field left out of a SETUP
SHAFT keeps its present value, for every set of fields, and that byte 3 of a SETUP SILL names neither of its two
numbers, is the model's choice (notes/assumptions/2.md). A sill is freed, or rewritten, only while the shaft stands
and no landing that a shutter names is left without a sill. (R15, R16, R17) -/
def Obligations.SetupShaftAndSillWriteTheGeometry : Prop :=
  (∀ (s s₁ : State) (r : Received) (k : Nat), s₁ = s.takeHead r →
    (∀ (f : ShaftFields) (d g : Geometry), Accepted s .setup (some k) r → d = shaftDraft (s₁.geometry k) f →
      g = { d with Vc := max 20 (min 400 d.Vc), a := max 50 (min 2000 d.a), Vmax := max 100 (min 4000 d.Vmax) } →
      (2 ≤ k → exec (.setupShaft k f) s = .next (s₁.reply r.ticket .badIndex)) ∧
      (k < 2 → s₁.tables.shaftOk k d = false → exec (.setupShaft k f) s = .next (s₁.reply r.ticket .badValue)) ∧
      (k < 2 → s₁.tables.shaftOk k d = true → s₁.shaftEnabled k = true →
        (s₁.shaft k).state ∉ [ShaftState.idle, .tripped] →
        exec (.setupShaft k f) s = .next (s₁.reply r.ticket .refusedState)) ∧
      (k < 2 → s₁.tables.shaftOk k d = true →
        s₁.shaftEnabled k = false ∨ (s₁.shaft k).state ∈ [ShaftState.idle, .tripped] →
        (g.Vmax ≤ g.Vc → exec (.setupShaft k f) s = .next (s₁.reply r.ticket .badValue)) ∧
        (g.Vc < g.Vmax → ∃ mid : State,
          exec (.setupShaft k f) s = .next (mid.reply r.ticket (if g = d then .done else .clamped)) ∧
          mid.geometry k = g ∧ (∀ j, j ≠ k → mid.geometry j = s₁.geometry j) ∧ (∀ j, mid.sills j = s₁.sills j) ∧
          ((s₁.geometry k).enabled = true → g.enabled = true →
            (mid.shaft k).state = (s₁.shaft k).state ∧ (mid.shaft k).trip = (s₁.shaft k).trip ∧
            (mid.shaft k).posValid = ((s₁.shaft k).posValid &&
              decide ((s₁.geometry k).L = g.L ∧ (s₁.geometry k).N = g.N ∧ (s₁.geometry k).H = g.H))) ∧
          ((s₁.geometry k).enabled = true → g.enabled = false → (mid.shaft k).state = .idle ∧
            (mid.shaft k).posValid = false ∧ (mid.shaft k).permit = false ∧ (mid.shaft k).brake = true) ∧
          ((s₁.geometry k).enabled = false → g.enabled = true → (s₁.shaft k).fault = false →
            (mid.shaft k).state = .idle ∧ (mid.shaft k).posValid = false ∧ (mid.shaft k).permit = false ∧
            (mid.shaft k).brake = true) ∧
          ChangesOnly [.tables, .shafts, .shutters, .calls, .arbiters, .day, .net, .tokens] s₁ mid))) ∧
    ∀ (i : Nat) (x : Sill) (f : SillFields), Accepted s .setup none r →
      f = { position := some x.position, landing := some x.landing, side := .val x.side, station := some x.station } →
      (2 ≤ k ∨ 24 ≤ i → exec (.setupSill k i (.fields f)) s = .next (s₁.reply r.ticket .badIndex)) ∧
      (k < 2 → i < 24 → s₁.tables.sillOk k i x = false →
        exec (.setupSill k i (.fields f)) s = .next (s₁.reply r.ticket .badValue)) ∧
      (k < 2 → i < 24 → s₁.tables.sillOk k i x = true → s₁.sillStrands k i (some x) = false →
        s₁.shaftEnabled k = false ∨ (s₁.shaft k).state ∈ [ShaftState.idle, .tripped] → ∃ mid : State,
        exec (.setupSill k i (.fields f)) s = .next (mid.reply r.ticket .done) ∧ mid.sill k i = some x ∧
        (∀ j, j ≠ i → mid.sill k j = s₁.sill k j) ∧ mid.geometry k = s₁.geometry k ∧
        (mid.shaft k).state = (s₁.shaft k).state ∧ ChangesOnly [.tables, .shafts, .shutters, .net] s₁ mid) ∧
      (k < 2 → i < 24 → s₁.tables.sillOk k i x = true → s₁.shaftEnabled k = true →
        (s₁.shaft k).state ∉ [ShaftState.idle, .tripped] →
        exec (.setupSill k i (.fields f)) s = .next (s₁.reply r.ticket .refusedState))) ∧
  (∀ (k i : Nat) (s s₁ : State) (r : Received) (stands strands : Prop) (new : Option Sill), s₁ = s.takeHead r →
    Accepted s .setup none r →
    (stands ↔ s₁.shaftEnabled k = false ∨ (s₁.shaft k).state ∈ [ShaftState.idle, .tripped]) →
    (strands ↔ ∃ j c l, s₁.shutter j = some c ∧ c.landing = some l ∧ l.shaft = k ∧
      ∀ n y, (if n = i then new else s₁.sill k n) = some y → y.landing ≠ l.landing) →
    (2 ≤ k ∨ 24 ≤ i → exec (.setupSill k i .free) s = .next (s₁.reply r.ticket .badIndex)) ∧
    (k < 2 → i < 24 →
      (s₁.sill k i = none → stands → exec (.setupSill k i .free) s = .next (s₁.reply r.ticket .done)) ∧
      (¬ stands → exec (.setupSill k i .free) s = .next (s₁.reply r.ticket .refusedState)) ∧
      (s₁.sill k i ≠ none → new = none → strands →
        exec (.setupSill k i .free) s = .next (s₁.reply r.ticket .refusedState)) ∧
      (s₁.sill k i ≠ none → new = none → ¬ strands → stands → ∃ mid : State,
        exec (.setupSill k i .free) s = .next (mid.reply r.ticket .done) ∧ mid.sill k i = none ∧
        (∀ j, j ≠ i → mid.sill k j = s₁.sill k j) ∧ mid.geometry k = s₁.geometry k ∧
        (mid.shaft k).state = (s₁.shaft k).state ∧ ChangesOnly [.tables, .shafts, .shutters, .net] s₁ mid) ∧
      ∀ x, new = some x → s₁.tables.sillOk k i x = true → strands →
        exec (.setupSill k i (.fields { position := some x.position, landing := some x.landing, side := .val x.side
                                        station := some x.station })) s = .next (s₁.reply r.ticket .refusedState)))

/-- The orders of a zone: SILENCE_ZONE of an ALARM, RESET_ZONE of a zone with no active point, ISOLATE_ZONE of a
NORMAL or ALERT zone and RESTORE_ZONE of an ISOLATED one; in every other state the order is refused, RESET_ZONE naming
the lowest-numbered active point. A RESET_ZONE of a RESETTING zone sends RAISE again to every shutter that is not
OPEN, ISOLATED or RAISING. The first RESET_ZONE of an ALARM or SILENCED zone with no active point takes each of its
shutters by its state: one in RELEASE_WAIT or WARNING has its timers stopped and is OPEN after a last report of
OPEN_END, else UNKNOWN; a landing shutter so made UNKNOWN under a shaft with PERMIT on trips it LOCAL_DROP, and the
zone is not told; one that is down is sent RAISE. The zone is then NORMAL if every shutter is OPEN or ISOLATED, else
RESETTING with its cause kept. RESTORE_ZONE of an ISOLATED zone re-derives its shutters from their last reports: none
gives UNKNOWN, OPEN_END gives OPEN, RAISING gives RAISING, a landing shutter in the first or the last trips a shaft
whose PERMIT is on; any other is a local drop with UNEXPECTED, and the zone is in ALARM with cause LOCAL_DROP, naming
the lowest such shutter (the model's choice among several: notes/assumptions/38.md). Then the active points report
anew, by increasing index: only prealarms give ALERT with no knock point, one automatic alarm of a double-knock zone
ALERT with that point, a second one DOUBLE_KNOCK, and in a single-knock zone or with a manual alarm the first alarm
point ALARM. (R63, R64, R69, R70, R71, R73, R74, R93, R95, R96, R127) -/
def Obligations.ZoneOrdersMoveTheZone : Prop :=
  (∀ (z : Nat) (s s₁ : State) (r : Received), Accepted s .order (some z) r → s₁ = s.takeHead r →
    (∀ c ∈ [Instr.silenceZone z, .resetZone z, .isolateZone z, .restoreZone z], 16 ≤ z →
      exec c s = .next (s₁.reply r.ticket .badIndex)) ∧
    (z < 16 →
      ((s₁.zone z).state ≠ .alarm → exec (.silenceZone z) s = .next (s₁.reply r.ticket .refusedState)) ∧
      ((s₁.zone z).state ∉ [ZoneState.alarm, .silenced, .resetting] →
        exec (.resetZone z) s = .next (s₁.reply r.ticket .refusedState)) ∧
      ((s₁.zone z).state ∉ [ZoneState.normal, .alert] →
        exec (.isolateZone z) s = .next (s₁.reply r.ticket .refusedState)) ∧
      ((s₁.zone z).state ≠ .isolated → exec (.restoreZone z) s = .next (s₁.reply r.ticket .refusedState)) ∧
      ((s₁.zone z).state = .alarm → ∃ mid : State, exec (.silenceZone z) s = .next (mid.reply r.ticket .done) ∧
        mid.zone z = { s₁.zone z with state := .silenced } ∧ (∀ y, y ≠ z → mid.zone y = s₁.zone y) ∧
        (∀ i c a, s₁.station i = some c → c.role = .sounder → c.zone = some z → mid.arbiter i = some a →
          a.service = .silent ∧ ∀ b, s₁.arbiter i = some b → b.service ≠ .silent → a.inForce = .none) ∧
        ChangesOnly [.zones, .shafts, .arbiters, .playback, .net, .tokens] s₁ mid) ∧
      (∀ i c, (s₁.zone z).state ∈ [ZoneState.alarm, .silenced, .resetting] → s₁.point i = some c → c.zone = z →
        (s₁.pointLive i).state ∈ [PointState.prealarm, .alarm, .manual] →
        (∀ j d, j < i → s₁.point j = some d → d.zone = z → (s₁.pointLive j).state ∈ [PointState.normal, .fault]) →
        exec (.resetZone z) s = .next (s₁.reply r.ticket .refusedState (.activePoint i))) ∧
      ((s₁.zone z).state = .resetting →
        (∀ i c, s₁.point i = some c → c.zone = z → (s₁.pointLive i).state ∈ [PointState.normal, .fault]) →
        ∃ mid : State, exec (.resetZone z) s = .next (mid.reply r.ticket .done) ∧
        (∀ y, y ≠ z → mid.zone y = s₁.zone y) ∧
        (∀ i c, s₁.shutter i = some c → c.zone = z →
          ((s₁.shutterLive i).state ∈ [ShutterState.open, .isolated, .raising] → mid.shutterLive i = s₁.shutterLive i) ∧
          ((s₁.shutterLive i).state ∉ [ShutterState.open, .isolated, .raising] →
            mid.shutterLive i = { s₁.shutterLive i with
              command := some .raise, sends := 1, complied := false, resend := some (s.now + 1000000)
              motion := some (s.now + 1000000 * c.raiseLimit) })) ∧
        ((∃ i c, s₁.shutter i = some c ∧ c.zone = z ∧ (s₁.shutterLive i).state ∉ [ShutterState.open, .isolated]) →
          mid.zone z = s₁.zone z) ∧
        ((∀ i c, s₁.shutter i = some c → c.zone = z → (s₁.shutterLive i).state ∈ [ShutterState.open, .isolated]) →
          (mid.zone z).state = .normal) ∧
        ChangesOnly [.zones, .shutters, .shafts, .calls, .arbiters, .playback, .net, .tokens] s₁ mid) ∧
      ((s₁.zone z).state ∈ [ZoneState.alarm, .silenced] →
        (∀ i c, s₁.point i = some c → c.zone = z → (s₁.pointLive i).state ∈ [PointState.normal, .fault]) →
        (∃ i c, s₁.shutter i = some c ∧ c.zone = z ∧
          (s₁.shutterLive i).state ∈ [ShutterState.descending, .closed, .stalled]) → ∃ mid : State,
        exec (.resetZone z) s = .next (mid.reply r.ticket .done) ∧ (mid.zone z).state = .resetting ∧
        (∀ y, y ≠ z → mid.zone y = s₁.zone y) ∧
        (∀ i c, s₁.shutter i = some c → c.zone = z →
          (s₁.shutterLive i).state ∈ [ShutterState.descending, .closed, .stalled] →
          (mid.shutterLive i).state = (s₁.shutterLive i).state ∧ (mid.shutterLive i).command = some .raise ∧
            (mid.shutterLive i).sends = 1 ∧ (mid.shutterLive i).resend = some (s.now + 1000000) ∧
            (mid.shutterLive i).motion = some (s.now + 1000000 * c.raiseLimit)) ∧
        (s₁.day.closePending = false → mid.day = s₁.day) ∧
        ChangesOnly [.zones, .shutters, .shafts, .calls, .arbiters, .day, .playback, .net, .tokens] s₁ mid) ∧
      ((s₁.zone z).state ∈ [ZoneState.alarm, .silenced] →
        (∀ i c, s₁.point i = some c → c.zone = z → (s₁.pointLive i).state ∈ [PointState.normal, .fault]) →
        (∀ i c, s₁.shutter i = some c → c.zone = z → (s₁.shutterLive i).state ∈ [ShutterState.open, .isolated]) →
        ∃ mid : State, exec (.resetZone z) s = .next (mid.reply r.ticket .done) ∧ (mid.zone z).state = .normal ∧
          (mid.zone z).cause = none ∧ (mid.zone z).alarmPoint = none ∧
          (∀ k < 2, (mid.shaft k).zoneFlags.getLsbD z = false) ∧ (∀ y, y ≠ z → mid.zone y = s₁.zone y) ∧
          ChangesOnly [.zones, .shutters, .shafts, .calls, .arbiters, .playback, .net, .tokens] s₁ mid) ∧
      ((s₁.zone z).state ∈ [ZoneState.normal, .alert] → ∃ mid : State,
        exec (.isolateZone z) s = .next (mid.reply r.ticket .done) ∧
        mid.zone z = { s₁.zone z with state := .isolated, knockPoint := none, knockTimer := none } ∧
        (∀ y, y ≠ z → mid.zone y = s₁.zone y) ∧
        (∀ i c, s₁.shutter i = some c → c.zone = z → mid.shutterLive i = { s₁.shutterLive i with
          state := .isolated, resend := none, clearance := none, warning := none, motion := none, command := none
          sends := 0 }) ∧
        (∀ i c, s₁.shutter i = some c → c.zone ≠ z → mid.shutterLive i = s₁.shutterLive i) ∧
        ChangesOnly [.zones, .shutters, .shafts, .arbiters, .playback, .net, .tokens] s₁ mid) ∧
      ((s₁.zone z).state = .isolated →
        (∀ i c, s₁.point i = some c → c.zone = z → (s₁.pointLive i).state ∈ [PointState.normal, .fault]) →
        (∀ i c, s₁.shutter i = some c → c.zone = z → (s₁.shutterLive i).lastReport =
          some { position := .openEnd, localRelease := false }) →
        ∃ mid : State, exec (.restoreZone z) s = .next (mid.reply r.ticket .done) ∧ (mid.zone z).state = .normal ∧
          (∀ y, y ≠ z → mid.zone y = s₁.zone y) ∧
          (∀ i c, s₁.shutter i = some c → c.zone = z → (mid.shutterLive i).state = .open ∧
            (mid.shutterLive i).forced = false) ∧
          ChangesOnly [.zones, .shutters, .shafts, .calls, .arbiters, .playback, .net, .tokens] s₁ mid))) ∧
  (∀ (z : Nat) (s s₁ : State) (r : Received), Accepted s .order (some z) r → s₁ = s.takeHead r → z < 16 →
    (s₁.zone z).state ∈ [ZoneState.alarm, .silenced] →
    (∀ i c, s₁.point i = some c → c.zone = z → (s₁.pointLive i).state ∈ [PointState.normal, .fault]) →
    ∃ mid : State, exec (.resetZone z) s = .next (mid.reply r.ticket .done) ∧
      (∀ i c, s₁.shutter i = some c → c.zone = z →
        ((s₁.shutterLive i).state ∈ [ShutterState.releaseWait, .warning] →
          (mid.shutterLive i).state = (if ((s₁.shutterLive i).lastReport.any fun x => decide (x.position = .openEnd)) then
            .open else .unknown) ∧
          (mid.shutterLive i).clearance = none ∧ (mid.shutterLive i).warning = none ∧
          (mid.shutterLive i).resend = none ∧ (mid.shutterLive i).motion = none ∧
          (mid.shutterLive i).faults = (s₁.shutterLive i).faults ∧ (mid.shutterLive i).forced = (s₁.shutterLive i).forced) ∧
        ((s₁.shutterLive i).state ∈ [ShutterState.descending, .closed, .stalled] →
          mid.shutterLive i = { s₁.shutterLive i with
            command := some .raise, sends := 1, complied := false, resend := some (s.now + 1000000)
            motion := some (s.now + 1000000 * c.raiseLimit) }) ∧
        ((s₁.shutterLive i).state ∈ [ShutterState.unknown, .open, .raising, .isolated] →
          mid.shutterLive i = s₁.shutterLive i) ∧
        (∀ l, (s₁.shutterLive i).state ∈ [ShutterState.releaseWait, .warning] → c.landing = some l → l.shaft < 2 →
          ((s₁.shutterLive i).lastReport.any fun x => decide (x.position = .openEnd)) = false →
          s₁.shaftEnabled l.shaft = true → (s₁.shaft l.shaft).state ≠ .tripped → (s₁.shaft l.shaft).permit = true →
          (mid.shaft l.shaft).latched .localDrop)) ∧
      (∀ k < 2, (∀ i c l, s₁.shutter i = some c → c.zone = z → c.landing = some l → l.shaft = k →
          (s₁.shutterLive i).state ∈ [ShutterState.releaseWait, .warning] →
          ((s₁.shutterLive i).lastReport.any fun x => decide (x.position = .openEnd)) = true) →
        ((s₁.shaft k).state = .tripped ↔ (mid.shaft k).state = .tripped)) ∧
      ((∃ i c, s₁.shutter i = some c ∧ c.zone = z ∧
          ((s₁.shutterLive i).state ∈ [ShutterState.descending, .closed, .stalled, .unknown, .raising] ∨
            (s₁.shutterLive i).state ∈ [ShutterState.releaseWait, .warning] ∧
              ((s₁.shutterLive i).lastReport.any fun x => decide (x.position = .openEnd)) = false)) →
        mid.zone z = { s₁.zone z with state := .resetting }) ∧
      ((∀ i c, s₁.shutter i = some c → c.zone = z →
          (s₁.shutterLive i).state ∈ [ShutterState.open, .isolated] ∨
            (s₁.shutterLive i).state ∈ [ShutterState.releaseWait, .warning] ∧
              ((s₁.shutterLive i).lastReport.any fun x => decide (x.position = .openEnd)) = true) →
        mid.zone z = { s₁.zone z with state := .normal, cause := none, alarmPoint := none }) ∧
      (∀ y, y ≠ z → mid.zone y = s₁.zone y) ∧ (s₁.day.closePending = false → mid.day = s₁.day) ∧
      ChangesOnly [.zones, .shutters, .shafts, .calls, .arbiters, .day, .playback, .net, .tokens] s₁ mid) ∧
  (∀ (z : Nat) (s s₁ : State) (r : Received), Accepted s .order (some z) r → s₁ = s.takeHead r → z < 16 →
    (s₁.zone z).state = .isolated → ∃ mid : State, exec (.restoreZone z) s = .next (mid.reply r.ticket .done) ∧
      ChangesOnly [.zones, .shutters, .shafts, .calls, .arbiters, .day, .playback, .net, .tokens] s₁ mid ∧
      (∀ y, y ≠ z → mid.zone y = s₁.zone y) ∧ (s₁.day.closePending = false → mid.day = s₁.day) ∧
      (∀ i c, s₁.shutter i = some c → c.zone = z →
        ((mid.zone z).state ≠ .alarm →
          ((s₁.shutterLive i).lastReport = none → (mid.shutterLive i).state = .unknown) ∧
          ((s₁.shutterLive i).lastReport = some { position := .openEnd, localRelease := false } →
            (mid.shutterLive i).state = .open ∧ (mid.shutterLive i).forced = false) ∧
          ((s₁.shutterLive i).lastReport = some { position := .raising, localRelease := false } →
            (mid.shutterLive i).state = .raising)) ∧
        (((s₁.shutterLive i).lastReport.any fun x => x.localRelease ||
            decide (x.position ∈ [CurtainPos.descending, .closedEnd, .stoppedMid, .jammed])) = true →
          (mid.zone z).state = .alarm ∧ (mid.zone z).cause = some .localDrop ∧
          (mid.shutterLive i).faults.unexpected = true ∧
          ((∀ j d, j < i → s₁.shutter j = some d → d.zone = z →
              (s₁.shutterLive j).lastReport ∈ [none, some { position := .openEnd, localRelease := false },
                some { position := .raising, localRelease := false }]) →
            (mid.zone z).alarmPoint = some (.shutter i))) ∧
        (∀ l, c.landing = some l → l.shaft < 2 → s₁.shaftEnabled l.shaft = true → (s₁.shaft l.shaft).state ≠ .tripped →
          (s₁.shutterLive i).lastReport ≠ some { position := .openEnd, localRelease := false } →
          ((s₁.shaft l.shaft).permit = true ∨ ((s₁.shutterLive i).lastReport.any fun x => x.localRelease ||
            decide (x.position ∈ [CurtainPos.descending, .closedEnd, .stoppedMid, .jammed])) = true) →
          (mid.shaft l.shaft).latched .localDrop)) ∧
      ((∀ i c, s₁.shutter i = some c → c.zone = z →
          (s₁.shutterLive i).lastReport ∈ [none, some { position := .openEnd, localRelease := false },
            some { position := .raising, localRelease := false }]) →
        ((∀ i c, s₁.point i = some c → c.zone = z → (s₁.pointLive i).state ∈ [PointState.normal, .fault]) →
          (mid.zone z).state = .normal) ∧
        ((∀ i c, s₁.point i = some c → c.zone = z → (s₁.pointLive i).state ∈ [PointState.normal, .fault, .prealarm]) →
          (∃ i c, s₁.point i = some c ∧ c.zone = z ∧ (s₁.pointLive i).state = .prealarm) →
          (mid.zone z).state = .alert ∧ (mid.zone z).knockPoint = none ∧
            (mid.zone z).knockTimer = some (s.now + 1000000 * (s.zoneCfg z).knockWindow)) ∧
        ∀ i c, s₁.point i = some c → c.zone = z → (s₁.pointLive i).state ∈ [PointState.alarm, .manual] →
          ((c.kind = .manual ∨ (s₁.pointLive i).state = .manual ∨ (s.zoneCfg z).doubleKnock = false) →
            (∀ j d, j < i → s₁.point j = some d → d.zone = z →
              (s₁.pointLive j).state ∈ [PointState.normal, .fault, .prealarm]) →
            (mid.zone z).state = .alarm ∧ (mid.zone z).alarmPoint = some (.point i) ∧
            (mid.zone z).cause =
              some (if c.kind = .manual ∨ (s₁.pointLive i).state = .manual then .manual else .automatic)) ∧
          (c.kind = .automatic → (s₁.pointLive i).state = .alarm → (s.zoneCfg z).doubleKnock = true →
            ((∀ j d, j ≠ i → s₁.point j = some d → d.zone = z →
                (s₁.pointLive j).state ∈ [PointState.normal, .fault, .prealarm]) →
              (mid.zone z).state = .alert ∧ (mid.zone z).knockPoint = some i ∧
                (mid.zone z).knockTimer = some (s.now + 1000000 * (s.zoneCfg z).knockWindow)) ∧
            ∀ j d, i < j → s₁.point j = some d → d.zone = z → (s₁.pointLive j).state ∈ [PointState.alarm, .manual] →
              (∀ n e, n < j → n ≠ i → s₁.point n = some e → e.zone = z →
                (s₁.pointLive n).state ∈ [PointState.normal, .fault, .prealarm]) →
              (mid.zone z).state = .alarm ∧ (mid.zone z).alarmPoint = some (.point j) ∧
              (mid.zone z).cause =
                some (if d.kind = .manual ∨ (s₁.pointLive j).state = .manual then .manual else .doubleKnock))))

/-- CLEAR_CALLS removes every record, or those of the call point it names; an address of no call point is BAD_VALUE.
With the arrival numbers apart, no other record goes; the rings of those removed are withdrawn, each is counted
CLEARED, the displays are recomputed and no CALL_ACK is sent. (R116) -/
def Obligations.ClearCallsRemovesRecords : Prop :=
  ∀ (a : Option Nat) (s s₁ : State) (r : Received) (p : CallRecord → Bool), Accepted s .order none r → s₁ = s.takeHead r →
    (s₁.calls.records.map CallRecord.number).Nodup →
    (∀ n, a = some n → (∀ i c, s₁.station i = some c → c.address.toNat = n → c.role ≠ .callPoint) →
      exec (.clearCalls a) s = .next (s₁.reply r.ticket .badValue)) ∧
    ((a = none ∧ p = (fun _ => true)) ∨
        (∃ n i, a = some n ∧ s₁.callPointAt n = some i ∧ p = fun x => decide (x.point = i)) → ∃ mid : State,
      exec (.clearCalls a) s = .next (mid.reply r.ticket .done) ∧
      mid.calls.records = (s₁.calls.records.filter fun x => !p x) ∧
      mid.calls.counters = { s₁.calls.counters with
        cleared := bumpBy (s₁.calls.records.filter p).length s₁.calls.counters.cleared } ∧
      (∀ x ∈ s₁.calls.records, p x = true → ∀ j,
        mid.ringPending j (.call x.number) = false ∧ mid.ringInForce j (.call x.number) = false) ∧
      (∀ j ∈ mid.stationsOf .annunciator, mid.isPresent j = true → mid.calls.shown.at? j = some (mid.displayList j)) ∧
      (∀ q < 5, ∀ f ∈ (mid.port q).normal, f.kind = 0x21#8 → f ∈ (s₁.port q).normal) ∧
      ChangesOnly [.calls, .arbiters, .net, .tokens] s₁ mid)

/-- CLEAR_COUNTERS sets every counter to 0 and clears the sticky error flags of the ports in one step, and leaves
every other part of the state as it was. (R183) -/
def Obligations.ClearCountersClearsOnlyCounters : Prop :=
  ∀ (s s₁ : State) (r : Received), Accepted s .order none r → s₁ = s.takeHead r → ∃ mid : State,
    exec .clearCounters s = .next (mid.reply r.ticket .done) ∧
    ChangesOnly [.stations, .unknownSource, .mismatchDrop, .shafts, .unknownPoint, .zones, .shutters, .unknownDrive, .calls,
      .arbiters, .day, .playback, .net, .exchange] s₁ mid ∧
    mid.unknownSource = 0 ∧ mid.mismatchDrop = 0 ∧ mid.unknownPoint = 0 ∧ mid.unknownDrive = 0 ∧
    (∀ i, mid.stationLive i = { s₁.stationLive i with foreign := 0 }) ∧
    (∀ k, mid.shaft k = { s₁.shaft k with
      clearStops := 0, reapproaches := 0, unclearables := 0, heldUnclear := 0, unmatchedLandings := 0 }) ∧
    (∀ z, mid.zone z = { s₁.zone z with furtherAlarms := 0, ignoredDrops := 0 }) ∧
    (∀ i, mid.shutterLive i = { s₁.shutterLive i with lateOutcomes := 0, unexpected := 0 }) ∧
    mid.calls = { s₁.calls with counters := {} } ∧
    (∀ i, mid.arbiter i = (s₁.arbiter i).map fun a => { a with counters := {} }) ∧
    mid.day = { s₁.day with fired := 0, noEffect := 0 } ∧ mid.playback = { s₁.playback with counters := {} } ∧
    (∀ p, mid.port p = { s₁.port p with counters := {}, sticky := {} }) ∧
    mid.net.mgmt = { s₁.net.mgmt with rejected := 0, badRequest := 0, noticeLost := 0, phraseBusy := 0 } ∧
    mid.exchange = { s₁.exchange with counters := {} }

/-- LINE_TEST of a DOWN port other than L4 puts it in LOOP; the test frame heard good with its payload is PASS,
anything else heard, or nothing within 2 ms, is FAIL, and the port is DOWN again with its KEEP interval running and a
PORT_STATE notice requested. The test frame is a KEEP of length 48 to every station. One that fails a check is counted in
that check's counter of the port, whose sticky flag is set; no other counter changes, but that frames still queued would be
counted as flushed. That LINE_TEST drops a KEEP in hand uncounted is the model's choice (notes/assumptions/21.md), and so is that a test frame
which passes every check but differs in its payload, or that is not received at all, is counted in no check counter
(notes/assumptions/44.md). (R166, R167, R169) -/
def Obligations.LineTestLoopsAndAnswers : Prop :=
  (∀ (p : Nat) (s s₁ : State) (r : Received), Accepted s .order (some p) r → s₁ = s.takeHead r →
    (5 ≤ p → exec (.lineTest p) s = .next (s₁.reply r.ticket .badIndex)) ∧
    (p = 4 ∨ p < 5 ∧ (s₁.port p).state ≠ .down → exec (.lineTest p) s = .next (s₁.reply r.ticket .refusedState)) ∧
    (p < 4 → (s₁.port p).state = .down → ∃ t : State, exec (.lineTest p) s = .next t ∧ ChangesOnly [.net] s₁ t ∧
      t.port p = { s₁.port p with
        state := .loop, hand := none, keepTimer := none, keepDue := false
        test := some { ticket := r.ticket, limit := s.now + 2000, frame := { dest := 0xFFFF#16, src := s.globals.own
                                                                             kind := 0x01#8, payload := testPayload } } } ∧ t.net.mgmt.sticky.getLsbD 12 = true)) ∧
  (testPayload.length = 48 ∧ ∀ i < 48, testPayload[i]? = some (BitVec.ofNat 8 i)) ∧
  ∀ (p : Nat) (x : LineTest) (s : State), p < 4 → (s.port p).test = some x →
    (∀ (c : Instr) (passed : Bool),
      (∃ line f, c = .lineTestReceive p line ∧ judgeLine line = .ok f ∧ passed = decide (f.payload = x.frame.payload)) ∨
        c = .lineTestTimeout p ∧ s.now ≤ x.limit ∧ passed = false →
      ∃ mid : State, exec c s = .next (mid.reply x.ticket .done (.test passed)) ∧ ChangesOnly [.net, .now] s mid ∧
        (mid.port p).state = .down ∧ (mid.port p).test = none ∧ (mid.port p).keepTimer = some (mid.now + 10000) ∧
        (mid.port p).counters = { (s.port p).counters with flushed := (mid.port p).counters.flushed } ∧
        ((s.port p).flushCount = 0 → (mid.port p).counters = (s.port p).counters) ∧
        (mid.port p).sticky = (s.port p).sticky ∧ mid.net.mgmt.sticky.getLsbD 12 = true ∧
        (∀ q < 4, q ≠ p → mid.port q = s.port q) ∧
        mid.now = if c = .lineTestTimeout p then x.limit else s.now) ∧
    ∀ line e n, judgeLine line = .error e → (e, n) ∈ [(LineCheck.noise,
        { (s.port p).counters with noise := bump (s.port p).counters.noise }),
        (.runt, { (s.port p).counters with runt := bump (s.port p).counters.runt }),
        (.long, { (s.port p).counters with long := bump (s.port p).counters.long }),
        (.length, { (s.port p).counters with length := bump (s.port p).counters.length }),
        (.check, { (s.port p).counters with check := bump (s.port p).counters.check })] →
      ∃ mid : State, exec (.lineTestReceive p line) s = .next (mid.reply x.ticket .done (.test false)) ∧
        (mid.port p).state = .down ∧ (mid.port p).test = none ∧ (mid.port p).keepTimer = some (s.now + 10000) ∧
        (mid.port p).counters = { n with flushed := (mid.port p).counters.flushed } ∧
        ((s.port p).flushCount = 0 → (mid.port p).counters = n) ∧
        (mid.port p).sticky = (s.port p).sticky.note e ∧ mid.net.mgmt.sticky.getLsbD 12 = true ∧
        (∀ q < 4, q ≠ p → mid.port q = s.port q) ∧ ChangesOnly [.net] s mid

/-- SAVE_SETTINGS takes a snapshot, makes the image INVALID and begins to write; the read-back that agrees makes it
VALID with the snapshot's tables in the EEPROM, a failure leaves it INVALID or ABSENT and is answered WRITE_FAILED.
That the checksum is invalid from the order's own step, and that a failed save leaves the other bytes as they were, is
the model's choice (notes/assumptions/19.md and 39.md). WRITE_PHRASE_BLOCK is checked in the order of its table and
begins to program, and an order that lacks its address is answered BAD_VALUE; at the end of the programming of a store in
its canonical form (an invariant: `Obligations.StepKeepsPhraseStoreForm`) the block reads as given and no other byte has
changed, and the order is answered by what was read back. That of more than 32 data bytes the first 32 are taken is the model's choice
(notes/assumptions/43.md). (R148, R179, R187, R189, R191) -/
def Obligations.SettingsAndPhrasesAreWritten : Prop :=
  ((∀ (s s₁ : State) (r : Received), Accepted s .order none r → s₁ = s.takeHead r →
    (s₁.settings.saving ≠ none → exec .saveSettings s = .next (s₁.reply r.ticket .busy)) ∧
    (s₁.settings.saving = none → ∃ t : State, exec .saveSettings s = .next t ∧
      t.settings = { s₁.settings with
        saving := some { ticket := r.ticket, snapshot := s₁.tables }, image := .invalid
        eeprom := { s₁.settings.eeprom with checksum := t.settings.eeprom.checksum } } ∧
      t.settings.eeprom.checksum ≠ byteSum t.settings.eeprom.body ∧
      t.net.mgmt.sticky.getLsbD 14 = true ∧ ChangesOnly [.settings, .net] s₁ t)) ∧
  ∀ (x : Saving) (s : State), s.settings.saving = some x →
    exec (.saveEnd .agrees) s = .next ((s.modSettings fun y => { y with
      image := .valid, saving := none
      eeprom := { marker := true, body := Config.imageBytes x.snapshot, tables := x.snapshot
                  checksum := byteSum (Config.imageBytes x.snapshot) } }).reply x.ticket .done) ∧
    ∀ (res : SaveResult) (im : ImageState), (res, im) ∈ [(SaveResult.differs, ImageState.invalid), (.noAcknowledge, .absent)] →
      ∃ mid : State, exec (.saveEnd res) s = .next (mid.reply x.ticket .refusedState .writeFailed) ∧
        mid.settings = { s.settings with image := im, saving := none } ∧ ChangesOnly [.settings, .net] s mid) ∧
  ((∀ (a : Nat) (data : List Byte) (s s₁ : State) (r : Received), Accepted s .order none r → s₁ = s.takeHead r →
    exec (.writePhraseBlock (some a) data) s = .next
      (if data.length < 32 ∨ a % 32 ≠ 0 ∨ 8388608 ≤ a then s₁.reply r.ticket .badValue
       else if s₁.settings.locked = true then s₁.reply r.ticket .refusedState
       else if s₁.playback.evac.isSome ∨ s₁.playback.stored.isSome then s₁.reply r.ticket .refusedState
       else if s₁.settings.writing.isSome then s₁.reply r.ticket .busy
       else s₁.modSettings fun x => { x with
         writing := some { ticket := r.ticket, address := a, data := data.take 32 } })) ∧
  (∀ (data : List Byte) (s : State) (r : Received), Accepted s .order none r →
    exec (.writePhraseBlock none data) s = .next ((s.takeHead r).reply r.ticket .badValue)) ∧
  ∀ (w : PhraseWrite) (back : List Byte) (s : State), s.settings.writing = some w → s.store.wf = true →
    back.length = 32 → ∃ mid : State, exec (.phraseWriteEnd back) s = .next (if back = w.data then mid.reply w.ticket .done
      else mid.reply w.ticket .refusedState .writeFailed) ∧
    mid.settings = { s.settings with writing := none } ∧ ChangesOnly [.settings, .store] s mid ∧
    (∀ j < 32, some (mid.store.read (w.address + j)) = back[j]?) ∧
    ∀ b, (b < w.address ∨ w.address + 32 ≤ b) → mid.store.read b = s.store.read b)

/-- The phrase lock: clear after power-on and the reset pin, kept at RESTART, set by LOCK_PHRASES with the answer DONE
whether or not it was set, and cleared by no other command; a write in progress runs to its end, and every later write
is refused. (R190) -/
def Obligations.PhraseLockHolds : Prop :=
  (∀ s t : State, exec .powerOn s = .next t ∨ exec .resetPin s = .next t → t.settings.locked = false) ∧
  (∀ s t : State, exec .restartTimeout s = .next t → t.settings.locked = s.settings.locked) ∧
  (∀ (s s₁ : State) (r : Received), Accepted s .order none r → s₁ = s.takeHead r →
    exec .lockPhrases s = .next ((s₁.modSettings fun x => { x with locked := true }).reply r.ticket .done)) ∧
  (∀ (c : Instr) (s t : State), exec c s = .next t → t.settings.locked = s.settings.locked ∨ c = .powerOn ∨
    c = .resetPin ∨ c = .lockPhrases ∧ t.settings.locked = true) ∧
  (∀ (w : PhraseWrite) (s t : State), s.settings.locked = true → s.settings.writing = some w →
    exec (.phraseWriteEnd w.data) s = .next t → t.store = s.store.writeRun w.address (w.data.take 32) ∧
      t.settings = { s.settings with writing := none }) ∧
  ∀ (a : Option Nat) (data : List Byte) (s t : State), s.settings.locked = true → exec (.writePhraseBlock a data) s = .next t →
    t.settings = s.settings ∧ t.store = s.store ∧
    ∀ n r, a = some n → 32 ≤ data.length → n % 32 = 0 → n < 8388608 → Accepted s .order none r →
      t = (s.takeHead r).reply r.ticket .refusedState

/-- QUERY returns what its code names, for each of the eighteen codes and every index (`State.Returned`): an entry with its
live fields and counters, FREE for a free one, the shared counters at index 255, a port's counters and flags, a call record
with its state and time left, a directory entry with its validity. It changes nothing but the sticky request flags, and those
only by a QUERY of MANAGEMENT with the clear flag; an index outside the range is BAD_INDEX, and so is an unknown code or a
part that the return does not have. A return that fits one payload has one part, which carries it whole, so a clearing QUERY
of MANAGEMENT returns every flag it clears; the parts of a divided one carry its bytes, in order and none twice. How many
bytes a return has, and how many a payload has room for, is left free (notes/assumptions/6.md). The model's choices: that a
QUERY without a part number is answered BAD_VALUE (notes/assumptions/17.md), and that QUERY of SOUNDER for a record that is
no sounder's returns FREE (notes/assumptions/12.md). An unknown order is answered so. (R2, R57, R76, R101, R119, R132, R137,
R140, R148, R177, R179, R182) -/
def Obligations.QueriesReadTheState : Prop :=
  (∀ (c : QueryCode) (i : Nat) (s s₁ : State) (r : Received), s₁ = s.takeHead r → Accepted s .query (queryIndex c i) r →
    (∀ j n cl, c ≠ .unknown → s₁.queryData c i j = none →
      exec (.query c i j (some n) cl) s = .next (s₁.reply r.ticket .badIndex)) ∧
    (∀ j n cl, c = .unknown → exec (.query c i j n cl) s = .next (s₁.reply r.ticket .badIndex)) ∧
    (∀ j cl, c ≠ .unknown → exec (.query c i j none cl) s = .next (s₁.reply r.ticket .badValue)) ∧
    ∀ j n cl d, c ≠ .unknown → s₁.queryData c i j = some d →
      (d.parts ≤ n → exec (.query c i j (some n) cl) s = .next (s₁.reply r.ticket .badIndex)) ∧
      (n < d.parts → exec (.query c i j (some n) cl) s = .next
        ((if c = .management ∧ cl = true then s₁.modMgmt fun m => { m with sticky := 0#23 } else s₁).reply
          r.ticket .done (d.part n)))) ∧
  (∀ d : QueryData, 0 < d.parts ∧ (d.parts = 1 → d.part 0 = .data d) ∧
    (d ∈ [QueryData.free] ∨ (∃ a b, d = .stationCounters a b) ∨ (∃ n, d = .pointCounters n) ∨ (∃ n, d = .shutterCounters n) ∨
      (∃ x, d = .callCounters x) ∨ (∃ x, d = .exchange x) ∨ (∃ e v, d = .phrase e v) ∨
      (∃ x, d = .management x) → d.parts = 1) ∧
    (d.parts ≠ 1 → ∃ cut : Nat → List Byte, (∀ n < d.parts, d.part n = .piece (cut n) n d.parts) ∧
      (List.range d.parts).flatMap cut = Config.returnBytes d ∧ ∀ n < d.parts, (cut n).length ≤ Config.replyRoom + 1)) ∧
  (∀ (s : State) (c : QueryCode) (i j : Nat), s.Returned i j (s.queryData c i j) c) ∧
  ∀ (s : State) (r : Received), Accepted s .order none r →
    exec .unknownOrder s = .next ((s.takeHead r).reply r.ticket .unknownOrder)

/-- A notice request sets the sticky flag of its kind; with the kind enabled it also takes the next sequence number
and joins the queue, and a LEVEL kind with a standing condition starts its 30 s. A notice that joins a full queue
drops the oldest of the lowest severity among the 17, itself included, and counts it (`Management.Joined`). The head
is then tried: while L4 is UP and its NORMAL queue has room for every copy of a notice, that notice leaves for each
address of its route, and one whose route makes no frame is counted lost (`Net.Dispatched`); it is tried again when a
frame leaves L4's NORMAL queue and when L4 enters UP. The addresses of a route. The repeat builds the notice again
with its present contents while the condition stands, places it in the same way, and starts its 30 s again; it stops
otherwise. That a repeat takes the next sequence number and sets no flag is the model's choice
(notes/assumptions/32.md), and so is that the first notice after a reset carries the number 1, and that a repeated
ZONE_STATE keeps the old state, and a repeated CALL_OFFICE the reason, of the request that started the timer
(notes/assumptions/43.md). (R184, R185, R186) -/
def Obligations.NoticesAreBuiltAndRepeated : Prop :=
  (∀ (b : NoticeBody) (s t : State), t = s.notify b →
    t.net.mgmt.sticky.getLsbD (noticeIndex b.key.kind) = true ∧ ChangesOnly [.net] s t ∧
    (∀ i, i ≠ noticeIndex b.key.kind → t.net.mgmt.sticky.getLsbD i = s.net.mgmt.sticky.getLsbD i) ∧
    ((s.tables.notice b.key.kind).enable = false → t.net.ports = s.net.ports ∧
      t.net.mgmt = { s.net.mgmt with sticky := t.net.mgmt.sticky }) ∧
    ((s.tables.notice b.key.kind).enable = true → (s.port 4).state ≠ .up → s.net.mgmt.queue.length < 16 →
      t.net.ports = s.net.ports ∧
      t.net.mgmt = { s.net.mgmt with
        sticky := t.net.mgmt.sticky, seq := (s.net.mgmt.seq + 1) % 256
        queue := s.net.mgmt.queue ++ [{ body := b, severity := noticeSeverity b.key.kind
                                        route := (s.tables.notice b.key.kind).route
                                        seq := (s.net.mgmt.seq + 1) % 256 }]
        timers := if (s.tables.notice b.key.kind).mode = .level ∧ noticeHasCondition b.key.kind = true then
            { key := b.key, body := b, due := s.now + 30000000 } ::
              s.net.mgmt.timers.filter fun x => decide (x.key ≠ b.key) else s.net.mgmt.timers }) ∧
    ((s.tables.notice b.key.kind).enable = true → ∃ m : Management,
      { s.net.mgmt with sticky := t.net.mgmt.sticky, seq := (s.net.mgmt.seq + 1) % 256 : Management }.Joined m
        { body := b, severity := noticeSeverity b.key.kind, route := (s.tables.notice b.key.kind).route
          seq := (s.net.mgmt.seq + 1) % 256 } ∧
      Net.Dispatched s.globals
        { ports := s.net.ports
          mgmt := { m with timers :=
            if (s.tables.notice b.key.kind).mode = .level ∧ noticeHasCondition b.key.kind = true then
              { key := b.key, body := b, due := s.now + 30000000 } ::
                s.net.mgmt.timers.filter fun x => decide (x.key ≠ b.key) else s.net.mgmt.timers } } t.net)) ∧
  (∀ (g : Global) (r : NoticeRoute),
    (g.console0 = none → g.console1 = none → noticeDests g r = [0xFFFF#16]) ∧
    (g.console0 ≠ none ∨ g.console1 ≠ none → (noticeDests g r).Nodup ∧ ∀ a, a ∈ noticeDests g r ↔
      g.console0 = some a ∧ r ≠ .console1 ∨ g.console1 = some a ∧ r ≠ .console0)) ∧
  (∀ (s : State) (h : Hand) (f : TxFrame), (s.port 4).hand = some h → h.phase = .sending → h.source = .queue .normal →
    (s.port 4).headOf .normal = some f → f.report = .none → ∃ (t : State) (n : Net), exec (.frameSent 4) s = .next t ∧
      Net.Dispatched s.globals
        { s.net with ports := s.net.ports.modify 4 fun p => { p with
            normal := p.normal.drop 1, hand := none, keepTimer := some (s.now + 10000)
            counters := { p.counters with sent := bump p.counters.sent } } } n ∧
      t = { s with net := { n with ports := n.ports.modify 4 Port.pick } }) ∧
  (∀ (line : LineEvent) (f : Frame) (s : State), s.inPlace = true → (s.port 4).state = .trial → 2 ≤ (s.port 4).trial →
    (s.port 4).judges = true → judgeLine line = .ok f → ∃ t : State, exec (.frameReceive 4 line) s = .next t ∧
      (t.port 4).state = .up ∧ ∀ q rest, t.net.mgmt.queue = q :: rest →
        16 < (t.port 4).normal.length + (noticeDests s.globals q.route).length) ∧
  (∀ (s : State) (b : NoticeBody), (s.presentBody b).key = b.key) ∧
  (∀ (s : State) (z k p : Nat) (o n : ZoneState) (ca : Option AlarmCause) (pt : Option AlarmPoint) (tc : Option TripCause)
      (oc : Option Outcome) (re : Option StopReason) (st : PortState),
    s.presentBody (.zoneState z o n ca pt) = .zoneState z o (s.zone z).state
      (if (s.zone z).state = .alarm then (s.zone z).cause else none)
      (if (s.zone z).state = .alarm then (s.zone z).alarmPoint else none) ∧
    s.presentBody (.shaftTrip k tc) = .shaftTrip k (s.shaft k).trip ∧
    s.presentBody (.shaftHeld k oc re) = .shaftHeld k (s.shaft k).outcome (s.shaft k).heldReason ∧
    s.presentBody (.portState p st) = .portState p (s.port p).state) ∧
  (∀ (s : State) (n : Nat) (a : Addr) (c : CallClass) (why : OfficeReason) (r : CallRecord), s.record n = some r →
    s.presentBody (.callOffice n a c why) = .callOffice n (s.addressOf r.point) r.cls why) ∧
  ∀ (k : NoticeKey) (x : NoticeTimer) (s : State), (s.net.mgmt.timers.find? fun t => decide (t.key = k)) = some x →
    ((s.tables.notice k.kind).enable = true → (s.tables.notice k.kind).mode = .level → s.conditionStands x.body = true →
      (s.port 4).state ≠ .up → s.net.mgmt.queue.length < 16 → ∃ t : State, exec (.noticeRepeat k) s = .next t ∧
      t.now = max s.now x.due ∧ ChangesOnly [.net, .now] s t ∧ t.net.ports = s.net.ports ∧
      t.net.mgmt = { s.net.mgmt with
        seq := (s.net.mgmt.seq + 1) % 256
        queue := s.net.mgmt.queue ++ [{ body := s.presentBody x.body, severity := noticeSeverity x.body.key.kind
                                        route := (s.tables.notice x.body.key.kind).route
                                        seq := (s.net.mgmt.seq + 1) % 256 }]
        timers := { key := x.body.key, body := s.presentBody x.body, due := max s.now x.due + 30000000 } ::
          s.net.mgmt.timers.filter fun y => decide (y.key ≠ x.body.key) }) ∧
    ((s.tables.notice k.kind).enable = true → (s.tables.notice k.kind).mode = .level → s.conditionStands x.body = true →
      ∃ (t : State) (m : Management), exec (.noticeRepeat k) s = .next t ∧
      t.now = max s.now x.due ∧ ChangesOnly [.net, .now] s t ∧
      { s.net.mgmt with seq := (s.net.mgmt.seq + 1) % 256 : Management }.Joined m
        { body := s.presentBody x.body, severity := noticeSeverity x.body.key.kind
          route := (s.tables.notice x.body.key.kind).route, seq := (s.net.mgmt.seq + 1) % 256 } ∧
      Net.Dispatched s.globals
        { ports := s.net.ports
          mgmt := { m with timers := { key := x.body.key, body := s.presentBody x.body, due := max s.now x.due + 30000000 } ::
            s.net.mgmt.timers.filter fun y => decide (y.key ≠ x.body.key) } } t.net) ∧
    ((s.tables.notice k.kind).enable = false ∨ (s.tables.notice k.kind).mode = .edge ∨ s.conditionStands x.body = false →
      exec (.noticeRepeat k) s = .next ((s.reach x.due).modMgmt fun m => { m with
        timers := m.timers.filter fun t => decide (t.key ≠ k) }))

/-- Every step keeps the outputs of both shafts as R18's table gives them for their states. Every step keeps a VALID
chain position within the loop. Every step keeps the sounders with their zones: a sounder of a zone in ALARM has
CONTINUOUS in force, one of a SILENCED or RESETTING zone has nothing in force, and any other has a timed pattern or
none. (R15, R18, R20, R119, R120, R126, R127) -/
def Obligations.StepKeepsOutputsAndPositions : Prop :=
  (∀ s t : State, s.outputsOk → step s = .next t → t.outputsOk) ∧
  (∀ s t : State, s.PositionsOk → step s = .next t → t.PositionsOk) ∧
  (∀ s t : State, s.SoundersFollow → step s = .next t → t.SoundersFollow)

/-- The interlock: from a state in which it holds every step leads to one in which it holds: a shutter leaves OPEN
under a running shaft only together with a stop or a trip of the shaft. Part of it is that a shutter at rest has no
command in force, which rests on the model's choice that a RAISE in force is given up on entry to RELEASE_WAIT
(notes/assumptions/23.md). (R19, R79, R80, R82) -/
def Obligations.StepKeepsTheInterlock : Prop :=
  ∀ s t : State, s.Interlocked → step s = .next t → t.Interlocked

/-- Every step keeps the loaded tables within the checks of the data book: no write, and no image, leaves a table
entry that its own checks would refuse, alone or against the others. (R188, R4, R180) -/
def Obligations.StepKeepsTheTablesValid : Prop :=
  ∀ s t : State, s.tables.check = true → step s = .next t → t.tables.check = true

/-- Every step keeps the intake queue, the transmit queues and the notice queue within their sizes. Every step keeps
the call table, the ring lists, the announcement queue and the jitter buffer within their sizes, the arrival numbers
of the call records apart, one open record for each call point and class, one pending request for each owner at a
sounder, and the urgent announcements before the others. (R100, R119, R155, R161, R170, R172, R186) -/
def Obligations.StepKeepsQueueSizes : Prop :=
  (∀ s t : State, s.lineQueuesOk → step s = .next t → t.lineQueuesOk) ∧
  (∀ s t : State, s.jobQueuesOk → step s = .next t → t.jobQueuesOk)

/-- The state after reset meets every invariant. (R18, R19, R148, R188) -/
def Obligations.ResetMeetsTheInvariants : Prop :=
  State.reset.store.wf = true ∧ State.reset.outputsOk ∧ State.reset.Interlocked ∧ State.reset.SoundersFollow ∧
    State.reset.PositionsOk ∧ State.reset.tables.check = true ∧ State.reset.lineQueuesOk ∧ State.reset.jobQueuesOk

/-- The receiver takes the bytes of every frame with at most 48 payload bytes back as that frame, and a line it judges
good carries exactly the bytes of the frame it makes of it. Samples packed two to three bytes are unpacked as they
were, and the payloads of a frame of samples are 37 bytes. (R165, R166, R178) -/
def Obligations.FrameAndSampleBytesRoundTrip : Prop :=
  ((∀ f : Frame, f.payload.length ≤ 48 → judgeLine (.bytes f.bytes) = .ok f) ∧
  ∀ (bs : List Byte) (f : Frame), judgeLine (.bytes bs) = .ok f → bs = f.bytes ∧ f.payload.length ≤ 48) ∧
  ((∀ xs : List Sample, xs.length % 2 = 0 → unpackSamples (packSamples xs) = xs) ∧
  (∀ bs : List Byte, bs.length % 3 = 0 → packSamples (unpackSamples bs) = bs) ∧
  ∀ (b : Nat) (xs : List Sample), xs.length = 24 → (samplesPayload b xs).length = 37)

/-- A frame offered to a port in a class: discarded in DOWN or LOOP; in TRIAL or UP it joins the tail of its queue,
or, the queue being full, is refused and counted, or takes the place of the oldest stream frame not in hand. (R172) -/
def Obligations.OffersFollowTheTable : Prop :=
  ∀ (p : Nat) (c : QueueClass) (f : TxFrame) (s t : State), p < 5 → t = s.offer p c f →
    (∀ q, q ≠ p → q ≠ 4 → t.port q = s.port q) ∧ ChangesOnly [.net] s t ∧
    ((s.port p).state ∈ [PortState.down, .loop] → t.port p = { s.port p with
      counters := { (s.port p).counters with discardedDown := bump (s.port p).counters.discardedDown } }) ∧
    ((s.port p).state ∈ [PortState.trial, .up] →
      (c = .safety → (s.port p).safety.length < 8 → (t.port p).safety = (s.port p).safety ++ [f] ∧
        (t.port p).stream = (s.port p).stream ∧ (t.port p).normal = (s.port p).normal ∧
        (t.port p).counters = (s.port p).counters) ∧
      (c = .normal → (s.port p).normal.length < 16 → (t.port p).normal = (s.port p).normal ++ [f] ∧
        (t.port p).stream = (s.port p).stream ∧ (t.port p).safety = (s.port p).safety ∧
        (t.port p).counters = (s.port p).counters) ∧
      (c = .stream → (s.port p).stream.length < 4 → (t.port p).stream = (s.port p).stream ++ [f] ∧
        (t.port p).safety = (s.port p).safety ∧ (t.port p).normal = (s.port p).normal ∧
        (t.port p).counters = (s.port p).counters) ∧
      (c = .safety → 8 ≤ (s.port p).safety.length → (t.port p).safety = (s.port p).safety ∧
        (t.port p).counters = { (s.port p).counters with refusedSafety := bump (s.port p).counters.refusedSafety } ∧
        t.net.mgmt.sticky.getLsbD 4 = true) ∧
      (c = .normal → 16 ≤ (s.port p).normal.length → t.port p = { s.port p with
        counters := { (s.port p).counters with refusedNormal := bump (s.port p).counters.refusedNormal } }) ∧
      (c = .stream → (s.port p).stream.length = 4 → ∃ a x b, (s.port p).stream = a ++ x :: b ∧
        (t.port p).stream = a ++ b ++ [f] ∧
        a.length = (if (s.port p).hand.any fun h => decide (h.source = .queue .stream) then 1 else 0) ∧
        (t.port p).safety = (s.port p).safety ∧ (t.port p).normal = (s.port p).normal ∧
        (t.port p).counters = { (s.port p).counters with streamDropped := bump (s.port p).counters.streamDropped }))
end

