-- ==== Sys2Proof/Laws/FramesShafts.lean ====
section
/-! SUPPORT. What each shared operation of chapters 2, 3, 6 and 7 can change: one lemma for each, naming the fields. An operation
whose fields are all blanked leaves the rest of the state as it was. -/

namespace Sys2Proof.Machine

variable {F : List Field}

@[simp] theorem State.blank_ite {F : List Field} (c : Prop) [Decidable c] (s t : State) :
    (if c then s else t).blank F = if c then s.blank F else t.blank F := by split <;> rfl

/-- A fold whose step leaves the unnamed fields alone does so as a whole. -/
@[simp] theorem State.foldl_blank {F : List Field} {α : Type} (f : State → α → State) (l : List α) (s : State)
    (h : ∀ t a, (f t a).blank F = t.blank F) : (l.foldl f s).blank F = s.blank F := by
  induction l generalizing s with
  | nil => rfl
  | cons a l ih => simp [List.foldl_cons, ih, h]

@[simp] theorem State.forEach_blank {F : List Field} (s : State) (is : List Nat) (f : State → Nat → State)
    (h : ∀ t i, (f t i).blank F = t.blank F) : (s.forEach is f).blank F = s.blank F := State.foldl_blank f is s h

@[simp] theorem State.blank_with_tokens (h_tokens : Field.tokens ∈ F) (s : State) (x) :
    ({ s with tokens := x } : State).blank F = s.blank F := by simp [State.blank, h_tokens]

@[simp] theorem State.blank_with_arbiters (h_arbiters : Field.arbiters ∈ F) (s : State) (x) :
    ({ s with arbiters := x } : State).blank F = s.blank F := by simp [State.blank, h_arbiters]

@[simp] theorem State.blank_with_draws (h_draws : Field.draws ∈ F) (s : State) (x) :
    ({ s with draws := x } : State).blank F = s.blank F := by simp [State.blank, h_draws]

@[simp] theorem State.blank_with_exchange (h_exchange : Field.exchange ∈ F) (s : State) (x) :
    ({ s with exchange := x } : State).blank F = s.blank F := by simp [State.blank, h_exchange]

@[simp] theorem State.blank_with_settings (h_settings : Field.settings ∈ F) (s : State) (x) :
    ({ s with settings := x } : State).blank F = s.blank F := by simp [State.blank, h_settings]

@[simp] theorem State.blank_with_tables (h_tables : Field.tables ∈ F) (s : State) (x) :
    ({ s with tables := x } : State).blank F = s.blank F := by simp [State.blank, h_tables]

@[simp] theorem State.blank_with_net (h_net : Field.net ∈ F) (s : State) (x) :
    ({ s with net := x } : State).blank F = s.blank F := by simp [State.blank, h_net]

@[simp] theorem State.blank_with_stations (h_stations : Field.stations ∈ F) (s : State) (x) :
    ({ s with stations := x } : State).blank F = s.blank F := by simp [State.blank, h_stations]

@[simp] theorem State.blank_with_points (h_points : Field.points ∈ F) (s : State) (x) :
    ({ s with points := x } : State).blank F = s.blank F := by simp [State.blank, h_points]

@[simp] theorem State.blank_with_inPlace (h_inPlace : Field.inPlace ∈ F) (s : State) (x) :
    ({ s with inPlace := x } : State).blank F = s.blank F := by simp [State.blank, h_inPlace]

@[simp] theorem State.blank_with_mismatchDrop (h_mismatchDrop : Field.mismatchDrop ∈ F) (s : State) (x) :
    ({ s with mismatchDrop := x } : State).blank F = s.blank F := by simp [State.blank, h_mismatchDrop]

@[simp] theorem State.blank_with_unknownSource (h_unknownSource : Field.unknownSource ∈ F) (s : State) (x) :
    ({ s with unknownSource := x } : State).blank F = s.blank F := by simp [State.blank, h_unknownSource]

@[simp] theorem State.blank_with_unknownPoint (h_unknownPoint : Field.unknownPoint ∈ F) (s : State) (x) :
    ({ s with unknownPoint := x } : State).blank F = s.blank F := by simp [State.blank, h_unknownPoint]

@[simp] theorem State.blank_with_unknownDrive (h_unknownDrive : Field.unknownDrive ∈ F) (s : State) (x) :
    ({ s with unknownDrive := x } : State).blank F = s.blank F := by simp [State.blank, h_unknownDrive]

@[simp] theorem State.blank_with_clock (h_clock : Field.clock ∈ F) (s : State) (x) :
    ({ s with clock := x } : State).blank F = s.blank F := by simp [State.blank, h_clock]

@[simp] theorem State.blank_with_day (h_day : Field.day ∈ F) (s : State) (x) :
    ({ s with day := x } : State).blank F = s.blank F := by simp [State.blank, h_day]

@[simp] theorem State.blank_with_store (h_store : Field.store ∈ F) (s : State) (x) :
    ({ s with store := x } : State).blank F = s.blank F := by simp [State.blank, h_store]

/-! ### Reading a frame -/

theorem ChangesOnly.tables {s t : State} (h : ChangesOnly F s t) (n : Field.tables ∉ F := by decide) : t.tables = s.tables := by
  simpa [State.blank, n] using congrArg State.tables h

theorem ChangesOnly.inPlace {s t : State} (h : ChangesOnly F s t) (n : Field.inPlace ∉ F := by decide) : t.inPlace = s.inPlace := by
  simpa [State.blank, n] using congrArg State.inPlace h

theorem ChangesOnly.stations {s t : State} (h : ChangesOnly F s t) (n : Field.stations ∉ F := by decide) : t.stations = s.stations := by
  simpa [State.blank, n] using congrArg State.stations h

theorem ChangesOnly.unknownSource {s t : State} (h : ChangesOnly F s t) (n : Field.unknownSource ∉ F := by decide) : t.unknownSource = s.unknownSource := by
  simpa [State.blank, n] using congrArg State.unknownSource h

theorem ChangesOnly.mismatchDrop {s t : State} (h : ChangesOnly F s t) (n : Field.mismatchDrop ∉ F := by decide) : t.mismatchDrop = s.mismatchDrop := by
  simpa [State.blank, n] using congrArg State.mismatchDrop h

theorem ChangesOnly.shafts {s t : State} (h : ChangesOnly F s t) (n : Field.shafts ∉ F := by decide) : t.shafts = s.shafts := by
  simpa [State.blank, n] using congrArg State.shafts h

theorem ChangesOnly.points {s t : State} (h : ChangesOnly F s t) (n : Field.points ∉ F := by decide) : t.points = s.points := by
  simpa [State.blank, n] using congrArg State.points h

theorem ChangesOnly.unknownPoint {s t : State} (h : ChangesOnly F s t) (n : Field.unknownPoint ∉ F := by decide) : t.unknownPoint = s.unknownPoint := by
  simpa [State.blank, n] using congrArg State.unknownPoint h

theorem ChangesOnly.zones {s t : State} (h : ChangesOnly F s t) (n : Field.zones ∉ F := by decide) : t.zones = s.zones := by
  simpa [State.blank, n] using congrArg State.zones h

theorem ChangesOnly.shutters {s t : State} (h : ChangesOnly F s t) (n : Field.shutters ∉ F := by decide) : t.shutters = s.shutters := by
  simpa [State.blank, n] using congrArg State.shutters h

theorem ChangesOnly.unknownDrive {s t : State} (h : ChangesOnly F s t) (n : Field.unknownDrive ∉ F := by decide) : t.unknownDrive = s.unknownDrive := by
  simpa [State.blank, n] using congrArg State.unknownDrive h

theorem ChangesOnly.calls {s t : State} (h : ChangesOnly F s t) (n : Field.calls ∉ F := by decide) : t.calls = s.calls := by
  simpa [State.blank, n] using congrArg State.calls h

theorem ChangesOnly.arbiters {s t : State} (h : ChangesOnly F s t) (n : Field.arbiters ∉ F := by decide) : t.arbiters = s.arbiters := by
  simpa [State.blank, n] using congrArg State.arbiters h

theorem ChangesOnly.clock {s t : State} (h : ChangesOnly F s t) (n : Field.clock ∉ F := by decide)
    (m : Field.now ∉ F := by decide) : t.clock = s.clock := by
  simpa [State.blank, n, m] using congrArg State.clock h

/-- A frame that leaves the clock out, but not the present moment, keeps all that the clock reads (R132). -/
theorem ChangesOnly.readings {s t : State} (h : ChangesOnly F s t) (n : Field.clock ∉ F := by decide) :
    t.clock.readings = s.clock.readings := by
  have h := congrArg State.clock h
  simp only [State.blank, n, if_false] at h
  split at h
  · exact h
  · rw [h]

theorem ChangesOnly.day {s t : State} (h : ChangesOnly F s t) (n : Field.day ∉ F := by decide) : t.day = s.day := by
  simpa [State.blank, n] using congrArg State.day h

theorem ChangesOnly.playback {s t : State} (h : ChangesOnly F s t) (n : Field.playback ∉ F := by decide) : t.playback = s.playback := by
  simpa [State.blank, n] using congrArg State.playback h

theorem ChangesOnly.net {s t : State} (h : ChangesOnly F s t) (n : Field.net ∉ F := by decide) : t.net = s.net := by
  simpa [State.blank, n] using congrArg State.net h

theorem ChangesOnly.exchange {s t : State} (h : ChangesOnly F s t) (n : Field.exchange ∉ F := by decide) : t.exchange = s.exchange := by
  simpa [State.blank, n] using congrArg State.exchange h

theorem ChangesOnly.settings {s t : State} (h : ChangesOnly F s t) (n : Field.settings ∉ F := by decide) : t.settings = s.settings := by
  simpa [State.blank, n] using congrArg State.settings h

theorem ChangesOnly.store {s t : State} (h : ChangesOnly F s t) (n : Field.store ∉ F := by decide) : t.store = s.store := by
  simpa [State.blank, n] using congrArg State.store h

theorem ChangesOnly.pending {s t : State} (h : ChangesOnly F s t) (n : Field.pending ∉ F := by decide) : t.pending = s.pending := by
  simpa [State.blank, n] using congrArg State.pending h

theorem ChangesOnly.now {s t : State} (h : ChangesOnly F s t) (n : Field.now ∉ F := by decide) : t.now = s.now := by
  simpa [State.blank, n] using congrArg State.now h

theorem ChangesOnly.draws {s t : State} (h : ChangesOnly F s t) (n : Field.draws ∉ F := by decide) : t.draws = s.draws := by
  simpa [State.blank, n] using congrArg State.draws h

theorem ChangesOnly.tokens {s t : State} (h : ChangesOnly F s t) (n : Field.tokens ∉ F := by decide) : t.tokens = s.tokens := by
  simpa [State.blank, n] using congrArg State.tokens h

theorem ChangesOnly.refl (s : State) : ChangesOnly F s s := rfl

theorem ChangesOnly.trans {s t u : State} (h : ChangesOnly F s t) (k : ChangesOnly F t u) : ChangesOnly F s u :=
  Eq.trans k h

/-- Two states that agree on more fields agree on fewer. -/
theorem ChangesOnly.mono {G : List Field} {s t : State} (h : ChangesOnly F s t) (sub : ∀ f ∈ F, f ∈ G) :
    ChangesOnly G s t := by
  have key : ∀ (f : Field) (p q : Prop), f ∉ G → (f ∉ F → p) → p := fun f p _ n k => k fun m => n (sub f m)
  unfold ChangesOnly State.blank
  simp only [State.mk.injEq]
  refine ⟨?_, ?_, ?_, ?_, ?_, ?_, ?_, ?_, ?_, ?_, ?_, ?_, ?_, ?_, ?_, ?_, ?_, ?_, ?_, ?_, ?_, ?_, ?_, ?_⟩ <;> split <;> first
    | rfl
    | (split
       · rename_i n _; exact h.readings fun m => n (sub _ m)
       · rename_i n k; exact h.clock (fun m => n (sub _ m)) fun m => k (sub _ m))
    | (rename_i n; refine key _ _ True n fun m => ?_; first
        | exact h.tables m
        | exact h.inPlace m
        | exact h.stations m
        | exact h.unknownSource m
        | exact h.mismatchDrop m
        | exact h.shafts m
        | exact h.points m
        | exact h.unknownPoint m
        | exact h.zones m
        | exact h.shutters m
        | exact h.unknownDrive m
        | exact h.calls m
        | exact h.arbiters m
        | exact h.day m
        | exact h.playback m
        | exact h.net m
        | exact h.exchange m
        | exact h.settings m
        | exact h.store m
        | exact h.pending m
        | exact h.now m
        | exact h.draws m
        | exact h.tokens m)

@[simp] theorem Clock.count_readings (c : Clock) (n : Nat) : (c.count n).readings = c.readings := by
  unfold Clock.count Clock.readings; split <;> rfl

@[simp] theorem State.modStation_blank (h_stations : Field.stations ∈ F) (s : State) (i : Nat) (f : StationLive → StationLive) :
    (s.modStation i f).blank F = s.blank F := by
  unfold State.modStation; simp [State.blank, h_stations]

@[simp] theorem State.modPoint_blank (h_points : Field.points ∈ F) (s : State) (i : Nat) (f : PointLive → PointLive) :
    (s.modPoint i f).blank F = s.blank F := by
  unfold State.modPoint; simp [State.blank, h_points]

@[simp] theorem State.modZone_blank (h_zones : Field.zones ∈ F) (s : State) (z : Nat) (f : ZoneLive → ZoneLive) :
    (s.modZone z f).blank F = s.blank F := by
  unfold State.modZone; simp [State.blank, h_zones]

@[simp] theorem State.modShutter_blank (h_shutters : Field.shutters ∈ F) (s : State) (i : Nat) (f : ShutterLive → ShutterLive) :
    (s.modShutter i f).blank F = s.blank F := by
  unfold State.modShutter; simp [State.blank, h_shutters]

@[simp] theorem State.modShaft_blank (h_shafts : Field.shafts ∈ F) (s : State) (k : Nat) (f : Shaft → Shaft) :
    (s.modShaft k f).blank F = s.blank F := by
  unfold State.modShaft; simp [State.blank, h_shafts]

@[simp] theorem State.modArbiter_blank (h_arbiters : Field.arbiters ∈ F) (s : State) (i : Nat) (f : Arbiter → Arbiter) :
    (s.modArbiter i f).blank F = s.blank F := by
  unfold State.modArbiter; simp [State.blank, h_arbiters]

@[simp] theorem State.modCalls_blank (h_calls : Field.calls ∈ F) (s : State) (f : Calls → Calls) :
    (s.modCalls f).blank F = s.blank F := by
  unfold State.modCalls; simp [State.blank, h_calls]

@[simp] theorem State.modPlayback_blank (h_playback : Field.playback ∈ F) (s : State) (f : Playback → Playback) :
    (s.modPlayback f).blank F = s.blank F := by
  unfold State.modPlayback; simp [State.blank, h_playback]

@[simp] theorem State.countPlayback_blank (h_playback : Field.playback ∈ F) (s : State) (f : PlaybackCounters → PlaybackCounters) :
    (s.countPlayback f).blank F = s.blank F := by
  unfold State.countPlayback; simp [h_playback]

@[simp] theorem State.modDay_blank (h_day : Field.day ∈ F) (s : State) (f : Day → Day) :
    (s.modDay f).blank F = s.blank F := by
  unfold State.modDay; simp [State.blank, h_day]

@[simp] theorem State.modClock_blank (h_clock : Field.clock ∈ F) (s : State) (f : Clock → Clock) :
    (s.modClock f).blank F = s.blank F := by
  unfold State.modClock; simp [State.blank, h_clock]

@[simp] theorem State.modSettings_blank (h_settings : Field.settings ∈ F) (s : State) (f : Settings → Settings) :
    (s.modSettings f).blank F = s.blank F := by
  unfold State.modSettings; simp [State.blank, h_settings]

@[simp] theorem State.modPort_blank (h_net : Field.net ∈ F) (s : State) (p : Nat) (f : Port → Port) :
    (s.modPort p f).blank F = s.blank F := by
  unfold State.modPort; (try dsimp only); simp [State.blank, h_net]

@[simp] theorem State.modMgmt_blank (h_net : Field.net ∈ F) (s : State) (f : Management → Management) :
    (s.modMgmt f).blank F = s.blank F := by
  unfold State.modMgmt; (try dsimp only); simp [State.blank, h_net]

@[simp] theorem State.reach_blank (h_now : Field.now ∈ F) (s : State) (t : Micros) :
    (s.reach t).blank F = s.blank F := by
  unfold State.reach; simp [State.blank, h_now]

@[simp] theorem State.notify_blank (h_net : Field.net ∈ F) (s : State) (b : NoticeBody) :
    (s.notify b).blank F = s.blank F := by
  unfold State.notify; simp [State.blank, h_net]

@[simp] theorem State.dropRepeats_blank (h_net : Field.net ∈ F) (s : State) (kinds : List NoticeKind) (object : Nat) :
    (s.dropRepeats kinds object).blank F = s.blank F := by
  unfold State.dropRepeats; simp [h_net]

@[simp] theorem State.offer_blank (h_net : Field.net ∈ F) (s : State) (port : Nat) (c : QueueClass) (f : TxFrame) :
    (s.offer port c f).blank F = s.blank F := by
  unfold State.offer; (try dsimp only); (repeat' split) <;> simp [h_net]

@[simp] theorem State.sendTo_blank (h_net : Field.net ∈ F) (s : State) (i : Nat) (c : QueueClass) (kind : Byte) (bytes : List Byte) (report : Report) :
    (s.sendTo i c kind bytes report).blank F = s.blank F := by
  unfold State.sendTo; (repeat' split) <;> simp [h_net]

@[simp] theorem State.reply_blank (h_net : Field.net ∈ F) (s : State) (t : Ticket) (st : Status) (d : Detail) (report : Report) :
    (s.reply t st d report).blank F = s.blank F := by
  unfold State.reply; simp [h_net]

@[simp] theorem State.toll_blank (h_arbiters : Field.arbiters ∈ F) (h_net : Field.net ∈ F) (s : State) (i : Nat) (t : Toll) (report : Report) :
    (s.toll i t report).blank F = s.blank F := by
  unfold State.toll; (try dsimp only); (repeat' split) <;> simp [h_arbiters, h_net]

@[simp] theorem State.serve_blank (h_arbiters : Field.arbiters ∈ F) (h_net : Field.net ∈ F) (h_tokens : Field.tokens ∈ F) (s : State) (i : Nat) (r : Ring) :
    (s.serve i r).blank F = s.blank F := by
  unfold State.serve; (try dsimp only); (repeat' split) <;> simp [h_arbiters, h_net, h_tokens]

@[simp] theorem State.choose_blank (h_arbiters : Field.arbiters ∈ F) (h_net : Field.net ∈ F) (h_tokens : Field.tokens ∈ F) (s : State) (i : Nat) :
    (s.choose i).blank F = s.blank F := by
  unfold State.choose; (repeat' split) <;> simp [h_arbiters, h_net, h_tokens]

@[simp] theorem State.endPattern_blank (h_arbiters : Field.arbiters ∈ F) (s : State) (i : Nat) :
    (s.endPattern i).blank F = s.blank F := by
  unfold State.endPattern; simp [h_arbiters]

@[simp] theorem State.ring_blank (h_arbiters : Field.arbiters ∈ F) (h_net : Field.net ∈ F) (h_tokens : Field.tokens ∈ F) (s : State) (i : Nat) (c : RingClass) (p : Pattern) (o : RingOwner) :
    (s.ring i c p o).1.blank F = s.blank F := by
  unfold State.ring; (try dsimp only); (repeat' split) <;> simp [h_arbiters, h_net, h_tokens]

@[simp] theorem State.withdraw_blank (h_arbiters : Field.arbiters ∈ F) (h_net : Field.net ∈ F) (h_tokens : Field.tokens ∈ F) (s : State) (i : Nat) (o : RingOwner) :
    (s.withdraw i o).blank F = s.blank F := by
  unfold State.withdraw; (try dsimp only); (repeat' split) <;> simp [h_arbiters, h_net, h_tokens]

@[simp] theorem State.withdrawAll_blank (h_arbiters : Field.arbiters ∈ F) (h_net : Field.net ∈ F) (h_tokens : Field.tokens ∈ F) (s : State) (o : RingOwner) :
    (s.withdrawAll o).blank F = s.blank F := by
  unfold State.withdrawAll; simp [h_arbiters, h_net, h_tokens]

@[simp] theorem State.evacuate_blank (h_arbiters : Field.arbiters ∈ F) (h_net : Field.net ∈ F) (s : State) (i : Nat) :
    (s.evacuate i).blank F = s.blank F := by
  unfold State.evacuate; simp [h_arbiters, h_net]

@[simp] theorem State.silence_blank (h_arbiters : Field.arbiters ∈ F) (h_net : Field.net ∈ F) (s : State) (i : Nat) (a : Arbiter) :
    (s.silence i a).blank F = s.blank F := by
  unfold State.silence; (try dsimp only); (repeat' split) <;> simp [h_arbiters, h_net]

@[simp] theorem State.arbitrate_blank (h_arbiters : Field.arbiters ∈ F) (h_net : Field.net ∈ F) (h_tokens : Field.tokens ∈ F) (s : State) (i : Nat) (a : Arbiter) :
    (s.arbitrate i a).blank F = s.blank F := by
  unfold State.arbitrate; (try dsimp only); (repeat' split) <;> simp [h_arbiters, h_net, h_tokens]

@[simp] theorem State.updateService_blank (h_arbiters : Field.arbiters ∈ F) (h_net : Field.net ∈ F) (h_tokens : Field.tokens ∈ F) (s : State) (i : Nat) :
    (s.updateService i).blank F = s.blank F := by
  unfold State.updateService; (try dsimp only); (repeat' split) <;> simp [h_arbiters, h_net, h_tokens]

@[simp] theorem State.updateSounders_blank (h_arbiters : Field.arbiters ∈ F) (h_net : Field.net ∈ F) (h_tokens : Field.tokens ∈ F) (s : State) (z : Nat) :
    (s.updateSounders z).blank F = s.blank F := by
  unfold State.updateSounders; simp [h_arbiters, h_net, h_tokens]

@[simp] theorem State.createArbiter_blank (h_arbiters : Field.arbiters ∈ F) (h_net : Field.net ∈ F) (s : State) (i : Nat) :
    (s.createArbiter i).blank F = s.blank F := by
  unfold State.createArbiter; (try dsimp only); (repeat' split) <;> simp [h_arbiters, h_net]

@[simp] theorem State.removeArbiter_blank (h_arbiters : Field.arbiters ∈ F) (s : State) (i : Nat) :
    (s.removeArbiter i).blank F = s.blank F := by
  unfold State.removeArbiter; simp [State.blank, h_arbiters]

@[simp] theorem State.sounderLoss_blank (h_arbiters : Field.arbiters ∈ F) (s : State) (i : Nat) :
    (s.sounderLoss i).blank F = s.blank F := by
  unfold State.sounderLoss; (try dsimp only); simp [h_arbiters]

@[simp] theorem State.sounderRegain_blank (h_arbiters : Field.arbiters ∈ F) (h_net : Field.net ∈ F) (s : State) (i : Nat) :
    (s.sounderRegain i).blank F = s.blank F := by
  unfold State.sounderRegain; (repeat' split) <;> simp [h_arbiters, h_net]

@[simp] theorem State.tollReport_blank (h_arbiters : Field.arbiters ∈ F) (h_net : Field.net ∈ F) (s : State) (i token : Nat) :
    (s.tollReport i token).blank F = s.blank F := by
  unfold State.tollReport; (try dsimp only); (repeat' split) <;> simp [h_arbiters, h_net]

@[simp] theorem State.placeRingsAt_blank (h_arbiters : Field.arbiters ∈ F) (h_net : Field.net ∈ F) (h_tokens : Field.tokens ∈ F) (s : State) (r : CallRecord) (is : List Nat) :
    (s.placeRingsAt r is).blank F = s.blank F := by
  unfold State.placeRingsAt; simp [h_arbiters, h_net, h_tokens]

@[simp] theorem State.placeRings_blank (h_arbiters : Field.arbiters ∈ F) (h_net : Field.net ∈ F) (h_tokens : Field.tokens ∈ F) (s : State) (r : CallRecord) :
    (s.placeRings r).blank F = s.blank F := by
  unfold State.placeRings; simp [h_arbiters, h_net, h_tokens]

@[simp] theorem State.ringAfresh_blank (h_arbiters : Field.arbiters ∈ F) (h_net : Field.net ∈ F) (h_tokens : Field.tokens ∈ F) (s : State) (r : CallRecord) :
    (s.ringAfresh r).blank F = s.blank F := by
  unfold State.ringAfresh; simp [h_arbiters, h_net, h_tokens]

@[simp] theorem State.modRecord_blank (h_calls : Field.calls ∈ F) (s : State) (n : Nat) (f : CallRecord → CallRecord) :
    (s.modRecord n f).blank F = s.blank F := by
  unfold State.modRecord; simp [h_calls]

@[simp] theorem State.countCalls_blank (h_calls : Field.calls ∈ F) (s : State) (f : CallCounters → CallCounters) :
    (s.countCalls f).blank F = s.blank F := by
  unfold State.countCalls; simp [h_calls]

@[simp] theorem State.notifyOffice_blank (h_net : Field.net ∈ F) (s : State) (r : CallRecord) (why : OfficeReason) :
    (s.notifyOffice r why).blank F = s.blank F := by
  unfold State.notifyOffice; simp [h_net]

@[simp] theorem State.removeRecord_blank (h_calls : Field.calls ∈ F) (h_arbiters : Field.arbiters ∈ F) (h_net : Field.net ∈ F) (h_tokens : Field.tokens ∈ F) (s : State) (n : Nat) :
    (s.removeRecord n).blank F = s.blank F := by
  unfold State.removeRecord; (try dsimp only); simp [h_calls, h_arbiters, h_net, h_tokens]

@[simp] theorem State.sendDisplay_blank (h_calls : Field.calls ∈ F) (h_net : Field.net ∈ F) (s : State) (i : Nat) :
    (s.sendDisplay i).blank F = s.blank F := by
  unfold State.sendDisplay; (try dsimp only); simp [h_calls, h_net]

@[simp] theorem State.recomputeDisplays_blank (h_calls : Field.calls ∈ F) (h_net : Field.net ∈ F) (s : State) :
    (s.recomputeDisplays).blank F = s.blank F := by
  unfold State.recomputeDisplays; simp [h_calls, h_net]

@[simp] theorem State.appendRecord_blank (h_calls : Field.calls ∈ F) (h_arbiters : Field.arbiters ∈ F) (h_net : Field.net ∈ F) (h_tokens : Field.tokens ∈ F) (s : State) (p : Nat) (k : CallClass) :
    (s.appendRecord p k).blank F = s.blank F := by
  unfold State.appendRecord; (try dsimp only); (repeat' split) <;> simp [h_calls, h_arbiters, h_net, h_tokens]

@[simp] theorem State.mergePress_blank (h_calls : Field.calls ∈ F) (h_arbiters : Field.arbiters ∈ F) (h_net : Field.net ∈ F) (h_tokens : Field.tokens ∈ F) (s : State) (r : CallRecord) :
    (s.mergePress r).blank F = s.blank F := by
  unfold State.mergePress; (try dsimp only); (repeat' split) <;> simp [h_calls, h_arbiters, h_net, h_tokens]

@[simp] theorem State.refusePress_blank (h_calls : Field.calls ∈ F) (s : State) :
    (s.refusePress).blank F = s.blank F := by
  unfold State.refusePress; simp [h_calls]

@[simp] theorem State.pressFull_blank (h_calls : Field.calls ∈ F) (h_arbiters : Field.arbiters ∈ F) (h_net : Field.net ∈ F) (h_tokens : Field.tokens ∈ F) (s : State) (p : Nat) (k : CallClass) :
    (s.pressFull p k).blank F = s.blank F := by
  unfold State.pressFull; (try dsimp only); (repeat' split) <;> simp [h_calls, h_arbiters, h_net, h_tokens]

@[simp] theorem State.press_blank (h_calls : Field.calls ∈ F) (h_arbiters : Field.arbiters ∈ F) (h_net : Field.net ∈ F) (h_tokens : Field.tokens ∈ F) (s : State) (p : Nat) (k : CallClass) :
    (s.press p k).blank F = s.blank F := by
  unfold State.press; (repeat' split) <;> simp [h_calls, h_arbiters, h_net, h_tokens]

@[simp] theorem State.cancel_blank (h_calls : Field.calls ∈ F) (h_arbiters : Field.arbiters ∈ F) (h_net : Field.net ∈ F) (h_tokens : Field.tokens ∈ F) (s : State) (p : Nat) (k : CallClass) :
    (s.cancel p k).blank F = s.blank F := by
  unfold State.cancel; (repeat' split) <;> simp [h_calls, h_arbiters, h_net, h_tokens]

@[simp] theorem State.acknowledge_blank (h_calls : Field.calls ∈ F) (h_arbiters : Field.arbiters ∈ F) (h_net : Field.net ∈ F) (h_tokens : Field.tokens ∈ F) (s : State) (a : Addr) (k : CallClass) :
    (s.acknowledge a k).blank F = s.blank F := by
  unfold State.acknowledge; (try dsimp only); (repeat' split) <;> simp [h_calls, h_arbiters, h_net, h_tokens]

@[simp] theorem State.holdRecord_blank (h_calls : Field.calls ∈ F) (h_arbiters : Field.arbiters ∈ F) (h_net : Field.net ∈ F) (h_tokens : Field.tokens ∈ F) (s : State) (r : CallRecord) :
    (s.holdRecord r).blank F = s.blank F := by
  unfold State.holdRecord; (repeat' split) <;> simp [h_calls, h_arbiters, h_net, h_tokens]

@[simp] theorem State.resumeRecord_blank (h_calls : Field.calls ∈ F) (h_arbiters : Field.arbiters ∈ F) (h_net : Field.net ∈ F) (h_tokens : Field.tokens ∈ F) (s : State) (r : CallRecord) :
    (s.resumeRecord r).blank F = s.blank F := by
  unfold State.resumeRecord; (try dsimp only); (repeat' split) <;> simp [h_calls, h_arbiters, h_net, h_tokens]

@[simp] theorem State.holdZone_blank (h_calls : Field.calls ∈ F) (h_arbiters : Field.arbiters ∈ F) (h_net : Field.net ∈ F) (h_tokens : Field.tokens ∈ F) (s : State) (z : Nat) :
    (s.holdZone z).blank F = s.blank F := by
  unfold State.holdZone; simp [h_calls, h_arbiters, h_net, h_tokens]

@[simp] theorem State.resumeZone_blank (h_calls : Field.calls ∈ F) (h_arbiters : Field.arbiters ∈ F) (h_net : Field.net ∈ F) (h_tokens : Field.tokens ∈ F) (s : State) (z : Nat) :
    (s.resumeZone z).blank F = s.blank F := by
  unfold State.resumeZone; simp [h_calls, h_arbiters, h_net, h_tokens]

@[simp] theorem State.rejudgePoint_blank (h_calls : Field.calls ∈ F) (h_arbiters : Field.arbiters ∈ F) (h_net : Field.net ∈ F) (h_tokens : Field.tokens ∈ F) (s : State) (p : Nat) :
    (s.rejudgePoint p).blank F = s.blank F := by
  unfold State.rejudgePoint; (try dsimp only); (repeat' split) <;> simp [h_calls, h_arbiters, h_net, h_tokens]

@[simp] theorem State.moveRecord_blank (h_calls : Field.calls ∈ F) (h_arbiters : Field.arbiters ∈ F) (h_net : Field.net ∈ F) (h_tokens : Field.tokens ∈ F) (s : State) (r : CallRecord) :
    (s.moveRecord r).blank F = s.blank F := by
  unfold State.moveRecord; (try dsimp only); (repeat' split) <;> simp [h_calls, h_arbiters, h_net, h_tokens]

@[simp] theorem State.annunciatorLoss_blank (h_calls : Field.calls ∈ F) (h_arbiters : Field.arbiters ∈ F) (h_net : Field.net ∈ F) (h_tokens : Field.tokens ∈ F) (s : State) (i : Nat) :
    (s.annunciatorLoss i).blank F = s.blank F := by
  unfold State.annunciatorLoss; (try dsimp only); simp [h_calls, h_arbiters, h_net, h_tokens]

@[simp] theorem State.annunciatorRegain_blank (h_calls : Field.calls ∈ F) (h_net : Field.net ∈ F) (s : State) (i : Nat) :
    (s.annunciatorRegain i).blank F = s.blank F := by
  unfold State.annunciatorRegain; simp [h_calls, h_net]

@[simp] theorem State.officeSoundersChanged_blank (h_arbiters : Field.arbiters ∈ F) (h_net : Field.net ∈ F) (h_tokens : Field.tokens ∈ F) (s : State) :
    (s.officeSoundersChanged).blank F = s.blank F := by
  unfold State.officeSoundersChanged; simp [h_arbiters, h_net, h_tokens]

@[simp] theorem State.closeCalls_blank (h_calls : Field.calls ∈ F) (h_arbiters : Field.arbiters ∈ F) (h_net : Field.net ∈ F) (h_tokens : Field.tokens ∈ F) (s : State) :
    (s.closeCalls).blank F = s.blank F := by
  unfold State.closeCalls; (try dsimp only); simp [h_calls, h_arbiters, h_net, h_tokens]

@[simp] theorem State.clearRecords_blank (h_calls : Field.calls ∈ F) (h_arbiters : Field.arbiters ∈ F) (h_net : Field.net ∈ F) (h_tokens : Field.tokens ∈ F) (s : State) (p : CallRecord → Bool) :
    (s.clearRecords p).blank F = s.blank F := by
  unfold State.clearRecords; simp [h_calls, h_arbiters, h_net, h_tokens]

@[simp] theorem State.modLanding_blank (h_shafts : Field.shafts ∈ F) (s : State) (k l : Nat) (f : LandingLive → LandingLive) :
    (s.modLanding k l f).blank F = s.blank F := by
  unfold State.modLanding; simp [h_shafts]

@[simp] theorem State.sendLamp_blank (h_shafts : Field.shafts ∈ F) (h_net : Field.net ∈ F) (s : State) (k l : Nat) :
    (s.sendLamp k l).blank F = s.blank F := by
  unfold State.sendLamp; (repeat' split) <;> simp [h_shafts, h_net]

@[simp] theorem State.recomputeLamp_blank (h_shafts : Field.shafts ∈ F) (h_net : Field.net ∈ F) (s : State) (k l : Nat) :
    (s.recomputeLamp k l).blank F = s.blank F := by
  unfold State.recomputeLamp; (try dsimp only); (repeat' split) <;> simp [h_shafts, h_net]

@[simp] theorem State.recomputeLamps_blank (h_shafts : Field.shafts ∈ F) (h_net : Field.net ∈ F) (s : State) (k : Nat) :
    (s.recomputeLamps k).blank F = s.blank F := by
  unfold State.recomputeLamps; (repeat' split) <;> simp [h_shafts, h_net]

@[simp] theorem State.recomputeAllLamps_blank (h_shafts : Field.shafts ∈ F) (h_net : Field.net ∈ F) (s : State) :
    (s.recomputeAllLamps).blank F = s.blank F := by
  unfold State.recomputeAllLamps; simp [h_shafts, h_net]

@[simp] theorem State.recomputeLampAt_blank (h_shafts : Field.shafts ∈ F) (h_net : Field.net ∈ F) (s : State) (x0 : Option LandingRef) :
    (s.recomputeLampAt x0).blank F = s.blank F := by
  unfold State.recomputeLampAt; (repeat' split) <;> simp [h_shafts, h_net]

@[simp] theorem State.enterMode_blank (h_shafts : Field.shafts ∈ F) (h_calls : Field.calls ∈ F) (h_arbiters : Field.arbiters ∈ F) (h_day : Field.day ∈ F) (h_net : Field.net ∈ F) (h_tokens : Field.tokens ∈ F) (s : State) (m : StoreMode) (src : ModeSource) :
    (s.enterMode m src).blank F = s.blank F := by
  unfold State.enterMode; (try dsimp only); (repeat' split) <;> simp [h_shafts, h_calls, h_arbiters, h_day, h_net, h_tokens]

@[simp] theorem State.closingCheck_blank (h_shafts : Field.shafts ∈ F) (h_calls : Field.calls ∈ F) (h_arbiters : Field.arbiters ∈ F) (h_day : Field.day ∈ F) (h_net : Field.net ∈ F) (h_tokens : Field.tokens ∈ F) (s : State) :
    (s.closingCheck).blank F = s.blank F := by
  unfold State.closingCheck; (repeat' split) <;> simp [h_shafts, h_calls, h_arbiters, h_day, h_net, h_tokens]

@[simp] theorem State.setShutter_blank (h_shafts : Field.shafts ∈ F) (h_shutters : Field.shutters ∈ F) (h_net : Field.net ∈ F) (s : State) (i : Nat) (st : ShutterState) :
    (s.setShutter i st).blank F = s.blank F := by
  unfold State.setShutter; (try dsimp only); (repeat' split) <;> simp [h_shafts, h_shutters, h_net]

@[simp] theorem State.setFault_blank (h_shafts : Field.shafts ∈ F) (h_shutters : Field.shutters ∈ F) (h_net : Field.net ∈ F) (s : State) (i : Nat) (f : ShutterFault) (on : Bool) :
    (s.setFault i f on).blank F = s.blank F := by
  unfold State.setFault; (try dsimp only); (repeat' split) <;> simp [h_shafts, h_shutters, h_net]

@[simp] theorem State.openShutter_blank (h_shafts : Field.shafts ∈ F) (h_shutters : Field.shutters ∈ F) (h_net : Field.net ∈ F) (s : State) (i : Nat) :
    (s.openShutter i).blank F = s.blank F := by
  unfold State.openShutter; (try dsimp only); simp [h_shafts, h_shutters, h_net]

@[simp] theorem State.sendShut_blank (h_net : Field.net ∈ F) (s : State) (i : Nat) (bytes : List Byte) :
    (s.sendShut i bytes).blank F = s.blank F := by
  unfold State.sendShut; (repeat' split) <;> simp [h_net]

@[simp] theorem State.startCommand_blank (h_shutters : Field.shutters ∈ F) (h_net : Field.net ∈ F) (s : State) (i : Nat) (cmd : ShutCommand) :
    (s.startCommand i cmd).blank F = s.blank F := by
  unfold State.startCommand; (repeat' split) <;> simp [h_shutters, h_net]

@[simp] theorem State.sendAfresh_blank (h_shutters : Field.shutters ∈ F) (h_net : Field.net ∈ F) (s : State) (i : Nat) (cmd : ShutCommand) :
    (s.sendAfresh i cmd).blank F = s.blank F := by
  unfold State.sendAfresh; (repeat' split) <;> simp [h_shutters, h_net]

@[simp] theorem State.applyOutcome_blank (h_shafts : Field.shafts ∈ F) (h_shutters : Field.shutters ∈ F) (h_net : Field.net ∈ F) (s : State) (i : Nat) (o : Outcome) :
    (s.applyOutcome i o).blank F = s.blank F := by
  unfold State.applyOutcome; (try dsimp only); (repeat' split) <;> simp [h_shafts, h_shutters, h_net]

@[simp] theorem State.deliverZone_blank (h_shafts : Field.shafts ∈ F) (h_shutters : Field.shutters ∈ F) (h_net : Field.net ∈ F) (s : State) (k z : Nat) (o : Outcome) :
    (s.deliverZone k z o).blank F = s.blank F := by
  unfold State.deliverZone; simp [h_shafts, h_shutters, h_net]

@[simp] theorem State.awaitRelease_blank (h_shafts : Field.shafts ∈ F) (h_shutters : Field.shutters ∈ F) (h_net : Field.net ∈ F) (s : State) (i : Nat) (r : LandingRef) :
    (s.awaitRelease i r).blank F = s.blank F := by
  unfold State.awaitRelease; (try dsimp only); (repeat' split) <;> simp [h_shafts, h_shutters, h_net]

@[simp] theorem State.requestRelease_blank (h_shafts : Field.shafts ∈ F) (h_shutters : Field.shutters ∈ F) (h_net : Field.net ∈ F) (s : State) (i : Nat) :
    (s.requestRelease i).blank F = s.blank F := by
  unfold State.requestRelease; (try dsimp only); (repeat' split) <;> simp [h_shafts, h_shutters, h_net]

@[simp] theorem State.requestReleases_blank (h_shafts : Field.shafts ∈ F) (h_shutters : Field.shutters ∈ F) (h_net : Field.net ∈ F) (s : State) (z : Nat) :
    (s.requestReleases z).blank F = s.blank F := by
  unfold State.requestReleases; simp [h_shafts, h_shutters, h_net]

@[simp] theorem State.isolateShutter_blank (h_shafts : Field.shafts ∈ F) (h_shutters : Field.shutters ∈ F) (h_net : Field.net ∈ F) (s : State) (i : Nat) :
    (s.isolateShutter i).blank F = s.blank F := by
  unfold State.isolateShutter; simp [h_shafts, h_shutters, h_net]

@[simp] theorem State.deliver_blank (h_shafts : Field.shafts ∈ F) (h_shutters : Field.shutters ∈ F) (h_net : Field.net ∈ F) (s : State) (k : Nat) :
    (s.deliver k).blank F = s.blank F := by
  unfold State.deliver; (repeat' split) <;> simp [h_shafts, h_shutters, h_net]

@[simp] theorem State.evaluateAndDeliver_blank (h_shafts : Field.shafts ∈ F) (h_shutters : Field.shutters ∈ F) (h_net : Field.net ∈ F) (s : State) (k : Nat) :
    (s.evaluateAndDeliver k).blank F = s.blank F := by
  unfold State.evaluateAndDeliver; (try dsimp only); simp [h_shafts, h_shutters, h_net]

@[simp] theorem State.deliverIfChanged_blank (h_shafts : Field.shafts ∈ F) (h_shutters : Field.shutters ∈ F) (h_net : Field.net ∈ F) (s : State) (k : Nat) :
    (s.deliverIfChanged k).blank F = s.blank F := by
  unfold State.deliverIfChanged; (repeat' split) <;> simp [h_shafts, h_shutters, h_net]

@[simp] theorem State.notifyHeld_blank (h_net : Field.net ∈ F) (s : State) (k : Nat) :
    (s.notifyHeld k).blank F = s.blank F := by
  unfold State.notifyHeld; simp [h_net]

@[simp] theorem State.heldReevaluate_blank (h_shafts : Field.shafts ∈ F) (h_shutters : Field.shutters ∈ F) (h_net : Field.net ∈ F) (s : State) (k : Nat) :
    (s.heldReevaluate k).blank F = s.blank F := by
  unfold State.heldReevaluate; (repeat' split) <;> simp [h_shafts, h_shutters, h_net]

@[simp] theorem State.heldSetChange_blank (h_shafts : Field.shafts ∈ F) (h_shutters : Field.shutters ∈ F) (h_net : Field.net ∈ F) (s : State) (k : Nat) :
    (s.heldSetChange k).blank F = s.blank F := by
  unfold State.heldSetChange; (try dsimp only); (repeat' split) <;> simp [h_shafts, h_shutters, h_net]

@[simp] theorem State.setDegraded_blank (h_shafts : Field.shafts ∈ F) (h_net : Field.net ∈ F) (s : State) (k : Nat) (on : Bool) :
    (s.setDegraded k on).blank F = s.blank F := by
  unfold State.setDegraded; (repeat' split) <;> simp [h_shafts, h_net]

@[simp] theorem State.enterShaft_blank (h_shafts : Field.shafts ∈ F) (h_net : Field.net ∈ F) (s : State) (k : Nat) (st : ShaftState) (permit creep brake : Bool) :
    (s.enterShaft k st permit creep brake).blank F = s.blank F := by
  unfold State.enterShaft; (try dsimp only); (repeat' split) <;> simp [h_shafts, h_net]

@[simp] theorem State.enterStopping_blank (h_shafts : Field.shafts ∈ F) (h_net : Field.net ∈ F) (s : State) (k : Nat) :
    (s.enterStopping k).blank F = s.blank F := by
  unfold State.enterStopping; (try dsimp only); simp [h_shafts, h_net]

@[simp] theorem State.finalStop_blank (h_shafts : Field.shafts ∈ F) (h_net : Field.net ∈ F) (s : State) (k : Nat) :
    (s.finalStop k).blank F = s.blank F := by
  unfold State.finalStop; (try dsimp only); (repeat' split) <;> simp [h_shafts, h_net]

@[simp] theorem State.overdueStop_blank (h_shafts : Field.shafts ∈ F) (h_net : Field.net ∈ F) (s : State) (k : Nat) :
    (s.overdueStop k).blank F = s.blank F := by
  unfold State.overdueStop; (repeat' split) <;> simp [h_shafts, h_net]

@[simp] theorem State.enterClearing_blank (h_shafts : Field.shafts ∈ F) (h_net : Field.net ∈ F) (s : State) (k d : Nat) :
    (s.enterClearing k d).blank F = s.blank F := by
  unfold State.enterClearing; (try dsimp only); (repeat' split) <;> simp [h_shafts, h_net]

@[simp] theorem State.tripShaft_blank (h_shafts : Field.shafts ∈ F) (h_calls : Field.calls ∈ F) (h_arbiters : Field.arbiters ∈ F) (h_day : Field.day ∈ F) (h_net : Field.net ∈ F) (h_tokens : Field.tokens ∈ F) (s : State) (k : Nat) (c : TripCause) :
    (s.tripShaft k c).blank F = s.blank F := by
  unfold State.tripShaft; (try dsimp only); (repeat' split) <;> simp [h_shafts, h_calls, h_arbiters, h_day, h_net, h_tokens]

@[simp] theorem State.tripLanding_blank (h_shafts : Field.shafts ∈ F) (h_calls : Field.calls ∈ F) (h_arbiters : Field.arbiters ∈ F) (h_day : Field.day ∈ F) (h_net : Field.net ∈ F) (h_tokens : Field.tokens ∈ F) (s : State) (c : TripCause) (x0 : Option LandingRef) :
    (s.tripLanding c x0).blank F = s.blank F := by
  unfold State.tripLanding; (repeat' split) <;> simp [h_shafts, h_calls, h_arbiters, h_day, h_net, h_tokens]

@[simp] theorem State.enterHeld_blank (h_shafts : Field.shafts ∈ F) (h_shutters : Field.shutters ∈ F) (h_calls : Field.calls ∈ F) (h_arbiters : Field.arbiters ∈ F) (h_day : Field.day ∈ F) (h_net : Field.net ∈ F) (h_tokens : Field.tokens ∈ F) (s : State) (k : Nat) (o : Outcome) :
    (s.enterHeld k o).blank F = s.blank F := by
  unfold State.enterHeld; (try dsimp only); simp [h_shafts, h_shutters, h_calls, h_arbiters, h_day, h_net, h_tokens]

@[simp] theorem State.makePlan_blank (h_shafts : Field.shafts ∈ F) (s : State) (k v : Nat) :
    (s.makePlan k v).blank F = s.blank F := by
  unfold State.makePlan; (try dsimp only); simp [h_shafts]

@[simp] theorem State.unclearable_blank (h_shafts : Field.shafts ∈ F) (h_shutters : Field.shutters ∈ F) (h_net : Field.net ∈ F) (s : State) (k : Nat) :
    (s.unclearable k).blank F = s.blank F := by
  unfold State.unclearable; (try dsimp only); simp [h_shafts, h_shutters, h_net]

@[simp] theorem State.planMoving_blank (h_shafts : Field.shafts ∈ F) (h_shutters : Field.shutters ∈ F) (h_net : Field.net ∈ F) (s : State) (k : Nat) :
    (s.planMoving k).blank F = s.blank F := by
  unfold State.planMoving; (try dsimp only); (repeat' split) <;> simp [h_shafts, h_shutters, h_net]

@[simp] theorem State.recordReason_blank (h_shafts : Field.shafts ∈ F) (s : State) (k : Nat) :
    (s.recordReason k).blank F = s.blank F := by
  unfold State.recordReason; simp [h_shafts]

@[simp] theorem State.startClearStop_blank (h_shafts : Field.shafts ∈ F) (h_shutters : Field.shutters ∈ F) (h_net : Field.net ∈ F) (s : State) (k : Nat) :
    (s.startClearStop k).blank F = s.blank F := by
  unfold State.startClearStop; (try dsimp only); simp [h_shafts, h_shutters, h_net]

@[simp] theorem State.replan_blank (h_shafts : Field.shafts ∈ F) (h_shutters : Field.shutters ∈ F) (h_net : Field.net ∈ F) (s : State) (k : Nat) :
    (s.replan k).blank F = s.blank F := by
  unfold State.replan; (try dsimp only); (repeat' split) <;> simp [h_shafts, h_shutters, h_net]

@[simp] theorem State.homingStop_blank (h_shafts : Field.shafts ∈ F) (h_shutters : Field.shutters ∈ F) (h_net : Field.net ∈ F) (s : State) (k : Nat) :
    (s.homingStop k).blank F = s.blank F := by
  unfold State.homingStop; (try dsimp only); simp [h_shafts, h_shutters, h_net]

@[simp] theorem State.attemptReapproach_blank (h_shafts : Field.shafts ∈ F) (h_shutters : Field.shutters ∈ F) (h_calls : Field.calls ∈ F) (h_arbiters : Field.arbiters ∈ F) (h_day : Field.day ∈ F) (h_net : Field.net ∈ F) (h_tokens : Field.tokens ∈ F) (s : State) (k : Nat) :
    (s.attemptReapproach k).blank F = s.blank F := by
  unfold State.attemptReapproach; (try dsimp only); (repeat' split) <;> simp [h_shafts, h_shutters, h_calls, h_arbiters, h_day, h_net, h_tokens]

@[simp] theorem State.standstillCheck_blank (h_shafts : Field.shafts ∈ F) (h_shutters : Field.shutters ∈ F) (h_calls : Field.calls ∈ F) (h_arbiters : Field.arbiters ∈ F) (h_day : Field.day ∈ F) (h_net : Field.net ∈ F) (h_tokens : Field.tokens ∈ F) (s : State) (k : Nat) :
    (s.standstillCheck k).blank F = s.blank F := by
  unfold State.standstillCheck; (repeat' split) <;> simp [h_shafts, h_shutters, h_calls, h_arbiters, h_day, h_net, h_tokens]

@[simp] theorem State.standstillEvent_blank (h_shafts : Field.shafts ∈ F) (h_shutters : Field.shutters ∈ F) (h_calls : Field.calls ∈ F) (h_arbiters : Field.arbiters ∈ F) (h_day : Field.day ∈ F) (h_net : Field.net ∈ F) (h_tokens : Field.tokens ∈ F) (s : State) (k : Nat) :
    (s.standstillEvent k).blank F = s.blank F := by
  unfold State.standstillEvent; (try dsimp only); (repeat' split) <;> simp [h_shafts, h_shutters, h_calls, h_arbiters, h_day, h_net, h_tokens]

@[simp] theorem State.actOnSet_blank (h_shafts : Field.shafts ∈ F) (h_shutters : Field.shutters ∈ F) (h_net : Field.net ∈ F) (s : State) (k : Nat) :
    (s.actOnSet k).blank F = s.blank F := by
  unfold State.actOnSet; (try dsimp only); (repeat' split) <;> simp [h_shafts, h_shutters, h_net]

@[simp] theorem State.clearSetEvent_blank (h_shafts : Field.shafts ∈ F) (h_shutters : Field.shutters ∈ F) (h_net : Field.net ∈ F) (s : State) (k : Nat) (old : Shaft) :
    (s.clearSetEvent k old).blank F = s.blank F := by
  unfold State.clearSetEvent; (try dsimp only); (repeat' split) <;> simp [h_shafts, h_shutters, h_net]

@[simp] theorem State.recomputeSet_blank (h_shafts : Field.shafts ∈ F) (h_shutters : Field.shutters ∈ F) (h_net : Field.net ∈ F) (s : State) (k : Nat) :
    (s.recomputeSet k).blank F = s.blank F := by
  unfold State.recomputeSet; simp [h_shafts, h_shutters, h_net]

@[simp] theorem State.setZoneFlag_blank (h_shafts : Field.shafts ∈ F) (h_shutters : Field.shutters ∈ F) (h_net : Field.net ∈ F) (s : State) (k z : Nat) (on : Bool) :
    (s.setZoneFlag k z on).blank F = s.blank F := by
  unfold State.setZoneFlag; (try dsimp only); (repeat' split) <;> simp [h_shafts, h_shutters, h_net]

@[simp] theorem State.originChanged_blank (h_shafts : Field.shafts ∈ F) (h_net : Field.net ∈ F) (s : State) (k : Nat) :
    (s.originChanged k).blank F = s.blank F := by
  unfold State.originChanged; (try dsimp only); (repeat' split) <;> simp [h_shafts, h_net]

@[simp] theorem State.requestPark_blank (h_shafts : Field.shafts ∈ F) (h_shutters : Field.shutters ∈ F) (h_net : Field.net ∈ F) (s : State) (k : Nat) (o : ParkOrigin) :
    (s.requestPark k o).blank F = s.blank F := by
  unfold State.requestPark; (try dsimp only); (repeat' split) <;> simp [h_shafts, h_shutters, h_net]

@[simp] theorem State.withdrawPark_blank (h_shafts : Field.shafts ∈ F) (h_shutters : Field.shutters ∈ F) (h_net : Field.net ∈ F) (s : State) (k : Nat) :
    (s.withdrawPark k).blank F = s.blank F := by
  unfold State.withdrawPark; (try dsimp only); (repeat' split) <;> simp [h_shafts, h_shutters, h_net]

@[simp] theorem State.evaluateDegraded_blank (h_shafts : Field.shafts ∈ F) (h_net : Field.net ∈ F) (s : State) (k : Nat) :
    (s.evaluateDegraded k).blank F = s.blank F := by
  unfold State.evaluateDegraded; (try dsimp only); (repeat' split) <;> simp [h_shafts, h_net]

@[simp] theorem State.enterService_blank (h_shafts : Field.shafts ∈ F) (h_net : Field.net ∈ F) (s : State) (k : Nat) (st : ShaftState) :
    (s.enterService k st).blank F = s.blank F := by
  unfold State.enterService; (try dsimp only); simp [h_shafts, h_net]

@[simp] theorem State.enterLastRun_blank (h_shafts : Field.shafts ∈ F) (h_net : Field.net ∈ F) (s : State) (k : Nat) :
    (s.enterLastRun k).blank F = s.blank F := by
  unfold State.enterLastRun; (try dsimp only); simp [h_shafts, h_net]

@[simp] theorem State.enterRunning_blank (h_shafts : Field.shafts ∈ F) (h_net : Field.net ∈ F) (s : State) (k : Nat) :
    (s.enterRunning k).blank F = s.blank F := by
  unfold State.enterRunning; (repeat' split) <;> simp [h_shafts, h_net]

@[simp] theorem State.parkHoming_blank (h_shafts : Field.shafts ∈ F) (h_shutters : Field.shutters ∈ F) (h_net : Field.net ∈ F) (s : State) (k : Nat) :
    (s.parkHoming k).blank F = s.blank F := by
  unfold State.parkHoming; (try dsimp only); (repeat' split) <;> simp [h_shafts, h_shutters, h_net]

@[simp] theorem State.enterHoming_blank (h_shafts : Field.shafts ∈ F) (h_shutters : Field.shutters ∈ F) (h_net : Field.net ∈ F) (s : State) (k : Nat) :
    (s.enterHoming k).blank F = s.blank F := by
  unfold State.enterHoming; (try dsimp only); (repeat' split) <;> simp [h_shafts, h_shutters, h_net]

@[simp] theorem State.enterIdle_blank (h_shafts : Field.shafts ∈ F) (h_net : Field.net ∈ F) (s : State) (k : Nat) :
    (s.enterIdle k).blank F = s.blank F := by
  unfold State.enterIdle; simp [h_shafts, h_net]

@[simp] theorem State.completeLastRun_blank (h_shafts : Field.shafts ∈ F) (h_shutters : Field.shutters ∈ F) (h_net : Field.net ∈ F) (s : State) (k : Nat) :
    (s.completeLastRun k).blank F = s.blank F := by
  unfold State.completeLastRun; (try dsimp only); simp [h_shafts, h_shutters, h_net]

@[simp] theorem State.lastRunOrder_blank (h_shafts : Field.shafts ∈ F) (h_net : Field.net ∈ F) (s : State) (k : Nat) :
    (s.lastRunOrder k).blank F = s.blank F := by
  unfold State.lastRunOrder; (repeat' split) <;> simp [h_shafts, h_net]

@[simp] theorem State.cancelOrder_blank (h_shafts : Field.shafts ∈ F) (h_shutters : Field.shutters ∈ F) (h_net : Field.net ∈ F) (s : State) (k : Nat) :
    (s.cancelOrder k).blank F = s.blank F := by
  unfold State.cancelOrder; (try dsimp only); (repeat' split) <;> simp [h_shafts, h_shutters, h_net]

@[simp] theorem State.orderStart_blank (h_shafts : Field.shafts ∈ F) (h_shutters : Field.shutters ∈ F) (h_net : Field.net ∈ F) (s : State) (k : Nat) :
    (s.orderStart k).1.blank F = s.blank F := by
  unfold State.orderStart; (try dsimp only); (repeat' split) <;> simp [h_shafts, h_shutters, h_net]

@[simp] theorem State.orderStop_blank (h_shafts : Field.shafts ∈ F) (h_shutters : Field.shutters ∈ F) (h_net : Field.net ∈ F) (s : State) (k : Nat) :
    (s.orderStop k).1.blank F = s.blank F := by
  unfold State.orderStop; (repeat' split) <;> simp [h_shafts, h_shutters, h_net]

@[simp] theorem State.orderReset_blank (h_shafts : Field.shafts ∈ F) (h_shutters : Field.shutters ∈ F) (h_calls : Field.calls ∈ F) (h_arbiters : Field.arbiters ∈ F) (h_day : Field.day ∈ F) (h_net : Field.net ∈ F) (h_tokens : Field.tokens ∈ F) (s : State) (k : Nat) :
    (s.orderReset k).1.blank F = s.blank F := by
  unfold State.orderReset; (try dsimp only); (repeat' split) <;> simp [h_shafts, h_shutters, h_calls, h_arbiters, h_day, h_net, h_tokens]

@[simp] theorem State.afterForward_blank (h_shafts : Field.shafts ∈ F) (h_shutters : Field.shutters ∈ F) (h_net : Field.net ∈ F) (s : State) (k : Nat) :
    (s.afterForward k).blank F = s.blank F := by
  unfold State.afterForward; (try dsimp only); (repeat' split) <;> simp [h_shafts, h_shutters, h_net]

@[simp] theorem State.afterBackward_blank (h_shafts : Field.shafts ∈ F) (h_shutters : Field.shutters ∈ F) (h_calls : Field.calls ∈ F) (h_arbiters : Field.arbiters ∈ F) (h_day : Field.day ∈ F) (h_net : Field.net ∈ F) (h_tokens : Field.tokens ∈ F) (s : State) (k : Nat) :
    (s.afterBackward k).blank F = s.blank F := by
  unfold State.afterBackward; (try dsimp only); (repeat' split) <;> simp [h_shafts, h_shutters, h_calls, h_arbiters, h_day, h_net, h_tokens]

@[simp] theorem State.homeMark_blank (h_shafts : Field.shafts ∈ F) (h_shutters : Field.shutters ∈ F) (h_calls : Field.calls ∈ F) (h_arbiters : Field.arbiters ∈ F) (h_day : Field.day ∈ F) (h_net : Field.net ∈ F) (h_tokens : Field.tokens ∈ F) (s : State) (k : Nat) :
    (s.homeMark k).blank F = s.blank F := by
  unfold State.homeMark; (try dsimp only); (repeat' split) <;> simp [h_shafts, h_shutters, h_calls, h_arbiters, h_day, h_net, h_tokens]

@[simp] theorem State.endWindow_blank (h_shafts : Field.shafts ∈ F) (h_shutters : Field.shutters ∈ F) (h_calls : Field.calls ∈ F) (h_arbiters : Field.arbiters ∈ F) (h_day : Field.day ∈ F) (h_net : Field.net ∈ F) (h_tokens : Field.tokens ∈ F) (s : State) (k : Nat) :
    (s.endWindow k).blank F = s.blank F := by
  unfold State.endWindow; (try dsimp only); (repeat' split) <;> simp [h_shafts, h_shutters, h_calls, h_arbiters, h_day, h_net, h_tokens]

@[simp] theorem State.unmatchedLanding_blank (h_shafts : Field.shafts ∈ F) (s : State) (k : Nat) :
    (s.unmatchedLanding k).blank F = s.blank F := by
  unfold State.unmatchedLanding; simp [h_shafts]

@[simp] theorem State.landingReport_blank (h_shafts : Field.shafts ∈ F) (h_calls : Field.calls ∈ F) (h_arbiters : Field.arbiters ∈ F) (h_day : Field.day ∈ F) (h_net : Field.net ∈ F) (h_tokens : Field.tokens ∈ F) (s : State) (sender : Option Nat) (sill stop : Bool) :
    (s.landingReport sender sill stop).blank F = s.blank F := by
  unfold State.landingReport; (try dsimp only); (repeat' split) <;> simp [h_shafts, h_calls, h_arbiters, h_day, h_net, h_tokens]

@[simp] theorem State.landingStationChanged_blank (h_shafts : Field.shafts ∈ F) (h_net : Field.net ∈ F) (s : State) (i : Nat) (regain : Bool) :
    (s.landingStationChanged i regain).blank F = s.blank F := by
  unfold State.landingStationChanged; (try dsimp only); (repeat' split) <;> simp [h_shafts, h_net]

end Sys2Proof.Machine
end

