-- ==== Sys2Proof/Laws/FramesJobs.lean ====
section
/-! SUPPORT. What each shared operation of chapters 1, 4, 5, 8 and 9 can change: one lemma for each, naming the fields. -/

namespace Sys2Proof.Machine

variable {F : List Field}

@[simp] theorem State.readDirectory_blank (h_playback : Field.playback ∈ F) (s : State) :
    (s.readDirectory).blank F = s.blank F := by
  unfold State.readDirectory; simp [h_playback]

@[simp] theorem State.tune_blank (h_playback : Field.playback ∈ F) (h_net : Field.net ∈ F) (s : State) (i : Nat) :
    (s.tune i).blank F = s.blank F := by
  unfold State.tune; (try dsimp only); (repeat' split) <;> simp [h_playback, h_net]

@[simp] theorem State.emit_blank (h_net : Field.net ∈ F) (s : State) (c : Chan) (group : Addr) (block : Nat) (samples : List Sample) :
    (s.emit c group block samples).blank F = s.blank F := by
  unfold State.emit; simp [h_net]

@[simp] theorem State.countBusy_blank (h_net : Field.net ∈ F) (s : State) :
    (s.countBusy).blank F = s.blank F := by
  unfold State.countBusy; (repeat' split) <;> simp [h_net]

@[simp] theorem State.emitEvac_blank (h_playback : Field.playback ∈ F) (h_net : Field.net ∈ F) (s : State) (p : EvacPlay) :
    (s.emitEvac p).blank F = s.blank F := by
  unfold State.emitEvac; (try dsimp only); simp [h_playback, h_net]

@[simp] theorem State.emitStored_blank (h_playback : Field.playback ∈ F) (h_net : Field.net ∈ F) (s : State) (p : StoredPlay) :
    (s.emitStored p).blank F = s.blank F := by
  unfold State.emitStored; (try dsimp only); simp [h_playback, h_net]

@[simp] theorem State.fallbackRing_blank (h_arbiters : Field.arbiters ∈ F) (h_playback : Field.playback ∈ F) (h_net : Field.net ∈ F) (h_tokens : Field.tokens ∈ F) (s : State) (z : Nat) :
    (s.fallbackRing z).blank F = s.blank F := by
  unfold State.fallbackRing; (try dsimp only); simp [h_arbiters, h_playback, h_net, h_tokens]

@[simp] theorem State.startRequest_blank (h_arbiters : Field.arbiters ∈ F) (h_playback : Field.playback ∈ F) (h_net : Field.net ∈ F) (h_tokens : Field.tokens ∈ F) (s : State) (r : StoredRequest) :
    (s.startRequest r).blank F = s.blank F := by
  unfold State.startRequest; (try dsimp only); (repeat' split) <;> simp [h_arbiters, h_playback, h_net, h_tokens]

@[simp] theorem State.startHeads_blank (h_arbiters : Field.arbiters ∈ F) (h_playback : Field.playback ∈ F) (h_net : Field.net ∈ F) (h_tokens : Field.tokens ∈ F) (s : State) (x0 : List StoredRequest) :
    (s.startHeads x0).blank F = s.blank F := by
  induction x0 generalizing s with
  | nil => simp [State.startHeads, h_playback]
  | cons r rest ih => unfold State.startHeads; dsimp only; split <;> simp [ih, h_arbiters, h_playback, h_net, h_tokens]

@[simp] theorem State.startNext_blank (h_arbiters : Field.arbiters ∈ F) (h_playback : Field.playback ∈ F) (h_net : Field.net ∈ F) (h_tokens : Field.tokens ∈ F) (s : State) :
    (s.startNext).blank F = s.blank F := by
  unfold State.startNext; (repeat' split) <;> simp [h_arbiters, h_playback, h_net, h_tokens]

@[simp] theorem State.abandonStored_blank (h_arbiters : Field.arbiters ∈ F) (h_playback : Field.playback ∈ F) (h_net : Field.net ∈ F) (h_tokens : Field.tokens ∈ F) (s : State) (p : StoredPlay) :
    (s.abandonStored p).blank F = s.blank F := by
  unfold State.abandonStored; (try dsimp only); simp [h_arbiters, h_playback, h_net, h_tokens]

@[simp] theorem State.loseZones_blank (h_arbiters : Field.arbiters ∈ F) (h_playback : Field.playback ∈ F) (h_net : Field.net ∈ F) (h_tokens : Field.tokens ∈ F) (s : State) :
    (s.loseZones).blank F = s.blank F := by
  unfold State.loseZones; (try dsimp only); (repeat' split) <;> simp [h_arbiters, h_playback, h_net, h_tokens]

@[simp] theorem State.recomputeMap_blank (h_playback : Field.playback ∈ F) (h_net : Field.net ∈ F) (s : State) :
    (s.recomputeMap).blank F = s.blank F := by
  unfold State.recomputeMap; dsimp only
  rw [State.forEach_blank _ _ _ fun t z => State.forEach_blank _ _ _ fun u i => State.tune_blank h_playback h_net u i]
  simp [h_playback]

@[simp] theorem State.settleEvac_blank (h_playback : Field.playback ∈ F) (h_net : Field.net ∈ F) (s : State) :
    (s.settleEvac).blank F = s.blank F := by
  unfold State.settleEvac; (try dsimp only); (repeat' split) <;> simp [h_playback, h_net]

@[simp] theorem State.settleStored_blank (h_playback : Field.playback ∈ F) (h_net : Field.net ∈ F) (s : State) :
    (s.settleStored).blank F = s.blank F := by
  unfold State.settleStored; (repeat' split) <;> simp [h_playback, h_net]

@[simp] theorem State.settlePlayback_blank (h_arbiters : Field.arbiters ∈ F) (h_playback : Field.playback ∈ F) (h_net : Field.net ∈ F) (h_tokens : Field.tokens ∈ F) (s : State) :
    (s.settlePlayback).blank F = s.blank F := by
  unfold State.settlePlayback; simp [h_arbiters, h_playback, h_net, h_tokens]

@[simp] theorem State.joinStored_blank (h_arbiters : Field.arbiters ∈ F) (h_playback : Field.playback ∈ F) (h_net : Field.net ∈ F) (h_tokens : Field.tokens ∈ F) (s : State) (queue : List StoredRequest) (r : StoredRequest) :
    (s.joinStored queue r).blank F = s.blank F := by
  unfold State.joinStored; (try dsimp only); (repeat' split) <;> simp [h_arbiters, h_playback, h_net, h_tokens]

@[simp] theorem State.placeStored_blank (h_arbiters : Field.arbiters ∈ F) (h_playback : Field.playback ∈ F) (h_net : Field.net ∈ F) (h_tokens : Field.tokens ∈ F) (s : State) (phrase : Nat) (zones : ZoneMask) (gain : Nat) (urgent : Bool) (origin : RequestOrigin) :
    (s.placeStored phrase zones gain urgent origin).1.blank F = s.blank F := by
  unfold State.placeStored; (try dsimp only); (repeat' split) <;> simp [h_arbiters, h_playback, h_net, h_tokens]

@[simp] theorem State.modPage_blank (h_playback : Field.playback ∈ F) (s : State) (f : Page → Page) :
    (s.modPage f).blank F = s.blank F := by
  unfold State.modPage; simp [h_playback]

@[simp] theorem State.pageMoment_blank (h_playback : Field.playback ∈ F) (h_net : Field.net ∈ F) (s : State) :
    (s.pageMoment).blank F = s.blank F := by
  unfold State.pageMoment; (try dsimp only); (repeat' split) <;> simp [h_playback, h_net]

@[simp] theorem State.startPage_blank (h_playback : Field.playback ∈ F) (h_net : Field.net ∈ F) (s : State) :
    (s.startPage).blank F = s.blank F := by
  unfold State.startPage; (try dsimp only); (repeat' split) <;> simp [h_playback, h_net]

@[simp] theorem State.appendBlock_blank (h_playback : Field.playback ∈ F) (s : State) (b : JitterBlock) :
    (s.appendBlock b).blank F = s.blank F := by
  unfold State.appendBlock; (try dsimp only); (repeat' split) <;> simp [h_playback]

@[simp] theorem State.resyncPage_blank (h_playback : Field.playback ∈ F) (s : State) (b : Nat) (samples : List Sample) :
    (s.resyncPage b samples).blank F = s.blank F := by
  unfold State.resyncPage; simp [h_playback]

@[simp] theorem State.placeBlock_blank (h_playback : Field.playback ∈ F) (s : State) (b : Nat) (samples : List Sample) :
    (s.placeBlock b samples).blank F = s.blank F := by
  unfold State.placeBlock; (try dsimp only); (repeat' split) <;> simp [h_playback]

@[simp] theorem State.pageSamples_blank (h_playback : Field.playback ∈ F) (h_net : Field.net ∈ F) (s : State) (src : Addr) (payload : List Byte) :
    (s.pageSamples src payload).blank F = s.blank F := by
  unfold State.pageSamples; (try dsimp only); (repeat' split) <;> simp [h_playback, h_net]

@[simp] theorem State.endPage_blank (h_arbiters : Field.arbiters ∈ F) (h_playback : Field.playback ∈ F) (h_net : Field.net ∈ F) (h_tokens : Field.tokens ∈ F) (s : State) (why : PageEnd) :
    (s.endPage why).blank F = s.blank F := by
  unfold State.endPage; (try dsimp only); simp [h_arbiters, h_playback, h_net, h_tokens]

@[simp] theorem State.startPageOrder_blank (h_arbiters : Field.arbiters ∈ F) (h_playback : Field.playback ∈ F) (h_net : Field.net ∈ F) (h_tokens : Field.tokens ∈ F) (s : State) (zones : ZoneMask) (gain : Nat) (src : Addr) :
    (s.startPageOrder zones gain src).blank F = s.blank F := by
  unfold State.startPageOrder; simp [h_arbiters, h_playback, h_net, h_tokens]

@[simp] theorem State.speakerLoss_blank (h_arbiters : Field.arbiters ∈ F) (h_playback : Field.playback ∈ F) (h_net : Field.net ∈ F) (h_tokens : Field.tokens ∈ F) (s : State) :
    (s.speakerLoss).blank F = s.blank F := by
  unfold State.speakerLoss; simp [h_arbiters, h_playback, h_net, h_tokens]

@[simp] theorem State.speakerRegain_blank (h_arbiters : Field.arbiters ∈ F) (h_playback : Field.playback ∈ F) (h_net : Field.net ∈ F) (h_tokens : Field.tokens ∈ F) (s : State) (i : Nat) :
    (s.speakerRegain i).blank F = s.blank F := by
  unfold State.speakerRegain; simp [h_arbiters, h_playback, h_net, h_tokens]

@[simp] theorem State.recomputeFault_blank (h_zones : Field.zones ∈ F) (h_net : Field.net ∈ F) (s : State) (z : Nat) :
    (s.recomputeFault z).blank F = s.blank F := by
  unfold State.recomputeFault; (try dsimp only); (repeat' split) <;> simp [h_zones, h_net]

@[simp] theorem State.recomputeFaults_blank (h_zones : Field.zones ∈ F) (h_net : Field.net ∈ F) (s : State) :
    (s.recomputeFaults).blank F = s.blank F := by
  unfold State.recomputeFaults; simp [h_zones, h_net]

@[simp] theorem State.panelLoss_blank (h_points : Field.points ∈ F) (h_zones : Field.zones ∈ F) (h_net : Field.net ∈ F) (s : State) (i : Nat) :
    (s.panelLoss i).blank F = s.blank F := by
  unfold State.panelLoss; simp [h_points, h_zones, h_net]

@[simp] theorem State.panelRegain_blank (h_points : Field.points ∈ F) (h_zones : Field.zones ∈ F) (h_net : Field.net ∈ F) (s : State) (i : Nat) :
    (s.panelRegain i).blank F = s.blank F := by
  unfold State.panelRegain; simp [h_points, h_zones, h_net]

@[simp] theorem State.setZone_blank (h_shafts : Field.shafts ∈ F) (h_zones : Field.zones ∈ F) (h_net : Field.net ∈ F) (s : State) (z : Nat) (st : ZoneState) :
    (s.setZone z st).blank F = s.blank F := by
  unfold State.setZone; simp [h_shafts, h_zones, h_net]

@[simp] theorem State.notifyZone_blank (h_net : Field.net ∈ F) (s : State) (z : Nat) (old : ZoneState) :
    (s.notifyZone z old).blank F = s.blank F := by
  unfold State.notifyZone; (try dsimp only); (repeat' split) <;> simp [h_net]

@[simp] theorem State.raiseFlags_blank (h_shafts : Field.shafts ∈ F) (h_shutters : Field.shutters ∈ F) (h_net : Field.net ∈ F) (s : State) (z : Nat) :
    (s.raiseFlags z).blank F = s.blank F := by
  unfold State.raiseFlags; simp [h_shafts, h_shutters, h_net]

@[simp] theorem State.neighbourAlert_blank (h_arbiters : Field.arbiters ∈ F) (h_playback : Field.playback ∈ F) (h_net : Field.net ∈ F) (h_tokens : Field.tokens ∈ F) (s : State) (z : Nat) :
    (s.neighbourAlert z).blank F = s.blank F := by
  unfold State.neighbourAlert; (try dsimp only); (repeat' split) <;> simp [h_arbiters, h_playback, h_net, h_tokens]

@[simp] theorem State.voiceAlarm_blank (h_net : Field.net ∈ F) (s : State) (z : Nat) :
    (s.voiceAlarm z).blank F = s.blank F := by
  unfold State.voiceAlarm; (repeat' split) <;> simp [h_net]

@[simp] theorem State.enterAlarm_blank (h_shafts : Field.shafts ∈ F) (h_zones : Field.zones ∈ F) (h_shutters : Field.shutters ∈ F) (h_calls : Field.calls ∈ F) (h_arbiters : Field.arbiters ∈ F) (h_playback : Field.playback ∈ F) (h_net : Field.net ∈ F) (h_tokens : Field.tokens ∈ F) (s : State) (z : Nat) (cause : AlarmCause) (point : AlarmPoint) :
    (s.enterAlarm z cause point).blank F = s.blank F := by
  unfold State.enterAlarm; (try dsimp only); (repeat' split) <;> simp [h_shafts, h_zones, h_shutters, h_calls, h_arbiters, h_playback, h_net, h_tokens]

@[simp] theorem State.enterAlert_blank (h_shafts : Field.shafts ∈ F) (h_zones : Field.zones ∈ F) (h_net : Field.net ∈ F) (s : State) (z : Nat) (knock : Option Nat) :
    (s.enterAlert z knock).blank F = s.blank F := by
  unfold State.enterAlert; (try dsimp only); simp [h_shafts, h_zones, h_net]

@[simp] theorem State.reportNormal_blank (h_shafts : Field.shafts ∈ F) (h_zones : Field.zones ∈ F) (h_shutters : Field.shutters ∈ F) (h_calls : Field.calls ∈ F) (h_arbiters : Field.arbiters ∈ F) (h_playback : Field.playback ∈ F) (h_net : Field.net ∈ F) (h_tokens : Field.tokens ∈ F) (s : State) (z i : Nat) (x0 : ReportClass) :
    (s.reportNormal z i x0).blank F = s.blank F := by
  unfold State.reportNormal; (repeat' split) <;> simp [h_shafts, h_zones, h_shutters, h_calls, h_arbiters, h_playback, h_net, h_tokens]

@[simp] theorem State.reportAlert_blank (h_shafts : Field.shafts ∈ F) (h_zones : Field.zones ∈ F) (h_shutters : Field.shutters ∈ F) (h_calls : Field.calls ∈ F) (h_arbiters : Field.arbiters ∈ F) (h_playback : Field.playback ∈ F) (h_net : Field.net ∈ F) (h_tokens : Field.tokens ∈ F) (s : State) (z i : Nat) (x0 : ReportClass) :
    (s.reportAlert z i x0).blank F = s.blank F := by
  unfold State.reportAlert; (repeat' split) <;> simp [h_shafts, h_zones, h_shutters, h_calls, h_arbiters, h_playback, h_net, h_tokens]

@[simp] theorem State.furtherAlarm_blank (h_zones : Field.zones ∈ F) (h_net : Field.net ∈ F) (s : State) (z : Nat) (p : AlarmPoint) :
    (s.furtherAlarm z p).blank F = s.blank F := by
  unfold State.furtherAlarm; simp [h_zones, h_net]

@[simp] theorem State.reportReentry_blank (h_shafts : Field.shafts ∈ F) (h_zones : Field.zones ∈ F) (h_shutters : Field.shutters ∈ F) (h_calls : Field.calls ∈ F) (h_arbiters : Field.arbiters ∈ F) (h_playback : Field.playback ∈ F) (h_net : Field.net ∈ F) (h_tokens : Field.tokens ∈ F) (s : State) (z i : Nat) (isNew : Bool) (x0 : ReportClass) :
    (s.reportReentry z i isNew x0).blank F = s.blank F := by
  unfold State.reportReentry; (repeat' split) <;> simp [h_shafts, h_zones, h_shutters, h_calls, h_arbiters, h_playback, h_net, h_tokens]

@[simp] theorem State.reportAlarm_blank (h_zones : Field.zones ∈ F) (h_net : Field.net ∈ F) (s : State) (z i : Nat) (isNew : Bool) (x0 : ReportClass) :
    (s.reportAlarm z i isNew x0).blank F = s.blank F := by
  unfold State.reportAlarm; (repeat' split) <;> simp [h_zones, h_net]

@[simp] theorem State.report_blank (h_shafts : Field.shafts ∈ F) (h_zones : Field.zones ∈ F) (h_shutters : Field.shutters ∈ F) (h_calls : Field.calls ∈ F) (h_arbiters : Field.arbiters ∈ F) (h_playback : Field.playback ∈ F) (h_net : Field.net ∈ F) (h_tokens : Field.tokens ∈ F) (s : State) (z i : Nat) (isNew : Bool) (c : ReportClass) :
    (s.report z i isNew c).blank F = s.blank F := by
  unfold State.report; (repeat' split) <;> simp [h_shafts, h_zones, h_shutters, h_calls, h_arbiters, h_playback, h_net, h_tokens]

@[simp] theorem State.detect_blank (h_shafts : Field.shafts ∈ F) (h_points : Field.points ∈ F) (h_unknownPoint : Field.unknownPoint ∈ F) (h_zones : Field.zones ∈ F) (h_shutters : Field.shutters ∈ F) (h_calls : Field.calls ∈ F) (h_arbiters : Field.arbiters ∈ F) (h_playback : Field.playback ∈ F) (h_net : Field.net ∈ F) (h_tokens : Field.tokens ∈ F) (s : State) (sender : Option Nat) (payload : List Byte) :
    (s.detect sender payload).blank F = s.blank F := by
  unfold State.detect; (try dsimp only); (repeat' split) <;> simp [h_shafts, h_points, h_unknownPoint, h_zones, h_shutters, h_calls, h_arbiters, h_playback, h_net, h_tokens]

@[simp] theorem State.localDrop_blank (h_shafts : Field.shafts ∈ F) (h_zones : Field.zones ∈ F) (h_shutters : Field.shutters ∈ F) (h_calls : Field.calls ∈ F) (h_arbiters : Field.arbiters ∈ F) (h_playback : Field.playback ∈ F) (h_net : Field.net ∈ F) (h_tokens : Field.tokens ∈ F) (s : State) (z i : Nat) :
    (s.localDrop z i).blank F = s.blank F := by
  unfold State.localDrop; (repeat' split) <;> simp [h_shafts, h_zones, h_shutters, h_calls, h_arbiters, h_playback, h_net, h_tokens]

@[simp] theorem State.completeReset_blank (h_shafts : Field.shafts ∈ F) (h_zones : Field.zones ∈ F) (h_shutters : Field.shutters ∈ F) (h_calls : Field.calls ∈ F) (h_arbiters : Field.arbiters ∈ F) (h_playback : Field.playback ∈ F) (h_net : Field.net ∈ F) (h_tokens : Field.tokens ∈ F) (s : State) (z : Nat) :
    (s.completeReset z).blank F = s.blank F := by
  unfold State.completeReset; (try dsimp only); simp [h_shafts, h_zones, h_shutters, h_calls, h_arbiters, h_playback, h_net, h_tokens]

@[simp] theorem State.completionCheck_blank (h_shafts : Field.shafts ∈ F) (h_zones : Field.zones ∈ F) (h_shutters : Field.shutters ∈ F) (h_calls : Field.calls ∈ F) (h_arbiters : Field.arbiters ∈ F) (h_playback : Field.playback ∈ F) (h_net : Field.net ∈ F) (h_tokens : Field.tokens ∈ F) (s : State) (z : Nat) :
    (s.completionCheck z).blank F = s.blank F := by
  unfold State.completionCheck; (try dsimp only); (repeat' split) <;> simp [h_shafts, h_zones, h_shutters, h_calls, h_arbiters, h_playback, h_net, h_tokens]

@[simp] theorem State.orderSilence_blank (h_shafts : Field.shafts ∈ F) (h_zones : Field.zones ∈ F) (h_arbiters : Field.arbiters ∈ F) (h_playback : Field.playback ∈ F) (h_net : Field.net ∈ F) (h_tokens : Field.tokens ∈ F) (s : State) (z : Nat) :
    (s.orderSilence z).1.blank F = s.blank F := by
  unfold State.orderSilence; (try dsimp only); (repeat' split) <;> simp [h_shafts, h_zones, h_arbiters, h_playback, h_net, h_tokens]

@[simp] theorem State.resetShutter_blank (h_shafts : Field.shafts ∈ F) (h_shutters : Field.shutters ∈ F) (h_calls : Field.calls ∈ F) (h_arbiters : Field.arbiters ∈ F) (h_day : Field.day ∈ F) (h_net : Field.net ∈ F) (h_tokens : Field.tokens ∈ F) (s : State) (i : Nat) :
    (s.resetShutter i).blank F = s.blank F := by
  unfold State.resetShutter; (try dsimp only); (repeat' split) <;> simp [h_shafts, h_shutters, h_calls, h_arbiters, h_day, h_net, h_tokens]

@[simp] theorem State.retryShutter_blank (h_shutters : Field.shutters ∈ F) (h_net : Field.net ∈ F) (s : State) (i : Nat) :
    (s.retryShutter i).blank F = s.blank F := by
  unfold State.retryShutter; (repeat' split) <;> simp [h_shutters, h_net]

@[simp] theorem State.orderResetZone_blank (h_shafts : Field.shafts ∈ F) (h_zones : Field.zones ∈ F) (h_shutters : Field.shutters ∈ F) (h_calls : Field.calls ∈ F) (h_arbiters : Field.arbiters ∈ F) (h_day : Field.day ∈ F) (h_playback : Field.playback ∈ F) (h_net : Field.net ∈ F) (h_tokens : Field.tokens ∈ F) (s : State) (z : Nat) :
    (s.orderResetZone z).1.blank F = s.blank F := by
  unfold State.orderResetZone; (try dsimp only); (repeat' split) <;> simp [h_shafts, h_zones, h_shutters, h_calls, h_arbiters, h_day, h_playback, h_net, h_tokens]

@[simp] theorem State.orderIsolate_blank (h_shafts : Field.shafts ∈ F) (h_zones : Field.zones ∈ F) (h_shutters : Field.shutters ∈ F) (h_arbiters : Field.arbiters ∈ F) (h_playback : Field.playback ∈ F) (h_net : Field.net ∈ F) (h_tokens : Field.tokens ∈ F) (s : State) (z : Nat) :
    (s.orderIsolate z).1.blank F = s.blank F := by
  unfold State.orderIsolate; (try dsimp only); (repeat' split) <;> simp [h_shafts, h_zones, h_shutters, h_arbiters, h_playback, h_net, h_tokens]

@[simp] theorem State.shutterFromPosition_blank (h_shafts : Field.shafts ∈ F) (h_shutters : Field.shutters ∈ F) (h_net : Field.net ∈ F) (s : State) (i : Nat) (p : CurtainPos) :
    (s.shutterFromPosition i p).blank F = s.blank F := by
  unfold State.shutterFromPosition; (repeat' split) <;> simp [h_shafts, h_shutters, h_net]

@[simp] theorem State.comply_blank (h_shafts : Field.shafts ∈ F) (h_shutters : Field.shutters ∈ F) (h_net : Field.net ∈ F) (s : State) (i : Nat) :
    (s.comply i).blank F = s.blank F := by
  unfold State.comply; simp [h_shafts, h_shutters, h_net]

@[simp] theorem State.endMotion_blank (h_shutters : Field.shutters ∈ F) (s : State) (i : Nat) :
    (s.endMotion i).blank F = s.blank F := by
  unfold State.endMotion; simp [h_shutters]

@[simp] theorem State.countUnexpected_blank (h_shutters : Field.shutters ∈ F) (s : State) (i : Nat) :
    (s.countUnexpected i).blank F = s.blank F := by
  unfold State.countUnexpected; simp [h_shutters]

@[simp] theorem State.stall_blank (h_shafts : Field.shafts ∈ F) (h_shutters : Field.shutters ∈ F) (h_net : Field.net ∈ F) (s : State) (i : Nat) :
    (s.stall i).blank F = s.blank F := by
  unfold State.stall; (try dsimp only); simp [h_shafts, h_shutters, h_net]

@[simp] theorem State.sendIfStopped_blank (h_shutters : Field.shutters ∈ F) (h_net : Field.net ∈ F) (s : State) (i : Nat) (c : ShutCommand) :
    (s.sendIfStopped i c).blank F = s.blank F := by
  unfold State.sendIfStopped; (repeat' split) <;> simp [h_shutters, h_net]

@[simp] theorem State.reportRelease_blank (h_shafts : Field.shafts ∈ F) (h_shutters : Field.shutters ∈ F) (h_net : Field.net ∈ F) (s : State) (i : Nat) (x0 : CurtainPos) :
    (s.reportRelease i x0).blank F = s.blank F := by
  unfold State.reportRelease; (repeat' split) <;> simp [h_shafts, h_shutters, h_net]

@[simp] theorem State.reportRaise_blank (h_shafts : Field.shafts ∈ F) (h_shutters : Field.shutters ∈ F) (h_net : Field.net ∈ F) (s : State) (i : Nat) (x0 : CurtainPos) :
    (s.reportRaise i x0).blank F = s.blank F := by
  unfold State.reportRaise; (repeat' split) <;> simp [h_shafts, h_shutters, h_net]

@[simp] theorem State.uncommanded_blank (h_shafts : Field.shafts ∈ F) (h_shutters : Field.shutters ∈ F) (h_calls : Field.calls ∈ F) (h_arbiters : Field.arbiters ∈ F) (h_day : Field.day ∈ F) (h_net : Field.net ∈ F) (h_tokens : Field.tokens ∈ F) (s : State) (i : Nat) (c : ShutterCfg) (p : CurtainPos) :
    (s.uncommanded i c p).blank F = s.blank F := by
  unfold State.uncommanded; (try dsimp only); (repeat' split) <;> simp [h_shafts, h_shutters, h_calls, h_arbiters, h_day, h_net, h_tokens]

@[simp] theorem State.reportIdle_blank (h_shafts : Field.shafts ∈ F) (h_shutters : Field.shutters ∈ F) (h_net : Field.net ∈ F) (s : State) (i : Nat) (c : ShutterCfg) (p : CurtainPos) :
    (s.reportIdle i c p).blank F = s.blank F := by
  unfold State.reportIdle; (try dsimp only); (repeat' split) <;> simp [h_shafts, h_shutters, h_net]

@[simp] theorem State.reportActive_blank (h_shafts : Field.shafts ∈ F) (h_zones : Field.zones ∈ F) (h_shutters : Field.shutters ∈ F) (h_calls : Field.calls ∈ F) (h_arbiters : Field.arbiters ∈ F) (h_day : Field.day ∈ F) (h_playback : Field.playback ∈ F) (h_net : Field.net ∈ F) (h_tokens : Field.tokens ∈ F) (s : State) (i : Nat) (c : ShutterCfg) (r : DriveReport) :
    (s.reportActive i c r).blank F = s.blank F := by
  unfold State.reportActive; (repeat' split) <;> simp [h_shafts, h_zones, h_shutters, h_calls, h_arbiters, h_day, h_playback, h_net, h_tokens]

@[simp] theorem State.reportIsolated_blank (h_shafts : Field.shafts ∈ F) (h_zones : Field.zones ∈ F) (h_shutters : Field.shutters ∈ F) (h_calls : Field.calls ∈ F) (h_arbiters : Field.arbiters ∈ F) (h_playback : Field.playback ∈ F) (h_net : Field.net ∈ F) (h_tokens : Field.tokens ∈ F) (s : State) (i : Nat) (c : ShutterCfg) (prev : Option DriveReport) (r : DriveReport) :
    (s.reportIsolated i c prev r).blank F = s.blank F := by
  unfold State.reportIsolated; (try dsimp only); (repeat' split) <;> simp [h_shafts, h_zones, h_shutters, h_calls, h_arbiters, h_playback, h_net, h_tokens]

@[simp] theorem State.shutterReport_blank (h_shafts : Field.shafts ∈ F) (h_zones : Field.zones ∈ F) (h_shutters : Field.shutters ∈ F) (h_calls : Field.calls ∈ F) (h_arbiters : Field.arbiters ∈ F) (h_day : Field.day ∈ F) (h_playback : Field.playback ∈ F) (h_net : Field.net ∈ F) (h_tokens : Field.tokens ∈ F) (s : State) (i : Nat) (c : ShutterCfg) (r : DriveReport) :
    (s.shutterReport i c r).blank F = s.blank F := by
  unfold State.shutterReport; (try dsimp only); (repeat' split) <;> simp [h_shafts, h_zones, h_shutters, h_calls, h_arbiters, h_day, h_playback, h_net, h_tokens]

@[simp] theorem State.shutstat_blank (h_shafts : Field.shafts ∈ F) (h_zones : Field.zones ∈ F) (h_shutters : Field.shutters ∈ F) (h_unknownDrive : Field.unknownDrive ∈ F) (h_calls : Field.calls ∈ F) (h_arbiters : Field.arbiters ∈ F) (h_day : Field.day ∈ F) (h_playback : Field.playback ∈ F) (h_net : Field.net ∈ F) (h_tokens : Field.tokens ∈ F) (s : State) (sender : Option Nat) (payload : List Byte) :
    (s.shutstat sender payload).blank F = s.blank F := by
  unfold State.shutstat; (try dsimp only); (repeat' split) <;> simp [h_shafts, h_zones, h_shutters, h_unknownDrive, h_calls, h_arbiters, h_day, h_playback, h_net, h_tokens]

@[simp] theorem State.driveLoss_blank (h_shafts : Field.shafts ∈ F) (h_shutters : Field.shutters ∈ F) (h_net : Field.net ∈ F) (s : State) (i : Nat) :
    (s.driveLoss i).blank F = s.blank F := by
  unfold State.driveLoss; (repeat' split) <;> simp [h_shafts, h_shutters, h_net]

@[simp] theorem State.driveRegain_blank (h_shafts : Field.shafts ∈ F) (h_shutters : Field.shutters ∈ F) (h_net : Field.net ∈ F) (s : State) (i : Nat) :
    (s.driveRegain i).blank F = s.blank F := by
  unfold State.driveRegain; (try dsimp only); (repeat' split) <;> simp [h_shafts, h_shutters, h_net]

@[simp] theorem State.rederive_blank (h_shafts : Field.shafts ∈ F) (h_shutters : Field.shutters ∈ F) (h_calls : Field.calls ∈ F) (h_arbiters : Field.arbiters ∈ F) (h_day : Field.day ∈ F) (h_net : Field.net ∈ F) (h_tokens : Field.tokens ∈ F) (s : State) (i : Nat) :
    (s.rederive i).1.blank F = s.blank F := by
  unfold State.rederive; (try dsimp only); (repeat' split) <;> simp [h_shafts, h_shutters, h_calls, h_arbiters, h_day, h_net, h_tokens]

@[simp] theorem State.rederiveZone_blank (h_shafts : Field.shafts ∈ F) (h_zones : Field.zones ∈ F) (h_shutters : Field.shutters ∈ F) (h_calls : Field.calls ∈ F) (h_arbiters : Field.arbiters ∈ F) (h_day : Field.day ∈ F) (h_playback : Field.playback ∈ F) (h_net : Field.net ∈ F) (h_tokens : Field.tokens ∈ F) (s : State) (z : Nat) :
    (s.rederiveZone z).blank F = s.blank F := by
  have fold : ∀ (l : List Nat) (a : State × List Nat), (l.foldl rederiveStep a).1.blank F = a.1.blank F := by
    intro l
    induction l with
    | nil => intro a; rfl
    | cons i l ih => intro a; simp [List.foldl_cons, ih, rederiveStep, h_shafts, h_shutters, h_calls, h_arbiters, h_day, h_net, h_tokens]
  unfold State.rederiveZone; dsimp only
  simp [fold, h_shafts, h_zones, h_shutters, h_calls, h_arbiters, h_playback, h_net, h_tokens]

@[simp] theorem State.reportAnew_blank (h_shafts : Field.shafts ∈ F) (h_zones : Field.zones ∈ F) (h_shutters : Field.shutters ∈ F) (h_calls : Field.calls ∈ F) (h_arbiters : Field.arbiters ∈ F) (h_playback : Field.playback ∈ F) (h_net : Field.net ∈ F) (h_tokens : Field.tokens ∈ F) (s : State) (i : Nat) :
    (s.reportAnew i).blank F = s.blank F := by
  unfold State.reportAnew; (repeat' split) <;> simp [h_shafts, h_zones, h_shutters, h_calls, h_arbiters, h_playback, h_net, h_tokens]

@[simp] theorem State.orderRestore_blank (h_shafts : Field.shafts ∈ F) (h_zones : Field.zones ∈ F) (h_shutters : Field.shutters ∈ F) (h_calls : Field.calls ∈ F) (h_arbiters : Field.arbiters ∈ F) (h_day : Field.day ∈ F) (h_playback : Field.playback ∈ F) (h_net : Field.net ∈ F) (h_tokens : Field.tokens ∈ F) (s : State) (z : Nat) :
    (s.orderRestore z).1.blank F = s.blank F := by
  unfold State.orderRestore; (try dsimp only); (repeat' split) <;> simp [h_shafts, h_zones, h_shutters, h_calls, h_arbiters, h_day, h_playback, h_net, h_tokens]

@[simp] theorem State.restamp_blank (h_day : Field.day ∈ F) (s : State) :
    (s.restamp).blank F = s.blank F := by
  unfold State.restamp; (try dsimp only); simp [h_day]

@[simp] theorem State.announce_blank (h_arbiters : Field.arbiters ∈ F) (h_playback : Field.playback ∈ F) (h_net : Field.net ∈ F) (h_tokens : Field.tokens ∈ F) (s : State) (a : Announcement) :
    (s.announce a).blank F = s.blank F := by
  unfold State.announce; (try dsimp only); (repeat' split) <;> simp [h_arbiters, h_playback, h_net, h_tokens]

@[simp] theorem State.closingRings_blank (h_arbiters : Field.arbiters ∈ F) (h_net : Field.net ∈ F) (h_tokens : Field.tokens ∈ F) (s : State) (p : Pattern) (is : List Nat) :
    (s.closingRings p is).blank F = s.blank F := by
  unfold State.closingRings; simp [h_arbiters, h_net, h_tokens]

@[simp] theorem State.beginClosing_blank (h_shafts : Field.shafts ∈ F) (h_calls : Field.calls ∈ F) (h_arbiters : Field.arbiters ∈ F) (h_day : Field.day ∈ F) (h_net : Field.net ∈ F) (h_tokens : Field.tokens ∈ F) (s : State) (src : ModeSource) :
    (s.beginClosing src).blank F = s.blank F := by
  unfold State.beginClosing; (try dsimp only); simp [h_shafts, h_calls, h_arbiters, h_day, h_net, h_tokens]

@[simp] theorem State.lastCall_blank (h_shafts : Field.shafts ∈ F) (h_calls : Field.calls ∈ F) (h_arbiters : Field.arbiters ∈ F) (h_day : Field.day ∈ F) (h_net : Field.net ∈ F) (h_tokens : Field.tokens ∈ F) (s : State) (src : ModeSource) :
    (s.lastCall src).blank F = s.blank F := by
  unfold State.lastCall; simp [h_shafts, h_calls, h_arbiters, h_day, h_net, h_tokens]

@[simp] theorem State.closeStore_blank (h_shafts : Field.shafts ∈ F) (h_calls : Field.calls ∈ F) (h_arbiters : Field.arbiters ∈ F) (h_day : Field.day ∈ F) (h_playback : Field.playback ∈ F) (h_net : Field.net ∈ F) (h_tokens : Field.tokens ∈ F) (s : State) (src : ModeSource) (a : Announcement) :
    (s.closeStore src a).blank F = s.blank F := by
  unfold State.closeStore; (try dsimp only); simp [h_shafts, h_calls, h_arbiters, h_day, h_playback, h_net, h_tokens]

@[simp] theorem State.cancelClosing_blank (h_shafts : Field.shafts ∈ F) (h_shutters : Field.shutters ∈ F) (h_calls : Field.calls ∈ F) (h_arbiters : Field.arbiters ∈ F) (h_day : Field.day ∈ F) (h_net : Field.net ∈ F) (h_tokens : Field.tokens ∈ F) (s : State) (src : ModeSource) :
    (s.cancelClosing src).blank F = s.blank F := by
  unfold State.cancelClosing; (try dsimp only); simp [h_shafts, h_shutters, h_calls, h_arbiters, h_day, h_net, h_tokens]

theorem State.modeAction_blank (h_shafts : Field.shafts ∈ F) (h_shutters : Field.shutters ∈ F) (h_calls : Field.calls ∈ F)
    (h_arbiters : Field.arbiters ∈ F) (h_day : Field.day ∈ F) (h_playback : Field.playback ∈ F) (h_net : Field.net ∈ F)
    (h_tokens : Field.tokens ∈ F) {s t : State} {m : ModeAction} {src : ModeSource} {a : Announcement}
    (h : s.modeAction m src a = some t) : t.blank F = s.blank F := by
  unfold State.modeAction at h
  split at h <;> first
    | (simp only [Option.some.injEq] at h; subst h; simp [h_shafts, h_shutters, h_calls, h_arbiters, h_day, h_playback, h_net, h_tokens])
    | (split at h <;> simp only [Option.some.injEq, reduceCtorEq] at h; subst h; simp [h_shafts, h_calls, h_arbiters, h_day, h_playback, h_net, h_tokens])
    | simp at h

theorem State.fireAction_blank (h_shafts : Field.shafts ∈ F) (h_shutters : Field.shutters ∈ F) (h_calls : Field.calls ∈ F)
    (h_arbiters : Field.arbiters ∈ F) (h_day : Field.day ∈ F) (h_playback : Field.playback ∈ F) (h_net : Field.net ∈ F)
    (h_tokens : Field.tokens ∈ F) {s t : State} {i : Nat} {e : ScheduleEntry}
    (h : s.fireAction i e = some t) : t.blank F = s.blank F := by
  unfold State.fireAction at h
  split at h
  · exact State.modeAction_blank h_shafts h_shutters h_calls h_arbiters h_day h_playback h_net h_tokens h
  · (repeat' split at h) <;> simp only [Option.some.injEq] at h <;> subst h <;> simp [h_arbiters, h_playback, h_net, h_tokens]

@[simp] theorem State.fireEntry_blank (h_shafts : Field.shafts ∈ F) (h_shutters : Field.shutters ∈ F) (h_calls : Field.calls ∈ F) (h_arbiters : Field.arbiters ∈ F) (h_day : Field.day ∈ F) (h_playback : Field.playback ∈ F) (h_net : Field.net ∈ F) (h_tokens : Field.tokens ∈ F) (s : State) (i : Nat) :
    (s.fireEntry i).blank F = s.blank F := by
  unfold State.fireEntry; dsimp only
  split
  · rfl
  · split
    · rename_i e _ _
      cases hf : (s.modDay fun d => { d with stamps := d.stamps.set i (some s.clock.day) }).fireAction i e with
      | none => simp [h_day]
      | some t => simp [State.fireAction_blank h_shafts h_shutters h_calls h_arbiters h_day h_playback h_net h_tokens hf, h_day]
    · rfl

@[simp] theorem State.minuteEvent_blank (h_shafts : Field.shafts ∈ F) (h_shutters : Field.shutters ∈ F) (h_calls : Field.calls ∈ F) (h_arbiters : Field.arbiters ∈ F) (h_day : Field.day ∈ F) (h_playback : Field.playback ∈ F) (h_net : Field.net ∈ F) (h_tokens : Field.tokens ∈ F) (s : State) :
    (s.minuteEvent).blank F = s.blank F := by
  unfold State.minuteEvent; (repeat' split) <;> simp [h_shafts, h_shutters, h_calls, h_arbiters, h_day, h_playback, h_net, h_tokens]

@[simp] theorem State.tick_blank (h_now : Field.now ∈ F) (s : State) :
    (s.tick).blank F = s.blank F := by
  unfold State.tick; simp [h_now]

@[simp] theorem State.orderSetClock_blank (h_clock : Field.clock ∈ F) (h_day : Field.day ∈ F) (s : State) (x0 : Option ClockFields) :
    (s.orderSetClock x0).1.blank F = s.blank F := by
  unfold State.orderSetClock; (try dsimp only); (repeat' split) <;> simp [h_clock, h_day]

@[simp] theorem State.orderStepClock_blank (h_clock : Field.clock ∈ F) (s : State) (x0 : Option Int) :
    (s.orderStepClock x0).1.blank F = s.blank F := by
  unfold State.orderStepClock; (repeat' split) <;> simp [h_clock]

@[simp] theorem State.orderSetTrim_blank (h_clock : Field.clock ∈ F) (s : State) (x0 : Option TrimFields) :
    (s.orderSetTrim x0).1.blank F = s.blank F := by
  unfold State.orderSetTrim; (try dsimp only); (repeat' split) <;> simp [h_clock]

@[simp] theorem State.orderStoreMode_blank (h_shafts : Field.shafts ∈ F) (h_shutters : Field.shutters ∈ F) (h_calls : Field.calls ∈ F) (h_arbiters : Field.arbiters ∈ F) (h_day : Field.day ∈ F) (h_playback : Field.playback ∈ F) (h_net : Field.net ∈ F) (h_tokens : Field.tokens ∈ F) (s : State) (x0 : Option ModeFields) :
    (s.orderStoreMode x0).1.blank F = s.blank F := by
  cases x0 with
  | none => rfl
  | some f =>
    unfold State.orderStoreMode; dsimp only
    split
    · split
      · rfl
      · split
        · exact State.modeAction_blank h_shafts h_shutters h_calls h_arbiters h_day h_playback h_net h_tokens (by assumption)
        · rfl
    · rfl

@[simp] theorem State.closeWaitShaft_blank (h_shafts : Field.shafts ∈ F) (h_shutters : Field.shutters ∈ F) (h_net : Field.net ∈ F) (s : State) (k : Nat) :
    (s.closeWaitShaft k).blank F = s.blank F := by
  unfold State.closeWaitShaft; (repeat' split) <;> simp [h_shafts, h_shutters, h_net]

@[simp] theorem State.handLoss_blank (h_shafts : Field.shafts ∈ F) (h_points : Field.points ∈ F) (h_zones : Field.zones ∈ F) (h_shutters : Field.shutters ∈ F) (h_calls : Field.calls ∈ F) (h_arbiters : Field.arbiters ∈ F) (h_playback : Field.playback ∈ F) (h_net : Field.net ∈ F) (h_tokens : Field.tokens ∈ F) (s : State) (i : Nat) (x0 : Role) :
    (s.handLoss i x0).blank F = s.blank F := by
  unfold State.handLoss; (repeat' split) <;> simp [h_shafts, h_points, h_zones, h_shutters, h_calls, h_arbiters, h_playback, h_net, h_tokens]

@[simp] theorem State.handRegain_blank (h_shafts : Field.shafts ∈ F) (h_points : Field.points ∈ F) (h_zones : Field.zones ∈ F) (h_shutters : Field.shutters ∈ F) (h_calls : Field.calls ∈ F) (h_arbiters : Field.arbiters ∈ F) (h_playback : Field.playback ∈ F) (h_net : Field.net ∈ F) (h_tokens : Field.tokens ∈ F) (s : State) (i : Nat) (x0 : Role) :
    (s.handRegain i x0).blank F = s.blank F := by
  unfold State.handRegain; (repeat' split) <;> simp [h_shafts, h_points, h_zones, h_shutters, h_calls, h_arbiters, h_playback, h_net, h_tokens]

@[simp] theorem State.setPresence_blank (h_stations : Field.stations ∈ F) (s : State) (i : Nat) (p : Presence) :
    (s.setPresence i p).blank F = s.blank F := by
  unfold State.setPresence; simp [h_stations]

@[simp] theorem State.becomePresent_blank (h_stations : Field.stations ∈ F) (h_shafts : Field.shafts ∈ F) (h_points : Field.points ∈ F) (h_zones : Field.zones ∈ F) (h_shutters : Field.shutters ∈ F) (h_calls : Field.calls ∈ F) (h_arbiters : Field.arbiters ∈ F) (h_playback : Field.playback ∈ F) (h_net : Field.net ∈ F) (h_tokens : Field.tokens ∈ F) (s : State) (i : Nat) (role : Role) (old : Presence) :
    (s.becomePresent i role old).blank F = s.blank F := by
  unfold State.becomePresent; (try dsimp only); (repeat' split) <;> simp [h_stations, h_shafts, h_points, h_zones, h_shutters, h_calls, h_arbiters, h_playback, h_net, h_tokens]

@[simp] theorem State.becomeMismatch_blank (h_stations : Field.stations ∈ F) (h_shafts : Field.shafts ∈ F) (h_points : Field.points ∈ F) (h_zones : Field.zones ∈ F) (h_shutters : Field.shutters ∈ F) (h_calls : Field.calls ∈ F) (h_arbiters : Field.arbiters ∈ F) (h_playback : Field.playback ∈ F) (h_net : Field.net ∈ F) (h_tokens : Field.tokens ∈ F) (s : State) (i : Nat) (role : Role) (old : Presence) :
    (s.becomeMismatch i role old).blank F = s.blank F := by
  unfold State.becomeMismatch; (try dsimp only); (repeat' split) <;> simp [h_stations, h_shafts, h_points, h_zones, h_shutters, h_calls, h_arbiters, h_playback, h_net, h_tokens]

@[simp] theorem State.becomeMissing_blank (h_stations : Field.stations ∈ F) (h_shafts : Field.shafts ∈ F) (h_points : Field.points ∈ F) (h_zones : Field.zones ∈ F) (h_shutters : Field.shutters ∈ F) (h_calls : Field.calls ∈ F) (h_arbiters : Field.arbiters ∈ F) (h_playback : Field.playback ∈ F) (h_net : Field.net ∈ F) (h_tokens : Field.tokens ∈ F) (s : State) (i : Nat) (role : Role) (old : Presence) :
    (s.becomeMissing i role old).blank F = s.blank F := by
  unfold State.becomeMissing; (try dsimp only); (repeat' split) <;> simp [h_stations, h_shafts, h_points, h_zones, h_shutters, h_calls, h_arbiters, h_playback, h_net, h_tokens]

@[simp] theorem State.refresh_blank (h_stations : Field.stations ∈ F) (s : State) (i : Nat) (c : StationCfg) :
    (s.refresh i c).blank F = s.blank F := by
  unfold State.refresh; simp [h_stations]

@[simp] theorem State.countForeign_blank (h_stations : Field.stations ∈ F) (s : State) (i : Nat) (c : StationCfg) (port : Nat) :
    (s.countForeign i c port).blank F = s.blank F := by
  unfold State.countForeign; (repeat' split) <;> simp [h_stations]

@[simp] theorem State.beatFrom_blank (h_stations : Field.stations ∈ F) (h_shafts : Field.shafts ∈ F) (h_points : Field.points ∈ F) (h_zones : Field.zones ∈ F) (h_shutters : Field.shutters ∈ F) (h_calls : Field.calls ∈ F) (h_arbiters : Field.arbiters ∈ F) (h_playback : Field.playback ∈ F) (h_net : Field.net ∈ F) (h_tokens : Field.tokens ∈ F) (s : State) (i : Nat) (c : StationCfg) (role abil status : Byte) :
    (s.beatFrom i c role abil status).blank F = s.blank F := by
  unfold State.beatFrom; (try dsimp only); (repeat' split) <;> simp [h_stations, h_shafts, h_points, h_zones, h_shutters, h_calls, h_arbiters, h_playback, h_net, h_tokens]

@[simp] theorem State.hearFrom_blank (h_stations : Field.stations ∈ F) (h_shafts : Field.shafts ∈ F) (h_points : Field.points ∈ F) (h_zones : Field.zones ∈ F) (h_shutters : Field.shutters ∈ F) (h_calls : Field.calls ∈ F) (h_arbiters : Field.arbiters ∈ F) (h_playback : Field.playback ∈ F) (h_net : Field.net ∈ F) (h_tokens : Field.tokens ∈ F) (s : State) (i : Nat) (c : StationCfg) :
    (s.hearFrom i c).blank F = s.blank F := by
  unfold State.hearFrom; (try dsimp only); (repeat' split) <;> simp [h_stations, h_shafts, h_points, h_zones, h_shutters, h_calls, h_arbiters, h_playback, h_net, h_tokens]

@[simp] theorem State.tableTakes_blank (h_stations : Field.stations ∈ F) (h_unknownSource : Field.unknownSource ∈ F) (h_shafts : Field.shafts ∈ F) (h_points : Field.points ∈ F) (h_zones : Field.zones ∈ F) (h_shutters : Field.shutters ∈ F) (h_calls : Field.calls ∈ F) (h_arbiters : Field.arbiters ∈ F) (h_playback : Field.playback ∈ F) (h_net : Field.net ∈ F) (h_tokens : Field.tokens ∈ F) (s : State) (r : Received) :
    (s.tableTakes r).blank F = s.blank F := by
  unfold State.tableTakes; (try dsimp only); (repeat' split) <;> simp [h_stations, h_unknownSource, h_shafts, h_points, h_zones, h_shutters, h_calls, h_arbiters, h_playback, h_net, h_tokens]

end Sys2Proof.Machine
end

