-- ==== Sys2Proof/Laws/FramesNet.lean ====
section
/-! SUPPORT. What each shared operation of chapters 10 and 11 can change: one lemma for each, naming the fields. -/

namespace Sys2Proof.Machine

variable {F : List Field}

@[simp] theorem State.refuse_fst (s : State) (st : Status) : (s.refuse st).1 = s := rfl
@[simp] theorem State.carried_fst (s : State) (c : Bool) : (s.carried c).1 = s := rfl
@[simp] theorem answer_fst_blank (h_net : Field.net ∈ F) (t : Ticket) (x : State × Status × Detail) :
    (answer t x).blank F = x.1.blank F := by simp [answer, h_net]

@[simp] theorem State.dispatch_blank (h_net : Field.net ∈ F) (s : State) :
    (s.dispatch).blank F = s.blank F := by
  unfold State.dispatch; simp [State.blank, h_net]

@[simp] theorem State.notifyPort_blank (h_net : Field.net ∈ F) (s : State) (p : Nat) :
    (s.notifyPort p).blank F = s.blank F := by
  unfold State.notifyPort; simp [h_net]

@[simp] theorem State.portDown_blank (h_net : Field.net ∈ F) (s : State) (p : Nat) :
    (s.portDown p).blank F = s.blank F := by
  unfold State.portDown; simp [h_net]

@[simp] theorem State.portUp_blank (h_net : Field.net ∈ F) (s : State) (p : Nat) :
    (s.portUp p).blank F = s.blank F := by
  unfold State.portUp; (try dsimp only); (repeat' split) <;> simp [h_net]

@[simp] theorem State.countCheck_blank (h_net : Field.net ∈ F) (s : State) (p : Nat) (c : LineCheck) :
    (s.countCheck p c).blank F = s.blank F := by
  unfold State.countCheck; simp [h_net]

@[simp] theorem State.badFrame_blank (h_net : Field.net ∈ F) (s : State) (p : Nat) :
    (s.badFrame p).blank F = s.blank F := by
  unfold State.badFrame; (try dsimp only); (repeat' split) <;> simp [h_net]

@[simp] theorem State.intakeFrame_blank (h_net : Field.net ∈ F) (h_exchange : Field.exchange ∈ F) (s : State) (p : Nat) (f : Frame) :
    (s.intakeFrame p f).blank F = s.blank F := by
  unfold State.intakeFrame; (repeat' split)
  · simp [h_net]
  · simp [State.blank, h_net, h_exchange]
  · simp [h_net]

@[simp] theorem State.goodFrame_blank (h_net : Field.net ∈ F) (s : State) (p : Nat) :
    (s.goodFrame p).blank F = s.blank F := by
  unfold State.goodFrame; (try dsimp only); (repeat' split) <;> simp [h_net]

@[simp] theorem State.nextFrame_blank (h_net : Field.net ∈ F) (s : State) (p : Nat) (c : QueueClass) :
    (s.nextFrame p c).blank F = s.blank F := by
  unfold State.nextFrame; (try dsimp only); (repeat' split) <;> simp [h_net]

@[simp] theorem State.keepSent_blank (h_net : Field.net ∈ F) (s : State) (p : Nat) :
    (s.keepSent p).blank F = s.blank F := by
  unfold State.keepSent; (try dsimp only); simp [h_net]

@[simp] theorem State.keepClash_blank (h_net : Field.net ∈ F) (s : State) (p : Nat) :
    (s.keepClash p).blank F = s.blank F := by
  unfold State.keepClash; (try dsimp only); simp [h_net]

@[simp] theorem State.frameClash_blank (h_net : Field.net ∈ F) (h_draws : Field.draws ∈ F) (s : State) (p : Nat) (c : QueueClass) (h : Hand) :
    (s.frameClash p c h).blank F = s.blank F := by
  unfold State.frameClash; (try dsimp only); (repeat' split) <;> simp [h_net, h_draws]

@[simp] theorem State.lateClashed_blank (h_net : Field.net ∈ F) (s : State) (p : Nat) (c : QueueClass) :
    (s.lateClashed p c).blank F = s.blank F := by
  unfold State.lateClashed; (try dsimp only); simp [h_net]

@[simp] theorem State.startTest_blank (h_net : Field.net ∈ F) (s : State) (p : Nat) (t : Ticket) :
    (s.startTest p t).blank F = s.blank F := by
  unfold State.startTest; simp [h_net]

@[simp] theorem State.endTest_blank (h_net : Field.net ∈ F) (s : State) (p : Nat) (t : LineTest) (passed : Bool) :
    (s.endTest p t passed).blank F = s.blank F := by
  unfold State.endTest; (try dsimp only); simp [h_net]

@[simp] theorem State.mirror_blank (h_net : Field.net ∈ F) (s : State) (r : Received) :
    (s.mirror r).blank F = s.blank F := by
  unfold State.mirror; (repeat' split) <;> simp [h_net]

@[simp] theorem State.takeHead_blank (h_stations : Field.stations ∈ F) (h_unknownSource : Field.unknownSource ∈ F) (h_shafts : Field.shafts ∈ F) (h_points : Field.points ∈ F) (h_zones : Field.zones ∈ F) (h_shutters : Field.shutters ∈ F) (h_calls : Field.calls ∈ F) (h_arbiters : Field.arbiters ∈ F) (h_playback : Field.playback ∈ F) (h_net : Field.net ∈ F) (h_exchange : Field.exchange ∈ F) (h_tokens : Field.tokens ∈ F) (s : State) (r : Received) :
    (s.takeHead r).blank F = s.blank F := by
  unfold State.takeHead; (try dsimp only); simp [h_stations, h_unknownSource, h_shafts, h_points, h_zones, h_shutters, h_calls, h_arbiters, h_playback, h_net, h_exchange, h_tokens]

@[simp] theorem State.countExchange_blank (h_exchange : Field.exchange ∈ F) (s : State) (f : ExchangeCounters → ExchangeCounters) :
    (s.countExchange f).blank F = s.blank F := by
  unfold State.countExchange; (try dsimp only); simp [State.blank, h_exchange]

@[simp] theorem State.badPayload_blank (h_exchange : Field.exchange ∈ F) (s : State) :
    (s.badPayload).blank F = s.blank F := by
  unfold State.badPayload; simp [h_exchange]

@[simp] theorem State.dropTapped_blank (h_mismatchDrop : Field.mismatchDrop ∈ F) (h_exchange : Field.exchange ∈ F) (s : State) (r : Received) :
    (s.dropTapped r).blank F = s.blank F := by
  unfold State.dropTapped; split
  · exact State.badPayload_blank h_exchange s
  · simp [State.blank, h_mismatchDrop]

/-- A step that takes a tapped frame changes what taking the head changes, what dropping it changes, and what its job changes. -/
@[simp] theorem State.onHead_blank (h_stations : Field.stations ∈ F) (h_unknownSource : Field.unknownSource ∈ F) (h_shafts : Field.shafts ∈ F) (h_points : Field.points ∈ F) (h_zones : Field.zones ∈ F) (h_shutters : Field.shutters ∈ F) (h_calls : Field.calls ∈ F) (h_arbiters : Field.arbiters ∈ F) (h_playback : Field.playback ∈ F) (h_net : Field.net ∈ F) (h_exchange : Field.exchange ∈ F) (h_tokens : Field.tokens ∈ F)
    (h_mismatchDrop : Field.mismatchDrop ∈ F) (s : State) (head : Option Received) (job : State → Received → State)
    (h : ∀ t r, (job t r).blank F = t.blank F) : (s.onHead head job).blank F = s.blank F := by
  unfold State.onHead; split
  · rfl
  · dsimp only; split <;> simp [h, h_stations, h_unknownSource, h_shafts, h_points, h_zones, h_shutters, h_calls, h_arbiters, h_playback, h_net, h_exchange, h_tokens, h_mismatchDrop]

@[simp] theorem State.onFrame_blank (h_stations : Field.stations ∈ F) (h_unknownSource : Field.unknownSource ∈ F) (h_shafts : Field.shafts ∈ F) (h_points : Field.points ∈ F) (h_zones : Field.zones ∈ F) (h_shutters : Field.shutters ∈ F) (h_calls : Field.calls ∈ F) (h_arbiters : Field.arbiters ∈ F) (h_playback : Field.playback ∈ F) (h_net : Field.net ∈ F) (h_exchange : Field.exchange ∈ F) (h_tokens : Field.tokens ∈ F)
    (h_mismatchDrop : Field.mismatchDrop ∈ F) (s : State) (w : FrameStep) (job : State → Received → State)
    (h : ∀ t r, (job t r).blank F = t.blank F) : (s.onFrame w job).blank F = s.blank F :=
  State.onHead_blank h_stations h_unknownSource h_shafts h_points h_zones h_shutters h_calls h_arbiters h_playback h_net h_exchange h_tokens h_mismatchDrop s _ job h

@[simp] theorem State.landingFrame_blank (h_shafts : Field.shafts ∈ F) (h_calls : Field.calls ∈ F) (h_arbiters : Field.arbiters ∈ F) (h_day : Field.day ∈ F) (h_net : Field.net ∈ F) (h_tokens : Field.tokens ∈ F) (s : State) (r : Received) :
    (s.landingFrame r).blank F = s.blank F := by
  unfold State.landingFrame; (repeat' split) <;> simp [h_shafts, h_calls, h_arbiters, h_day, h_net, h_tokens]

@[simp] theorem State.badCall_blank (h_calls : Field.calls ∈ F) (s : State) :
    (s.badCall).blank F = s.blank F := by
  unfold State.badCall; simp [h_calls]

@[simp] theorem State.ackFrame_blank (h_calls : Field.calls ∈ F) (h_arbiters : Field.arbiters ∈ F) (h_net : Field.net ∈ F) (h_tokens : Field.tokens ∈ F) (s : State) (r : Received) :
    (s.ackFrame r).blank F = s.blank F := by
  unfold State.ackFrame; (try dsimp only); (repeat' split) <;> simp [h_calls, h_arbiters, h_net, h_tokens]

@[simp] theorem State.forwardTo_blank (h_net : Field.net ∈ F) (h_exchange : Field.exchange ∈ F) (s : State) (r : Received) (ps : List Nat) :
    (s.forwardTo r ps).blank F = s.blank F := by
  unfold State.forwardTo; simp [h_net, h_exchange]

@[simp] theorem State.forwardSingle_blank (h_net : Field.net ∈ F) (h_exchange : Field.exchange ∈ F) (s : State) (r : Received) :
    (s.forwardSingle r).blank F = s.blank F := by
  unfold State.forwardSingle; (repeat' split) <;> simp [h_net, h_exchange]

@[simp] theorem State.reject_blank (h_net : Field.net ∈ F) (s : State) :
    (s.reject).blank F = s.blank F := by
  unfold State.reject; simp [h_net]

@[simp] theorem State.badRequest_blank (h_net : Field.net ∈ F) (s : State) :
    (s.badRequest).blank F = s.blank F := by
  unfold State.badRequest; simp [h_net]

/-- A step that takes a request changes what taking the head changes, what answering changes, and what the request changes. -/
@[simp] theorem State.onRequest_blank (h_stations : Field.stations ∈ F) (h_unknownSource : Field.unknownSource ∈ F) (h_shafts : Field.shafts ∈ F) (h_points : Field.points ∈ F) (h_zones : Field.zones ∈ F) (h_shutters : Field.shutters ∈ F) (h_calls : Field.calls ∈ F) (h_arbiters : Field.arbiters ∈ F) (h_playback : Field.playback ∈ F) (h_net : Field.net ∈ F) (h_exchange : Field.exchange ∈ F) (h_tokens : Field.tokens ∈ F)
    (h_mismatchDrop : Field.mismatchDrop ∈ F) (s : State) (w : FrameStep) (o : Option Nat) (act : State → Ticket → State)
    (h : ∀ t k, (act t k).blank F = t.blank F) : (s.onRequest w o act).blank F = s.blank F := by
  unfold State.onRequest
  refine State.onHead_blank h_stations h_unknownSource h_shafts h_points h_zones h_shutters h_calls h_arbiters h_playback h_net h_exchange h_tokens h_mismatchDrop s _ _ fun t r => ?_
  unfold State.judgeRequest; (repeat' split) <;> simp [h, h_net]

@[simp] theorem State.writeStation_blank (h_tables : Field.tables ∈ F) (s : State) (i : Nat) (c : Option StationCfg) :
    (s.writeStation i c).blank F = s.blank F := by
  unfold State.writeStation; (try dsimp only); simp [State.blank, h_tables]

@[simp] theorem State.partWith_blank (h_stations : Field.stations ∈ F) (h_shafts : Field.shafts ∈ F) (h_points : Field.points ∈ F) (h_zones : Field.zones ∈ F) (h_shutters : Field.shutters ∈ F) (h_calls : Field.calls ∈ F) (h_arbiters : Field.arbiters ∈ F) (h_playback : Field.playback ∈ F) (h_net : Field.net ∈ F) (h_tokens : Field.tokens ∈ F) (s : State) (i : Nat) (c : StationCfg) :
    (s.partWith i c).blank F = s.blank F := by
  unfold State.partWith; (repeat' split) <;> simp [h_stations, h_shafts, h_points, h_zones, h_shutters, h_calls, h_arbiters, h_playback, h_net, h_tokens]

@[simp] theorem State.endIdentity_blank (h_calls : Field.calls ∈ F) (h_arbiters : Field.arbiters ∈ F) (h_playback : Field.playback ∈ F) (h_net : Field.net ∈ F) (s : State) (i : Nat) (old : StationCfg) (new : Option StationCfg) :
    (s.endIdentity i old new).blank F = s.blank F := by
  unfold State.endIdentity; (try dsimp only); (repeat' split) <;> simp [h_calls, h_arbiters, h_playback, h_net]

@[simp] theorem State.freshStation_blank (h_stations : Field.stations ∈ F) (s : State) (i : Nat) (c : StationCfg) :
    (s.freshStation i c).blank F = s.blank F := by
  unfold State.freshStation; simp [h_stations]

@[simp] theorem State.ensureArbiter_blank (h_arbiters : Field.arbiters ∈ F) (h_net : Field.net ∈ F) (h_tokens : Field.tokens ∈ F) (s : State) (i : Nat) (c : StationCfg) :
    (s.ensureArbiter i c).blank F = s.blank F := by
  unfold State.ensureArbiter; (repeat' split) <;> simp [h_arbiters, h_net, h_tokens]

@[simp] theorem State.afterStation_blank (h_calls : Field.calls ∈ F) (h_arbiters : Field.arbiters ∈ F) (h_playback : Field.playback ∈ F) (h_net : Field.net ∈ F) (h_tokens : Field.tokens ∈ F) (s : State) (old new : Option StationCfg) :
    (s.afterStation old new).blank F = s.blank F := by
  unfold State.afterStation; (try dsimp only); (repeat' split) <;> simp [h_calls, h_arbiters, h_playback, h_net, h_tokens]

@[simp] theorem State.rewriteStation_blank (h_tables : Field.tables ∈ F) (h_stations : Field.stations ∈ F) (h_calls : Field.calls ∈ F) (h_arbiters : Field.arbiters ∈ F) (h_playback : Field.playback ∈ F) (h_net : Field.net ∈ F) (h_tokens : Field.tokens ∈ F) (s : State) (i : Nat) (old c : StationCfg) :
    (s.rewriteStation i old c).blank F = s.blank F := by
  unfold State.rewriteStation; (try dsimp only); (repeat' split) <;> simp [h_tables, h_stations, h_calls, h_arbiters, h_playback, h_net, h_tokens]

@[simp] theorem State.applyStation_blank (h_tables : Field.tables ∈ F) (h_stations : Field.stations ∈ F) (h_shafts : Field.shafts ∈ F) (h_points : Field.points ∈ F) (h_zones : Field.zones ∈ F) (h_shutters : Field.shutters ∈ F) (h_calls : Field.calls ∈ F) (h_arbiters : Field.arbiters ∈ F) (h_playback : Field.playback ∈ F) (h_net : Field.net ∈ F) (h_tokens : Field.tokens ∈ F) (s : State) (i : Nat) (old : Option StationCfg) (c : StationCfg) :
    (s.applyStation i old c).blank F = s.blank F := by
  unfold State.applyStation; (try dsimp only); (repeat' split) <;> simp [h_tables, h_stations, h_shafts, h_points, h_zones, h_shutters, h_calls, h_arbiters, h_playback, h_net, h_tokens]

@[simp] theorem State.freeStation_blank (h_tables : Field.tables ∈ F) (h_stations : Field.stations ∈ F) (h_shafts : Field.shafts ∈ F) (h_points : Field.points ∈ F) (h_zones : Field.zones ∈ F) (h_shutters : Field.shutters ∈ F) (h_calls : Field.calls ∈ F) (h_arbiters : Field.arbiters ∈ F) (h_playback : Field.playback ∈ F) (h_net : Field.net ∈ F) (h_tokens : Field.tokens ∈ F) (s : State) (i : Nat) (o : StationCfg) :
    (s.freeStation i o).blank F = s.blank F := by
  unfold State.freeStation; (try dsimp only); simp [h_tables, h_stations, h_shafts, h_points, h_zones, h_shutters, h_calls, h_arbiters, h_playback, h_net, h_tokens]

@[simp] theorem State.setupStation_blank (h_tables : Field.tables ∈ F) (h_stations : Field.stations ∈ F) (h_shafts : Field.shafts ∈ F) (h_points : Field.points ∈ F) (h_zones : Field.zones ∈ F) (h_shutters : Field.shutters ∈ F) (h_calls : Field.calls ∈ F) (h_arbiters : Field.arbiters ∈ F) (h_playback : Field.playback ∈ F) (h_net : Field.net ∈ F) (h_tokens : Field.tokens ∈ F) (s : State) (i : Nat) (x0 : Write StationFields) :
    (s.setupStation i x0).1.blank F = s.blank F := by
  unfold State.setupStation; (try dsimp only); (repeat' split) <;> simp [h_tables, h_stations, h_shafts, h_points, h_zones, h_shutters, h_calls, h_arbiters, h_playback, h_net, h_tokens]

@[simp] theorem State.writePoint_blank (h_tables : Field.tables ∈ F) (s : State) (i : Nat) (c : Option PointCfg) :
    (s.writePoint i c).blank F = s.blank F := by
  unfold State.writePoint; (try dsimp only); simp [State.blank, h_tables]

@[simp] theorem State.pointFaults_blank (h_zones : Field.zones ∈ F) (h_net : Field.net ∈ F) (s : State) (old : Option PointCfg) (z : Nat) :
    (s.pointFaults old z).blank F = s.blank F := by
  unfold State.pointFaults; (try dsimp only); (repeat' split) <;> simp [h_zones, h_net]

@[simp] theorem State.applyPoint_blank (h_tables : Field.tables ∈ F) (h_shafts : Field.shafts ∈ F) (h_points : Field.points ∈ F) (h_zones : Field.zones ∈ F) (h_shutters : Field.shutters ∈ F) (h_calls : Field.calls ∈ F) (h_arbiters : Field.arbiters ∈ F) (h_playback : Field.playback ∈ F) (h_net : Field.net ∈ F) (h_tokens : Field.tokens ∈ F) (s : State) (i : Nat) (old : Option PointCfg) (c : PointCfg) :
    (s.applyPoint i old c).blank F = s.blank F := by
  unfold State.applyPoint; (try dsimp only); (repeat' split) <;> simp [h_tables, h_shafts, h_points, h_zones, h_shutters, h_calls, h_arbiters, h_playback, h_net, h_tokens]

@[simp] theorem State.setupPoint_blank (h_tables : Field.tables ∈ F) (h_shafts : Field.shafts ∈ F) (h_points : Field.points ∈ F) (h_zones : Field.zones ∈ F) (h_shutters : Field.shutters ∈ F) (h_calls : Field.calls ∈ F) (h_arbiters : Field.arbiters ∈ F) (h_playback : Field.playback ∈ F) (h_net : Field.net ∈ F) (h_tokens : Field.tokens ∈ F) (s : State) (i : Nat) (x0 : Write PointFields) :
    (s.setupPoint i x0).1.blank F = s.blank F := by
  unfold State.setupPoint; (try dsimp only); (repeat' split) <;> simp [h_tables, h_shafts, h_points, h_zones, h_shutters, h_calls, h_arbiters, h_playback, h_net, h_tokens]

@[simp] theorem State.setupZone_blank (h_tables : Field.tables ∈ F) (h_arbiters : Field.arbiters ∈ F) (h_playback : Field.playback ∈ F) (h_net : Field.net ∈ F) (h_tokens : Field.tokens ∈ F) (s : State) (z : Nat) (f : ZoneFields) :
    (s.setupZone z f).1.blank F = s.blank F := by
  unfold State.setupZone; (try dsimp only); (repeat' split) <;> simp [h_tables, h_arbiters, h_playback, h_net, h_tokens]

@[simp] theorem State.writeShutter_blank (h_tables : Field.tables ∈ F) (s : State) (i : Nat) (c : Option ShutterCfg) :
    (s.writeShutter i c).blank F = s.blank F := by
  unfold State.writeShutter; (try dsimp only); simp [State.blank, h_tables]

@[simp] theorem State.shutterRefs_blank (h_shafts : Field.shafts ∈ F) (h_shutters : Field.shutters ∈ F) (h_net : Field.net ∈ F) (s : State) (old new : Option ShutterCfg) :
    (s.shutterRefs old new).blank F = s.blank F := by
  unfold State.shutterRefs; (try dsimp only); simp [h_shafts, h_shutters, h_net]

@[simp] theorem State.moveShutter_blank (h_shafts : Field.shafts ∈ F) (h_shutters : Field.shutters ∈ F) (h_calls : Field.calls ∈ F) (h_arbiters : Field.arbiters ∈ F) (h_day : Field.day ∈ F) (h_net : Field.net ∈ F) (h_tokens : Field.tokens ∈ F) (s : State) (i : Nat) (c : ShutterCfg) :
    (s.moveShutter i c).1.blank F = s.blank F := by
  unfold State.moveShutter; (try dsimp only); (repeat' split) <;> simp [h_shafts, h_shutters, h_calls, h_arbiters, h_day, h_net, h_tokens]

@[simp] theorem State.applyShutter_blank (h_tables : Field.tables ∈ F) (h_shafts : Field.shafts ∈ F) (h_zones : Field.zones ∈ F) (h_shutters : Field.shutters ∈ F) (h_calls : Field.calls ∈ F) (h_arbiters : Field.arbiters ∈ F) (h_day : Field.day ∈ F) (h_playback : Field.playback ∈ F) (h_net : Field.net ∈ F) (h_tokens : Field.tokens ∈ F) (s : State) (i : Nat) (old : Option ShutterCfg) (c : ShutterCfg) :
    (s.applyShutter i old c).blank F = s.blank F := by
  unfold State.applyShutter; (try dsimp only); (repeat' split) <;> simp [h_tables, h_shafts, h_zones, h_shutters, h_calls, h_arbiters, h_day, h_playback, h_net, h_tokens]

@[simp] theorem State.setupShutter_blank (h_tables : Field.tables ∈ F) (h_shafts : Field.shafts ∈ F) (h_zones : Field.zones ∈ F) (h_shutters : Field.shutters ∈ F) (h_calls : Field.calls ∈ F) (h_arbiters : Field.arbiters ∈ F) (h_day : Field.day ∈ F) (h_playback : Field.playback ∈ F) (h_net : Field.net ∈ F) (h_tokens : Field.tokens ∈ F) (s : State) (i : Nat) (x0 : Write ShutterFields) :
    (s.setupShutter i x0).1.blank F = s.blank F := by
  unfold State.setupShutter; (try dsimp only); (repeat' split) <;> simp [h_tables, h_shafts, h_zones, h_shutters, h_calls, h_arbiters, h_day, h_playback, h_net, h_tokens]

@[simp] theorem State.writeRoute_blank (h_tables : Field.tables ∈ F) (s : State) (i : Nat) (r : Option Route) :
    (s.writeRoute i r).blank F = s.blank F := by
  unfold State.writeRoute; (try dsimp only); simp [State.blank, h_tables]

@[simp] theorem State.setupRoute_blank (h_tables : Field.tables ∈ F) (s : State) (i : Nat) (x0 : Write RouteFields) :
    (s.setupRoute i x0).1.blank F = s.blank F := by
  unfold State.setupRoute; (try dsimp only); (repeat' split) <;> simp [h_tables]

@[simp] theorem State.writeGeometry_blank (h_tables : Field.tables ∈ F) (s : State) (k : Nat) (g : Geometry) :
    (s.writeGeometry k g).blank F = s.blank F := by
  unfold State.writeGeometry; (try dsimp only); simp [State.blank, h_tables]

@[simp] theorem State.disableShaft_blank (h_shafts : Field.shafts ∈ F) (h_shutters : Field.shutters ∈ F) (h_calls : Field.calls ∈ F) (h_arbiters : Field.arbiters ∈ F) (h_day : Field.day ∈ F) (h_net : Field.net ∈ F) (h_tokens : Field.tokens ∈ F) (s : State) (k : Nat) :
    (s.disableShaft k).blank F = s.blank F := by
  unfold State.disableShaft; (try dsimp only); (repeat' split) <;> simp [h_shafts, h_shutters, h_calls, h_arbiters, h_day, h_net, h_tokens]

@[simp] theorem State.enableShaft_blank (h_shafts : Field.shafts ∈ F) (h_shutters : Field.shutters ∈ F) (h_calls : Field.calls ∈ F) (h_arbiters : Field.arbiters ∈ F) (h_day : Field.day ∈ F) (h_net : Field.net ∈ F) (h_tokens : Field.tokens ∈ F) (s : State) (k : Nat) :
    (s.enableShaft k).blank F = s.blank F := by
  unfold State.enableShaft; (try dsimp only); (repeat' split) <;> simp [h_shafts, h_shutters, h_calls, h_arbiters, h_day, h_net, h_tokens]

@[simp] theorem State.applyShaft_blank (h_tables : Field.tables ∈ F) (h_shafts : Field.shafts ∈ F) (h_shutters : Field.shutters ∈ F) (h_calls : Field.calls ∈ F) (h_arbiters : Field.arbiters ∈ F) (h_day : Field.day ∈ F) (h_net : Field.net ∈ F) (h_tokens : Field.tokens ∈ F) (s : State) (k : Nat) (o g : Geometry) :
    (s.applyShaft k o g).blank F = s.blank F := by
  unfold State.applyShaft; (try dsimp only); (repeat' split) <;> simp [h_tables, h_shafts, h_shutters, h_calls, h_arbiters, h_day, h_net, h_tokens]

@[simp] theorem State.setupShaft_blank (h_tables : Field.tables ∈ F) (h_shafts : Field.shafts ∈ F) (h_shutters : Field.shutters ∈ F) (h_calls : Field.calls ∈ F) (h_arbiters : Field.arbiters ∈ F) (h_day : Field.day ∈ F) (h_net : Field.net ∈ F) (h_tokens : Field.tokens ∈ F) (s : State) (k : Nat) (f : ShaftFields) :
    (s.setupShaft k f).1.blank F = s.blank F := by
  unfold State.setupShaft; (try dsimp only); (repeat' split) <;> simp [h_tables, h_shafts, h_shutters, h_calls, h_arbiters, h_day, h_net, h_tokens]

@[simp] theorem State.writeSill_blank (h_tables : Field.tables ∈ F) (s : State) (k i : Nat) (x : Option Sill) :
    (s.writeSill k i x).blank F = s.blank F := by
  unfold State.writeSill; (try dsimp only); simp [State.blank, h_tables]

@[simp] theorem State.applySill_blank (h_tables : Field.tables ∈ F) (h_shafts : Field.shafts ∈ F) (h_shutters : Field.shutters ∈ F) (h_net : Field.net ∈ F) (s : State) (k i : Nat) (x : Option Sill) :
    (s.applySill k i x).blank F = s.blank F := by
  unfold State.applySill; (try dsimp only); simp [h_tables, h_shafts, h_shutters, h_net]

@[simp] theorem State.setupSill_blank (h_tables : Field.tables ∈ F) (h_shafts : Field.shafts ∈ F) (h_shutters : Field.shutters ∈ F) (h_net : Field.net ∈ F) (s : State) (k i : Nat) (x0 : Write SillFields) :
    (s.setupSill k i x0).1.blank F = s.blank F := by
  unfold State.setupSill; (try dsimp only); (repeat' split) <;> simp [h_tables, h_shafts, h_shutters, h_net]

@[simp] theorem State.writeSchedule_blank (h_tables : Field.tables ∈ F) (s : State) (i : Nat) (e : Option ScheduleEntry) :
    (s.writeSchedule i e).blank F = s.blank F := by
  unfold State.writeSchedule; (try dsimp only); simp [State.blank, h_tables]

@[simp] theorem State.setupSchedule_blank (h_tables : Field.tables ∈ F) (h_day : Field.day ∈ F) (s : State) (i : Nat) (x0 : Write ScheduleFields) :
    (s.setupSchedule i x0).1.blank F = s.blank F := by
  unfold State.setupSchedule; (try dsimp only); (repeat' split) <;> simp [h_tables, h_day]

@[simp] theorem State.setupPort_blank (h_tables : Field.tables ∈ F) (s : State) (p : Nat) (f : PortFields) :
    (s.setupPort p f).1.blank F = s.blank F := by
  unfold State.setupPort; (try dsimp only); (repeat' split) <;> simp [h_tables]

@[simp] theorem State.stopPreempts_blank (h_arbiters : Field.arbiters ∈ F) (s : State) :
    (s.stopPreempts).blank F = s.blank F := by
  unfold State.stopPreempts; simp [State.blank, h_arbiters]

@[simp] theorem State.setupSettings_blank (h_tables : Field.tables ∈ F) (h_arbiters : Field.arbiters ∈ F) (h_playback : Field.playback ∈ F) (h_net : Field.net ∈ F) (h_tokens : Field.tokens ∈ F) (s : State) (f : GlobalFields) :
    (s.setupSettings f).1.blank F = s.blank F := by
  unfold State.setupSettings; (try dsimp only); (repeat' split) <;> simp [h_tables, h_arbiters, h_playback, h_net, h_tokens]

@[simp] theorem State.setupNotice_blank (h_tables : Field.tables ∈ F) (h_net : Field.net ∈ F) (s : State) (n : Nat) (f : NoticeFields) :
    (s.setupNotice n f).1.blank F = s.blank F := by
  unfold State.setupNotice; (try dsimp only); (repeat' split) <;> simp [h_tables, h_net]

@[simp] theorem State.setupGlobal_blank (h_tables : Field.tables ∈ F) (h_arbiters : Field.arbiters ∈ F) (h_playback : Field.playback ∈ F) (h_net : Field.net ∈ F) (h_tokens : Field.tokens ∈ F) (s : State) (i : Nat) (x0 : GlobalWrite) :
    (s.setupGlobal i x0).1.blank F = s.blank F := by
  unfold State.setupGlobal; (repeat' split) <;> simp [h_tables, h_arbiters, h_playback, h_net, h_tokens]

@[simp] theorem State.orderPlay_blank (h_arbiters : Field.arbiters ∈ F) (h_playback : Field.playback ∈ F) (h_net : Field.net ∈ F) (h_tokens : Field.tokens ∈ F) (s : State) (x0 : Option PlayFields) :
    (s.orderPlay x0).1.blank F = s.blank F := by
  unfold State.orderPlay; (try dsimp only); (repeat' split) <;> simp [h_arbiters, h_playback, h_net, h_tokens]

@[simp] theorem State.orderPageStart_blank (h_arbiters : Field.arbiters ∈ F) (h_playback : Field.playback ∈ F) (h_net : Field.net ∈ F) (h_tokens : Field.tokens ∈ F) (s : State) (src : Addr) (x0 : Option PageFields) :
    (s.orderPageStart src x0).1.blank F = s.blank F := by
  unfold State.orderPageStart; (repeat' split) <;> simp [h_arbiters, h_playback, h_net, h_tokens]

@[simp] theorem State.orderPageEnd_blank (h_arbiters : Field.arbiters ∈ F) (h_playback : Field.playback ∈ F) (h_net : Field.net ∈ F) (h_tokens : Field.tokens ∈ F) (s : State) :
    (s.orderPageEnd).1.blank F = s.blank F := by
  unfold State.orderPageEnd; (repeat' split) <;> simp [h_arbiters, h_playback, h_net, h_tokens]

@[simp] theorem State.orderClearCalls_blank (h_calls : Field.calls ∈ F) (h_arbiters : Field.arbiters ∈ F) (h_net : Field.net ∈ F) (h_tokens : Field.tokens ∈ F) (s : State) (x0 : Option Nat) :
    (s.orderClearCalls x0).1.blank F = s.blank F := by
  unfold State.orderClearCalls; (repeat' split) <;> simp [h_calls, h_arbiters, h_net, h_tokens]

@[simp] theorem State.orderLineTest_blank (h_net : Field.net ∈ F) (s : State) (p : Nat) (t : Ticket) :
    (s.orderLineTest p t).blank F = s.blank F := by
  unfold State.orderLineTest; (repeat' split) <;> simp [h_net]

@[simp] theorem State.clearAllCounters_blank (h_stations : Field.stations ∈ F) (h_unknownSource : Field.unknownSource ∈ F) (h_mismatchDrop : Field.mismatchDrop ∈ F) (h_shafts : Field.shafts ∈ F) (h_unknownPoint : Field.unknownPoint ∈ F) (h_zones : Field.zones ∈ F) (h_shutters : Field.shutters ∈ F) (h_unknownDrive : Field.unknownDrive ∈ F) (h_calls : Field.calls ∈ F) (h_arbiters : Field.arbiters ∈ F) (h_day : Field.day ∈ F) (h_playback : Field.playback ∈ F) (h_net : Field.net ∈ F) (h_exchange : Field.exchange ∈ F) (s : State) :
    (s.clearAllCounters).blank F = s.blank F := by
  unfold State.clearAllCounters; (try dsimp only); simp [State.blank, h_stations, h_unknownSource, h_mismatchDrop, h_shafts, h_unknownPoint, h_zones, h_shutters, h_unknownDrive, h_calls, h_arbiters, h_day, h_playback, h_net, h_exchange]

@[simp] theorem State.clearSticky_blank (h_net : Field.net ∈ F) (s : State) (c : QueryCode) (clear : Bool) :
    (s.clearSticky c clear).blank F = s.blank F := by
  unfold State.clearSticky; (repeat' split) <;> simp [h_net]

@[simp] theorem State.orderQuery_blank (h_net : Field.net ∈ F) (s : State) (c : QueryCode) (i sub : Nat) (part : Option Nat) (clear : Bool) :
    (s.orderQuery c i sub part clear).1.blank F = s.blank F := by
  unfold State.orderQuery; (repeat' split) <;> simp [h_net]

@[simp] theorem State.clearLive_blank (h_inPlace : Field.inPlace ∈ F) (h_stations : Field.stations ∈ F) (h_unknownSource : Field.unknownSource ∈ F) (h_mismatchDrop : Field.mismatchDrop ∈ F) (h_shafts : Field.shafts ∈ F) (h_points : Field.points ∈ F) (h_unknownPoint : Field.unknownPoint ∈ F) (h_zones : Field.zones ∈ F) (h_shutters : Field.shutters ∈ F) (h_unknownDrive : Field.unknownDrive ∈ F) (h_calls : Field.calls ∈ F) (h_arbiters : Field.arbiters ∈ F) (h_clock : Field.clock ∈ F) (h_day : Field.day ∈ F) (h_playback : Field.playback ∈ F) (h_net : Field.net ∈ F) (h_exchange : Field.exchange ∈ F) (h_settings : Field.settings ∈ F) (s : State) :
    (s.clearLive).blank F = s.blank F := by
  unfold State.clearLive; (try dsimp only); simp [State.blank, h_inPlace, h_stations, h_unknownSource, h_mismatchDrop, h_shafts, h_points, h_unknownPoint, h_zones, h_shutters, h_unknownDrive, h_calls, h_arbiters, h_clock, h_day, h_playback, h_net, h_exchange, h_settings]

@[simp] theorem State.startZone_blank (h_zones : Field.zones ∈ F) (h_shutters : Field.shutters ∈ F) (s : State) (z : Nat) :
    (s.startZone z).blank F = s.blank F := by
  unfold State.startZone; (try dsimp only); (repeat' split) <;> simp [h_zones, h_shutters]

@[simp] theorem State.startStation_blank (h_stations : Field.stations ∈ F) (s : State) (i : Nat) :
    (s.startStation i).blank F = s.blank F := by
  unfold State.startStation; (repeat' split) <;> simp [h_stations]

@[simp] theorem State.startShaftBlock_blank (h_shafts : Field.shafts ∈ F) (h_calls : Field.calls ∈ F) (h_arbiters : Field.arbiters ∈ F) (h_day : Field.day ∈ F) (h_net : Field.net ∈ F) (h_tokens : Field.tokens ∈ F) (s : State) (k : Nat) :
    (s.startShaftBlock k).blank F = s.blank F := by
  unfold State.startShaftBlock; (try dsimp only); (repeat' split) <;> simp [h_shafts, h_calls, h_arbiters, h_day, h_net, h_tokens]

@[simp] theorem State.startBlocks_blank (h_inPlace : Field.inPlace ∈ F) (h_stations : Field.stations ∈ F) (h_shafts : Field.shafts ∈ F) (h_zones : Field.zones ∈ F) (h_shutters : Field.shutters ∈ F) (h_calls : Field.calls ∈ F) (h_arbiters : Field.arbiters ∈ F) (h_day : Field.day ∈ F) (h_playback : Field.playback ∈ F) (h_net : Field.net ∈ F) (h_tokens : Field.tokens ∈ F) (s : State) :
    (s.startBlocks).blank F = s.blank F := by
  unfold State.startBlocks; (try dsimp only); simp [h_inPlace, h_stations, h_shafts, h_zones, h_shutters, h_calls, h_arbiters, h_day, h_playback, h_net, h_tokens]

@[simp] theorem State.cutShort_blank (h_store : Field.store ∈ F) (h_draws : Field.draws ∈ F) (s : State) :
    (s.cutShort).blank F = s.blank F := by
  unfold State.cutShort; (repeat' split) <;> simp [State.blank, h_store, h_draws]

@[simp] theorem State.unload_blank (h_tables : Field.tables ∈ F) (h_inPlace : Field.inPlace ∈ F) (h_stations : Field.stations ∈ F) (h_unknownSource : Field.unknownSource ∈ F) (h_mismatchDrop : Field.mismatchDrop ∈ F) (h_shafts : Field.shafts ∈ F) (h_points : Field.points ∈ F) (h_unknownPoint : Field.unknownPoint ∈ F) (h_zones : Field.zones ∈ F) (h_shutters : Field.shutters ∈ F) (h_unknownDrive : Field.unknownDrive ∈ F) (h_calls : Field.calls ∈ F) (h_arbiters : Field.arbiters ∈ F) (h_clock : Field.clock ∈ F) (h_day : Field.day ∈ F) (h_playback : Field.playback ∈ F) (h_net : Field.net ∈ F) (h_exchange : Field.exchange ∈ F) (h_settings : Field.settings ∈ F) (h_store : Field.store ∈ F) (h_draws : Field.draws ∈ F) (s : State) :
    (s.unload).blank F = s.blank F := by
  have h : s.cutShort.clearLive.blank F = s.blank F := by simp [h_inPlace, h_stations, h_unknownSource, h_mismatchDrop, h_shafts, h_points, h_unknownPoint, h_zones, h_shutters, h_unknownDrive, h_calls, h_arbiters, h_clock, h_day, h_playback, h_net, h_exchange, h_settings, h_store, h_draws]
  rw [← h]; simp [State.unload, State.blank, h_tables, h_inPlace, h_stations, h_unknownSource, h_mismatchDrop, h_shafts, h_points, h_unknownPoint, h_zones, h_shutters, h_unknownDrive, h_calls, h_arbiters, h_clock, h_day, h_playback, h_net, h_exchange, h_settings, h_store, h_draws]

@[simp] theorem State.stampImage_blank (h_day : Field.day ∈ F) (s : State) :
    (s.stampImage).blank F = s.blank F := by
  unfold State.stampImage; (try dsimp only); simp [h_day]

@[simp] theorem State.restartNow_blank (h_inPlace : Field.inPlace ∈ F) (h_stations : Field.stations ∈ F) (h_unknownSource : Field.unknownSource ∈ F) (h_mismatchDrop : Field.mismatchDrop ∈ F) (h_shafts : Field.shafts ∈ F) (h_points : Field.points ∈ F) (h_unknownPoint : Field.unknownPoint ∈ F) (h_zones : Field.zones ∈ F) (h_shutters : Field.shutters ∈ F) (h_unknownDrive : Field.unknownDrive ∈ F) (h_calls : Field.calls ∈ F) (h_arbiters : Field.arbiters ∈ F) (h_clock : Field.clock ∈ F) (h_day : Field.day ∈ F) (h_playback : Field.playback ∈ F) (h_net : Field.net ∈ F) (h_exchange : Field.exchange ∈ F) (h_settings : Field.settings ∈ F) (h_tokens : Field.tokens ∈ F) (s : State) :
    (s.restartNow).blank F = s.blank F := by
  unfold State.restartNow; simp [h_inPlace, h_stations, h_unknownSource, h_mismatchDrop, h_shafts, h_points, h_unknownPoint, h_zones, h_shutters, h_unknownDrive, h_calls, h_arbiters, h_clock, h_day, h_playback, h_net, h_exchange, h_settings, h_tokens]

@[simp] theorem State.orderRestart_blank (h_net : Field.net ∈ F) (h_settings : Field.settings ∈ F) (s : State) (t : Ticket) :
    (s.orderRestart t).blank F = s.blank F := by
  unfold State.orderRestart; (repeat' split) <;> simp [h_net, h_settings]

@[simp] theorem State.actOnReport_blank (h_inPlace : Field.inPlace ∈ F) (h_stations : Field.stations ∈ F) (h_unknownSource : Field.unknownSource ∈ F) (h_mismatchDrop : Field.mismatchDrop ∈ F) (h_shafts : Field.shafts ∈ F) (h_points : Field.points ∈ F) (h_unknownPoint : Field.unknownPoint ∈ F) (h_zones : Field.zones ∈ F) (h_shutters : Field.shutters ∈ F) (h_unknownDrive : Field.unknownDrive ∈ F) (h_calls : Field.calls ∈ F) (h_arbiters : Field.arbiters ∈ F) (h_clock : Field.clock ∈ F) (h_day : Field.day ∈ F) (h_playback : Field.playback ∈ F) (h_net : Field.net ∈ F) (h_exchange : Field.exchange ∈ F) (h_settings : Field.settings ∈ F) (h_tokens : Field.tokens ∈ F) (s : State) (x0 : Report) :
    (s.actOnReport x0).blank F = s.blank F := by
  unfold State.actOnReport; (repeat' split) <;> simp [h_inPlace, h_stations, h_unknownSource, h_mismatchDrop, h_shafts, h_points, h_unknownPoint, h_zones, h_shutters, h_unknownDrive, h_calls, h_arbiters, h_clock, h_day, h_playback, h_net, h_exchange, h_settings, h_tokens]

@[simp] theorem State.frameSent_blank (h_inPlace : Field.inPlace ∈ F) (h_stations : Field.stations ∈ F) (h_unknownSource : Field.unknownSource ∈ F) (h_mismatchDrop : Field.mismatchDrop ∈ F) (h_shafts : Field.shafts ∈ F) (h_points : Field.points ∈ F) (h_unknownPoint : Field.unknownPoint ∈ F) (h_zones : Field.zones ∈ F) (h_shutters : Field.shutters ∈ F) (h_unknownDrive : Field.unknownDrive ∈ F) (h_calls : Field.calls ∈ F) (h_arbiters : Field.arbiters ∈ F) (h_clock : Field.clock ∈ F) (h_day : Field.day ∈ F) (h_playback : Field.playback ∈ F) (h_net : Field.net ∈ F) (h_exchange : Field.exchange ∈ F) (h_settings : Field.settings ∈ F) (h_tokens : Field.tokens ∈ F) (s : State) (p : Nat) (c : QueueClass) (f : TxFrame) :
    (s.frameSent p c f).blank F = s.blank F := by
  unfold State.frameSent; (try dsimp only); simp [h_inPlace, h_stations, h_unknownSource, h_mismatchDrop, h_shafts, h_points, h_unknownPoint, h_zones, h_shutters, h_unknownDrive, h_calls, h_arbiters, h_clock, h_day, h_playback, h_net, h_exchange, h_settings, h_tokens]

@[simp] theorem State.orderSave_blank (h_net : Field.net ∈ F) (h_settings : Field.settings ∈ F) (s : State) (t : Ticket) :
    (s.orderSave t).blank F = s.blank F := by
  unfold State.orderSave; (repeat' split) <;> simp [h_net, h_settings]

@[simp] theorem State.saveFailed_blank (h_net : Field.net ∈ F) (h_settings : Field.settings ∈ F) (s : State) (sv : Saving) (image : ImageState) :
    (s.saveFailed sv image).blank F = s.blank F := by
  unfold State.saveFailed; (try dsimp only); (repeat' split) <;> simp [h_net, h_settings]

@[simp] theorem State.orderWriteBlock_blank (h_net : Field.net ∈ F) (h_settings : Field.settings ∈ F) (s : State) (address : Option Nat) (data : List Byte) (t : Ticket) :
    (s.orderWriteBlock address data t).blank F = s.blank F := by
  unfold State.orderWriteBlock; (repeat' split) <;> simp [h_net, h_settings]

@[simp] theorem State.repeatNotice_blank (h_net : Field.net ∈ F) (s : State) (b : NoticeBody) :
    (s.repeatNotice b).blank F = s.blank F := by
  unfold State.repeatNotice; (try dsimp only); simp [State.blank, h_net]

@[simp] theorem State.stopRepeat_blank (h_net : Field.net ∈ F) (s : State) (k : NoticeKey) :
    (s.stopRepeat k).blank F = s.blank F := by
  unfold State.stopRepeat; simp [h_net]

end Sys2Proof.Machine
end

