-- ==== Sys2Proof/Laws/Tab.lean ====
section
/-! SUPPORT. Reading a table after writing it. -/

namespace Sys2Proof
namespace Tab

variable {α β : Type} {n : Nat}

@[ext] theorem ext' {t u : Tab α n} (h : t.cells = u.cells) : t = u := by
  cases t; cases u; cases h; rfl

@[simp] theorem get?_replicate (a : α) (i : Nat) : (replicate n a).get? i = if i < n then some a else none := by
  simp [get?, replicate, List.getElem?_replicate]

@[simp] theorem getD_replicate (a d : α) (i : Nat) : (replicate n a).getD i d = if i < n then a else d := by
  simp only [getD, get?_replicate]; split <;> rfl

@[simp] theorem at?_replicate_none (i : Nat) : (replicate n (none : Option α)).at? i = none := by
  simp only [at?, get?_replicate]; split <;> rfl

/-- An index inside the table names an entry. -/
theorem get?_eq_some (t : Tab α n) {i : Nat} (h : i < n) : ∃ a, t.get? i = some a := by
  have h' : i < t.cells.length := by rw [t.size_cells]; exact h
  exact ⟨t.cells[i], by simp [get?, h']⟩

/-- An index outside the table names none. -/
theorem get?_eq_none (t : Tab α n) {i : Nat} (h : n ≤ i) : t.get? i = none := by
  have h' : t.cells.length ≤ i := by rw [t.size_cells]; exact h
  simp [get?, h']

/-- An optional entry that is present has an index inside the table. -/
theorem lt_of_at? {t : Tab (Option α) n} {i : Nat} {a : α} (h : t.at? i = some a) : i < n := by
  rcases Nat.lt_or_ge i n with hi | hi
  · exact hi
  · simp [at?, t.get?_eq_none hi] at h

theorem get?_set (t : Tab α n) (i j : Nat) (a : α) :
    (t.set i a).get? j = if i = j ∧ i < n then some a else t.get? j := by
  have h := t.size_cells
  simp only [get?, set, List.getElem?_set]
  by_cases hij : i = j
  · subst hij
    by_cases hn : i < n
    · simp [h, hn]
    · have h' : t.cells.length ≤ i := by omega
      simp [h, hn]
  · simp [hij]

theorem get?_modify (t : Tab α n) (i j : Nat) (f : α → α) :
    (t.modify i f).get? j = if i = j then (t.get? j).map f else t.get? j := by
  unfold modify
  by_cases hn : i < n
  · obtain ⟨a, ha⟩ := t.get?_eq_some hn
    rw [ha]; simp only [get?_set]
    by_cases hij : i = j
    · subst hij; simp [hn, ha]
    · simp [hij]
  · rw [t.get?_eq_none (by omega)]
    by_cases hij : i = j
    · subst hij; simp [t.get?_eq_none (Nat.le_of_not_lt hn)]
    · simp [hij]

/-- Reading an entry after a change of one entry. -/
theorem getD_modify (t : Tab α n) (i j : Nat) (f : α → α) (d : α) :
    (t.modify i f).getD j d = if i = j ∧ j < n then f (t.getD j d) else t.getD j d := by
  simp only [getD, get?_modify]
  by_cases hij : i = j
  · subst hij
    by_cases hn : i < n
    · obtain ⟨a, ha⟩ := t.get?_eq_some hn
      simp [hn, ha]
    · simp [hn, t.get?_eq_none (Nat.le_of_not_lt hn)]
  · simp [hij]

/-- Reading an entry after a write of one entry. -/
theorem getD_set (t : Tab α n) (i j : Nat) (a d : α) :
    (t.set i a).getD j d = if i = j ∧ i < n then a else t.getD j d := by
  simp only [getD, get?_set]; split <;> rfl

/-- Reading an optional entry after a write of one entry. -/
theorem at?_set (t : Tab (Option α) n) (i j : Nat) (a : Option α) :
    (t.set i a).at? j = if i = j ∧ i < n then a else t.at? j := by
  simp only [at?, get?_set]; split <;> rfl

/-- Reading an optional entry after a change of one entry. -/
theorem at?_modify (t : Tab (Option α) n) (i j : Nat) (f : α → α) :
    (t.modify i (Option.map f)).at? j = if i = j then (t.at? j).map f else t.at? j := by
  simp only [at?, get?_modify]
  split
  · cases t.get? j <;> rfl
  · rfl

theorem getD_eq_of_le (t : Tab α n) {i : Nat} (h : n ≤ i) (d : α) : t.getD i d = d := by
  simp [getD, t.get?_eq_none h]

@[simp] theorem get?_map (f : α → β) (t : Tab α n) (i : Nat) : (t.map f).get? i = (t.get? i).map f := by
  simp [get?, map]

/-- Reading an entry of a table with a function applied throughout. -/
theorem getD_map (f : α → β) (t : Tab α n) (i : Nat) (d : β) (e : α) :
    (t.map f).getD i d = if i < n then f (t.getD i e) else d := by
  simp only [getD, get?_map]
  by_cases h : i < n
  · obtain ⟨a, ha⟩ := t.get?_eq_some h; simp [h, ha]
  · simp [h, t.get?_eq_none (Nat.le_of_not_lt h)]

@[simp] theorem get?_ofFn (f : Nat → α) (i : Nat) : (ofFn n f).get? i = if i < n then some (f i) else none := by
  simp only [get?, ofFn, List.getElem?_map]
  split <;> simp_all

end Tab
end Sys2Proof
end

