-- ==== Sys2Proof/Laws/Notices.lean ====
section
/-! SUPPORT. What joining the notice queue and dispatching it can do (R186), and what a notice request leaves of the
ports other than L4 and sets of the sticky flags (R185). -/

namespace Sys2Proof.Machine

/-! ### Joining -/

theorem lowestRank_le_start (ns : List Notice) (r : Nat) : ns.foldl (fun r n => min r n.severity.rank) r ≤ r := by
  induction ns generalizing r with
  | nil => exact Nat.le_refl r
  | cons n ns ih => exact Nat.le_trans (ih _) (Nat.min_le_left _ _)

theorem lowestRank_le_mem {ns : List Notice} {x : Notice} (h : x ∈ ns) (r : Nat) :
    ns.foldl (fun r n => min r n.severity.rank) r ≤ x.severity.rank := by
  induction ns generalizing r with
  | nil => cases h
  | cons n ns ih =>
    rcases List.mem_cons.1 h with rfl | h
    · exact Nat.le_trans (lowestRank_le_start ns _) (Nat.min_le_right _ _)
    · exact ih h _

theorem lowestRank_cases (ns : List Notice) (r : Nat) :
    ns.foldl (fun r n => min r n.severity.rank) r = r ∨
      ∃ x ∈ ns, ns.foldl (fun r n => min r n.severity.rank) r = x.severity.rank := by
  induction ns generalizing r with
  | nil => exact .inl rfl
  | cons n ns ih =>
    rcases ih (min r n.severity.rank) with h | ⟨x, hx, h⟩
    · rcases Nat.le_total r n.severity.rank with h' | h'
      · exact .inl (h.trans (Nat.min_eq_left h'))
      · exact .inr ⟨n, by simp, h.trans (Nat.min_eq_right h')⟩
    · exact .inr ⟨x, List.mem_cons_of_mem _ hx, h⟩

theorem Severity.rank_le (x : Severity) : x.rank ≤ 2 := by cases x <;> decide

/-- The lowest severity among notices is one of theirs. -/
theorem lowestRank_mem {ns : List Notice} (h : ns ≠ []) : ∃ x ∈ ns, lowestRank ns = x.severity.rank := by
  rcases lowestRank_cases ns 2 with h' | h'
  · obtain ⟨n, ns, rfl⟩ := List.exists_cons_of_ne_nil h
    exact ⟨n, by simp, Nat.le_antisymm (lowestRank_le_mem (by simp) 2) (h'.ge.trans' n.severity.rank_le)⟩
  · exact h'

/-- Dropping the oldest notice of a severity takes one notice out, none of that severity standing before it. -/
theorem dropOldest_split {r : Nat} {ns : List Notice} (h : ∃ x ∈ ns, r = x.severity.rank) :
    ∃ a x b, ns = a ++ x :: b ∧ dropOldest r ns = a ++ b ∧ x.severity.rank = r ∧ ∀ y ∈ a, y.severity.rank ≠ r := by
  induction ns with
  | nil => obtain ⟨x, hx, -⟩ := h; cases hx
  | cons n ns ih =>
    by_cases hn : n.severity.rank = r
    · exact ⟨[], n, ns, rfl, by simp [dropOldest, hn], hn, by simp⟩
    · obtain ⟨x, hx, hr⟩ := h
      have hx' : x ∈ ns := by
        rcases List.mem_cons.1 hx with rfl | hx
        · exact absurd hr.symm hn
        · exact hx
      obtain ⟨a, y, b, rfl, h2, h3, h4⟩ := ih ⟨x, hx', hr⟩
      exact ⟨n :: a, y, b, rfl, by simp [dropOldest, hn, h2], h3, by simpa [hn] using h4⟩

/-- What a notice that joins makes of the notice queue (R186). -/
theorem Management.joined_join (m : Management) (n : Notice) : m.Joined (m.join n) n := by
  refine ⟨fun h => by simp [Management.join, Config.noticeSize, h], fun h => ?_⟩
  obtain ⟨a, x, b, h1, h2, h3, h4⟩ := dropOldest_split (lowestRank_mem (ns := m.queue ++ [n]) (by simp))
  refine ⟨a, x, b, h1, ?_, fun y hy => h3 ▸ lowestRank_le_mem hy 2, fun y hy e => h4 y hy (e ▸ h3)⟩
  simp [Management.join, Config.noticeSize, Nat.not_lt.2 h, h2]

/-! ### Dispatching -/

/-- A NORMAL frame offered to a port in UP with room joins its queue. -/
theorem Port.offer_normal {p : Port} (f : TxFrame) (h : p.state = .up) (hr : p.normal.length < 16) :
    (p.offer .normal f).state = .up ∧ (p.offer .normal f).normal = p.normal ++ [f] ∧
      (p.offer .normal f).safety = p.safety ∧ (p.offer .normal f).stream = p.stream ∧
      (p.offer .normal f).counters = p.counters := by
  simp only [Port.offer, h, Config.normalSize, hr, if_true, Port.pick]
  (repeat' split) <;> simp_all

/-- NORMAL frames offered to a port in UP with room for all of them join its queue in their order. -/
theorem Port.offer_all (fs : List TxFrame) {p : Port} (h : p.state = .up) (hr : p.normal.length + fs.length ≤ 16) :
    (fs.foldl (fun p f => p.offer .normal f) p).state = .up ∧
      (fs.foldl (fun p f => p.offer .normal f) p).normal = p.normal ++ fs ∧
      (fs.foldl (fun p f => p.offer .normal f) p).safety = p.safety ∧
      (fs.foldl (fun p f => p.offer .normal f) p).stream = p.stream ∧
      (fs.foldl (fun p f => p.offer .normal f) p).counters = p.counters := by
  induction fs generalizing p with
  | nil => simp [h]
  | cons f fs ih =>
    simp only [List.length_cons] at hr
    obtain ⟨a, b, c, d, e⟩ := Port.offer_normal f h (by omega)
    obtain ⟨a', b', c', d', e'⟩ := ih a (by simp [b]; omega)
    simp only [List.foldl_cons]
    exact ⟨a', by simp [b', b], c'.trans c, d'.trans d, e'.trans e⟩

theorem bumpBy_zero (c : Nat) : bumpBy 0 c = c := by simp only [bumpBy]; split <;> omega

theorem bumpBy_succ (k c : Nat) : bumpBy k (bump c) = bumpBy (k + 1) c := by
  simp only [bumpBy, bump]; (repeat' split) <;> omega

/-- The net with a notice queue in place of its own. -/
def Net.withQueue (n : Net) (qs : List Notice) : Net := { n with mgmt := { n.mgmt with queue := qs } }

/-- The net once the head notice has left for the addresses of its route. -/
def Net.sendHead (g : Global) (q : Notice) (n : Net) : Net :=
  { ports := n.ports.modify 4 fun p => ((noticeDests g q.route).map (noticeFrame g q)).foldl (fun p f => p.offer .normal f) p
    mgmt := if (noticeDests g q.route).map (noticeFrame g q) = [] then
        { n.mgmt with noticeLost := bump n.mgmt.noticeLost } else n.mgmt }

theorem dispatchFrom_sends {g : Global} {q : Notice} {rest : List Notice} {n : Net} (hu : (n.ports.getD 4 {}).state = .up)
    (hr : (n.ports.getD 4 {}).normal.length + (noticeDests g q.route).length ≤ 16) :
    dispatchFrom g (q :: rest) n = dispatchFrom g rest (n.sendHead g q) := by
  rw [dispatchFrom, if_pos (by simpa [Config.officePort, Config.normalSize, hu] using hr)]; rfl

theorem dispatchFrom_waits {g : Global} {q : Notice} {rest : List Notice} {n : Net}
    (h : (n.ports.getD 4 {}).state = .up → 16 < (n.ports.getD 4 {}).normal.length + (noticeDests g q.route).length) :
    dispatchFrom g (q :: rest) n = n.withQueue (q :: rest) := by
  rw [dispatchFrom, if_neg (by
    rintro ⟨hu, hr⟩; have := h hu
    simp [Config.officePort, Config.normalSize] at hr; omega)]; rfl

/-- What the dispatch of a queue makes of the ports and the notice queue (R186). -/
theorem dispatched_dispatchFrom (g : Global) (qs : List Notice) (n : Net) :
    (n.withQueue qs).Dispatched g (dispatchFrom g qs n) := by
  induction qs generalizing n with
  | nil =>
    refine ⟨fun _ => rfl, fun _ => ⟨[], [], rfl, ?_⟩⟩
    simp [dispatchFrom, Net.withQueue, bumpBy_zero]
  | cons q rest ih =>
    by_cases h : (n.ports.getD 4 {}).state = .up ∧ (n.ports.getD 4 {}).normal.length + (noticeDests g q.route).length ≤ 16
    · obtain ⟨hu, hr⟩ := h
      rw [dispatchFrom_sends hu hr]
      obtain ⟨p1, p2, p3, p4, p5⟩ := Port.offer_all ((noticeDests g q.route).map (noticeFrame g q)) hu (by simpa using hr)
      have h4 : (n.sendHead g q).ports.getD 4 {} =
          ((noticeDests g q.route).map (noticeFrame g q)).foldl (fun p f => p.offer .normal f) (n.ports.getD 4 {}) := by
        simp [Net.sendHead, Tab.getD_modify]
      have ho : ∀ p < 4, (n.sendHead g q).ports.getD p {} = n.ports.getD p {} := by
        intro p hp; simp only [Net.sendHead, Tab.getD_modify]; rw [if_neg (by omega)]
      refine ⟨fun h' => absurd hu h', fun _ => ?_⟩
      obtain ⟨sent, kept, e1, e2, e3, e4, e5, e6, e7, e8, e9⟩ := (ih (n.sendHead g q)).2 (by
        simp only [Net.withQueue]; rw [h4]; exact p1)
      simp only [Net.withQueue, h4, p2, p3, p4, p5] at e1 e2 e3 e4 e5 e6 e7 e8
      refine ⟨q :: sent, kept, by simp [Net.withQueue, e1], ?_, ?_, ?_, e5, e6, e7, fun p hp => (e8 p hp).trans (ho p hp), e9⟩
      · rw [e2]
        by_cases hd : noticeDests g q.route = []
        · simp [Net.sendHead, Net.withQueue, hd, bumpBy_succ]
        · simp [Net.sendHead, Net.withQueue, hd]
      · simpa [Net.withQueue] using e3
      · simp only [Net.withQueue]
        simp only [List.length_append, List.length_map] at e4
        omega
    · rw [dispatchFrom_waits (fun hu => by have := not_and.1 h hu; omega)]
      refine ⟨fun _ => rfl, fun hu => ⟨[], q :: rest, rfl, ?_⟩⟩
      simp only [Net.withQueue] at hu ⊢
      have := not_and.1 h hu
      simp [bumpBy_zero]
      omega

/-- What the dispatch makes of the ports and the notice queue (R186). -/
theorem Net.dispatched_dispatch (g : Global) (n : Net) : n.Dispatched g (n.dispatch g) :=
  dispatched_dispatchFrom g n.mgmt.queue n

/-- The dispatch leaves every port but L4 alone. -/
theorem Net.dispatch_port (g : Global) (n : Net) {q : Nat} (hq : q < 4) :
    (n.dispatch g).ports.getD q {} = n.ports.getD q {} := by
  have h := n.dispatched_dispatch g
  by_cases hu : (n.ports.getD 4 {}).state = .up
  · obtain ⟨_, _, _, _, _, _, _, _, _, h, _⟩ := h.2 hu
    exact h q hq
  · rw [h.1 hu]

/-- The dispatch leaves the sticky request flags alone. -/
@[simp] theorem Net.dispatch_sticky (g : Global) (n : Net) : (n.dispatch g).mgmt.sticky = n.mgmt.sticky := by
  have h := n.dispatched_dispatch g
  by_cases hu : (n.ports.getD 4 {}).state = .up
  · obtain ⟨_, _, _, h, _⟩ := h.2 hu
    rw [h]
  · rw [h.1 hu]

/-! ### Requesting -/

/-- Building a notice leaves the sticky request flags alone. -/
@[simp] theorem Management.build_sticky (m : Management) (c : NoticeCfg) (b : NoticeBody) :
    (m.build c b).sticky = m.sticky := by
  unfold Management.build Management.join
  dsimp only
  split <;> rfl

/-- A notice request leaves every port but L4 alone. -/
theorem Net.request_port (t : Tables) (now : Micros) (b : NoticeBody) (n : Net) {q : Nat} (hq : q < 4) :
    (n.request t now b).ports.getD q {} = n.ports.getD q {} := by
  unfold Net.request
  dsimp only
  split
  · rw [Net.dispatch_port _ _ hq]
  · rfl

/-- A notice request sets the sticky flag of its kind, whatever the enable, and no other (R185). -/
@[simp] theorem Net.request_sticky (t : Tables) (now : Micros) (b : NoticeBody) (n : Net) :
    (n.request t now b).mgmt.sticky = setSticky n.mgmt.sticky b.key.kind := by
  unfold Net.request
  dsimp only
  split
  · rw [Net.dispatch_sticky]
    dsimp only
    split <;> simp [Management.startRepeat]
  · rfl

/-- A notice request of a block leaves every port but L4 alone. -/
theorem State.notify_port (s : State) (b : NoticeBody) {q : Nat} (hq : q < 4) : (s.notify b).port q = s.port q :=
  Net.request_port s.tables s.now b s.net hq

end Sys2Proof.Machine
end

