-- ==== Sys2Proof/Laws/Playback.lean ====
section
/-! SUPPORT. What emitting a block of samples can do (R152), and what that makes of a block of the page (R153, R162). -/

namespace Sys2Proof.Machine

/-- A STREAM frame is never refused as SAFETY is, so offering one changes its port and nothing else (R172). -/
theorem State.offer_stream (s : State) (p : Nat) (f : TxFrame) :
    s.offer p .stream f = s.modPort p fun x => x.offer .stream f := by
  simp [State.offer, Port.refusesSafety]

/-- A change of one port leaves the others. -/
theorem State.modPort_port (s : State) (p q : Nat) (f : Port → Port) (h : p < 5) :
    (s.modPort p f).port q = if p = q then f (s.port q) else s.port q := by
  unfold State.port State.modPort
  dsimp only
  rw [Tab.getD_modify]
  grind

/-- The ports that follow a channel are the home ports of the PRESENT speakers tuned to it (R151, R152). -/
theorem State.portFollows_iff (s : State) (c : Chan) (q : Nat) : s.portFollows c q = true ↔
    ∃ i x, s.station i = some x ∧ x.role = .speaker ∧ x.homePort = q ∧ s.isPresent i = true ∧ s.speakerChan i = c := by
  simp only [State.portFollows, State.stationsOf, indicesWhere, List.any_eq_true, List.mem_filter, List.mem_range,
    Bool.and_eq_true, decide_eq_true_eq, Option.any_eq_true]
  constructor
  · rintro ⟨i, ⟨-, x, hx, hr⟩, ⟨h1, h2⟩, y, hy, h3⟩
    rw [hx] at hy
    cases hy
    exact ⟨i, x, hx, hr, h3, h1, h2⟩
  · rintro ⟨i, x, hx, hr, h3, h1, h2⟩
    exact ⟨i, ⟨Tab.lt_of_at? hx, x, hx, hr⟩, ⟨h1, h2⟩, x, hx, h3⟩

/-- Emitting a block changes ports only. -/
theorem State.emit_eq (s : State) (c : Chan) (g : Addr) (b : Nat) (xs : List Sample) :
    ∃ ports, s.emit c g b xs = { s with net := { s.net with ports := ports } } := by
  unfold State.emit State.forEach
  generalize List.filter _ _ = is
  induction is using List.reverseRecOn with
  | nil => exact ⟨_, rfl⟩
  | append_singleton is i ih =>
    obtain ⟨n, h⟩ := ih
    rw [List.foldl_append, h]
    exact ⟨_, State.offer_stream _ _ _⟩

/-- Emitting a block offers its frame once to each port that follows the channel, and leaves the other ports (R152). -/
theorem State.emit_port (s : State) (c : Chan) (g : Addr) (b : Nat) (xs : List Sample) {q : Nat} (hq : q < 5) :
    (s.emit c g b xs).port q =
      if s.portFollows c q then
        (s.port q).offer .stream
          { dest := g, src := s.globals.own, kind := Kind.samples, payload := .raw (samplesPayload b xs) }
      else s.port q := by
  unfold State.emit State.forEach
  have key : ∀ (is : List Nat) (u : State), is.Nodup → (∀ i ∈ is, i < 5) → u.globals = s.globals →
      (is.foldl (fun s p => s.offer p .stream
        { dest := g, src := s.globals.own, kind := Kind.samples, payload := .raw (samplesPayload b xs) }) u).port q =
      if q ∈ is then
        (u.port q).offer .stream
          { dest := g, src := s.globals.own, kind := Kind.samples, payload := .raw (samplesPayload b xs) }
      else u.port q := by
    intro is
    induction is with
    | nil => intros; simp
    | cons i is ih =>
      intro u hn hl hg
      obtain ⟨hi, hn⟩ := List.nodup_cons.1 hn
      rw [List.foldl_cons, State.offer_stream, ih (u.modPort i _) hn (fun j hj => hl j (by simp [hj])) hg,
        State.modPort_port _ _ _ _ (hl i (by simp)), hg]
      by_cases h : i = q
      · subst h; simp [hi]
      · simp [h, Ne.symm h]
  rw [key _ _ (List.nodup_range.filter _) (by simp; omega) rfl]
  simp [hq]

/-- A state with the ports that emitting a page block leaves has that block sent. -/
theorem State.pageBlockSent_of_emit {s t : State} {block ramped : Nat} {xs : List Sample}
    (h : ∀ q < 5, t.port q = (s.emit .page pageGroup block (pageOutput s.playback.page.gain ramped xs)).port q) :
    s.PageBlockSent t block ramped xs := by
  intro q hq
  rw [h q hq, State.emit_port _ _ _ _ _ hq]
  refine ⟨fun hf => if_pos ((State.portFollows_iff _ _ _).2 hf), fun hf => if_neg ?_⟩
  rw [State.portFollows_iff]
  rintro ⟨i, x, hx, hr, hp, hi, hc⟩
  exact hf i x hx hr hp hi hc

end Sys2Proof.Machine
end

