-- ==== Sys2Proof/Laws/Requests.lean ====
section
/-! SUPPORT. What taking a frame or a request can do, and the small lemmas of a divided return, of the settings image and of a
command given up. -/

namespace Sys2Proof.Machine

/-! ### Frames and requests taken -/

/-- Without a frame of its own at the head of the intake queue a step changes nothing. -/
theorem State.onFrame_none {s : State} {want : FrameStep} (h : s.headFor want = none) (job : State → Received → State) :
    s.onFrame want job = s := by simp [State.onFrame, State.onHead, h]

/-- A tapped frame that the Station Table lets through goes to its job. -/
theorem State.onFrame_tapped {s : State} {want : FrameStep} {r : Received} (h : Tapped s want r)
    (job : State → Received → State) : s.onFrame want job = job (s.takeHead r) r := by
  simp [State.onFrame, State.onHead, h.head, h.passed, h.length]

/-- Without a request at the head, or with one that names another object, a step changes nothing. -/
theorem State.onRequest_none {s : State} {want : FrameStep} {object : Option Nat} (h : s.requestFor want object = none)
    (act : State → Ticket → State) : s.onRequest want object act = s := by simp [State.onRequest, State.onHead, h]

/-- What taking the head of the intake queue can change. -/
theorem State.takeHead_changes (s : State) (r : Received) :
    ChangesOnly [.stations, .unknownSource, .shafts, .points, .zones, .shutters, .calls, .arbiters, .playback, .net,
      .exchange, .tokens] s (s.takeHead r) :=
  State.takeHead_blank (by simp) (by simp) (by simp) (by simp) (by simp) (by simp) (by simp) (by simp) (by simp) (by simp)
    (by simp) (by simp) s r

/-- Taking the head of the intake queue leaves the settings alone. -/
@[simp] theorem State.takeHead_settings (s : State) (r : Received) : (s.takeHead r).settings = s.settings := by
  simpa [ChangesOnly, State.blank] using congrArg State.settings (s.takeHead_changes r)

/-- Taking the head of the intake queue leaves the loaded tables alone. -/
@[simp] theorem State.takeHead_tables (s : State) (r : Received) : (s.takeHead r).tables = s.tables := by
  simpa [ChangesOnly, State.blank] using congrArg State.tables (s.takeHead_changes r)

/-- A kind with a fixed length is not that of a request. -/
theorem tappedStep_fixedLength {kind : Byte} {payload : List Byte}
    (h : tappedStep kind payload ∈ [FrameStep.setup, .query, .order]) : fixedLength kind = none := by
  unfold tappedStep at h
  unfold fixedLength
  iterate 4 (split at h; · simp at h)
  split at h
  · split at h <;> simp at h
  iterate 2 (split at h; · simp at h)
  simp only [if_neg, *, not_false_eq_true]

/-- The frames that SETUP, QUERY and ORDER take are of a kind without a fixed length. -/
theorem State.headFor_goodLength {s : State} {want : FrameStep} {r : Received}
    (hw : want ∈ [FrameStep.setup, .query, .order]) (h : s.headFor want = some r) : r.frame.goodLength = true := by
  have hs : frameStep s.globals.own r.frame = want := by
    unfold State.headFor at h
    split at h
    · split at h
      · simp_all
      · cases h
    · cases h
  subst hs
  unfold frameStep at hw
  split at hw
  · simp at hw
  split at hw
  · simp [Frame.goodLength, tappedStep_fixedLength hw]
  · simp at hw

/-- A request that reaches the block it addresses is carried out on the state that taking its frame leaves. -/
theorem State.onRequest_accepted {s : State} {want : FrameStep} {object : Option Nat} {r : Received}
    (hw : want ∈ [FrameStep.setup, .query, .order]) (h : Accepted s want object r) (act : State → Ticket → State) :
    s.onRequest want object act = act (s.takeHead r) r.ticket := by
  have hl : r.frame.goodLength = true := by
    refine State.headFor_goodLength (s := s) hw ?_
    have := h.head
    unfold State.requestFor at this
    exact (Option.filter_eq_some_iff.1 this).1
  have hc : (s.takeHead r).fromConsole r.frame.src = true := by
    have hc := h.console
    simp only [State.fromConsole, State.globals, State.takeHead_tables] at hc ⊢
    exact hc
  simp [State.onRequest, State.onHead, h.head, h.passed, hl, State.judgeRequest, h.office, hc, State.restartHolds,
    h.noRestart, Received.ticket, Nat.not_lt.2 h.header]

/-! ### A divided return -/

/-- A return has at least one part. -/
theorem QueryData.parts_pos (d : QueryData) : 0 < d.parts := by unfold QueryData.parts; split <;> omega

/-- A return that fits one payload is not divided. -/
theorem QueryData.parts_of_fitsOne {d : QueryData} (h : d.fitsOne = true) : d.parts = 1 := by simp [QueryData.parts, h]

/-- A return that fits one payload is carried whole. -/
theorem QueryData.part_of_fitsOne {d : QueryData} (h : d.fitsOne = true) (k : Nat) : d.part k = .data d := by
  simp [QueryData.part, QueryData.parts_of_fitsOne h]

/-! ### The settings image -/

/-- What a save of some tables leaves behind agrees with its checksum. -/
@[simp] theorem Eeprom.agrees_holding (t : Tables) : (Eeprom.holding t).agrees = true := by
  simp [Eeprom.agrees, Eeprom.holding]

/-- An invalidated checksum does not agree. -/
@[simp] theorem Eeprom.agrees_spoilt (e : Eeprom) : e.spoilt.agrees = false := by
  have h : ∀ x : BitVec 16, ~~~x ≠ x := by intro x; bv_omega
  simp [Eeprom.agrees, Eeprom.spoilt, h]

@[simp] theorem Eeprom.spoilt_tables (e : Eeprom) : e.spoilt.tables = e.tables := rfl
@[simp] theorem Eeprom.spoilt_marker (e : Eeprom) : e.spoilt.marker = e.marker := rfl
@[simp] theorem Eeprom.spoilt_body (e : Eeprom) : e.spoilt.body = e.body := rfl
@[simp] theorem Eeprom.holding_tables (t : Tables) : (Eeprom.holding t).tables = t := rfl

/-! ### A command given up -/

@[simp] theorem ShutterLive.dropCommand_command (x : ShutterLive) : x.dropCommand.command = none := by
  unfold ShutterLive.dropCommand; split <;> simp_all
@[simp] theorem ShutterLive.dropCommand_state (x : ShutterLive) : x.dropCommand.state = x.state := by
  unfold ShutterLive.dropCommand; split <;> rfl
@[simp] theorem ShutterLive.dropCommand_faults (x : ShutterLive) : x.dropCommand.faults = x.faults := by
  unfold ShutterLive.dropCommand; split <;> rfl
@[simp] theorem ShutterLive.dropCommand_lastReport (x : ShutterLive) : x.dropCommand.lastReport = x.lastReport := by
  unfold ShutterLive.dropCommand; split <;> rfl

end Sys2Proof.Machine
end

