-- ==== Sys2Proof/Laws/State.lean ====
section
/-! SUPPORT. One lemma for each field of the state under each of its updates: the field updated reads as what was written,
and every other field reads as before. -/

namespace Sys2Proof.Machine

variable (s : State)

/-! ### `modStation` -/

@[simp] theorem State.modStation_tables (i : Nat) (f : StationLive → StationLive) : (s.modStation i f).tables = s.tables := rfl
@[simp] theorem State.modStation_inPlace (i : Nat) (f : StationLive → StationLive) : (s.modStation i f).inPlace = s.inPlace := rfl
@[simp] theorem State.modStation_stations (i : Nat) (f : StationLive → StationLive) : (s.modStation i f).stations = s.stations.modify i f := rfl
@[simp] theorem State.modStation_unknownSource (i : Nat) (f : StationLive → StationLive) : (s.modStation i f).unknownSource = s.unknownSource := rfl
@[simp] theorem State.modStation_mismatchDrop (i : Nat) (f : StationLive → StationLive) : (s.modStation i f).mismatchDrop = s.mismatchDrop := rfl
@[simp] theorem State.modStation_shafts (i : Nat) (f : StationLive → StationLive) : (s.modStation i f).shafts = s.shafts := rfl
@[simp] theorem State.modStation_points (i : Nat) (f : StationLive → StationLive) : (s.modStation i f).points = s.points := rfl
@[simp] theorem State.modStation_unknownPoint (i : Nat) (f : StationLive → StationLive) : (s.modStation i f).unknownPoint = s.unknownPoint := rfl
@[simp] theorem State.modStation_zones (i : Nat) (f : StationLive → StationLive) : (s.modStation i f).zones = s.zones := rfl
@[simp] theorem State.modStation_shutters (i : Nat) (f : StationLive → StationLive) : (s.modStation i f).shutters = s.shutters := rfl
@[simp] theorem State.modStation_unknownDrive (i : Nat) (f : StationLive → StationLive) : (s.modStation i f).unknownDrive = s.unknownDrive := rfl
@[simp] theorem State.modStation_calls (i : Nat) (f : StationLive → StationLive) : (s.modStation i f).calls = s.calls := rfl
@[simp] theorem State.modStation_arbiters (i : Nat) (f : StationLive → StationLive) : (s.modStation i f).arbiters = s.arbiters := rfl
@[simp] theorem State.modStation_clock (i : Nat) (f : StationLive → StationLive) : (s.modStation i f).clock = s.clock := rfl
@[simp] theorem State.modStation_day (i : Nat) (f : StationLive → StationLive) : (s.modStation i f).day = s.day := rfl
@[simp] theorem State.modStation_playback (i : Nat) (f : StationLive → StationLive) : (s.modStation i f).playback = s.playback := rfl
@[simp] theorem State.modStation_net (i : Nat) (f : StationLive → StationLive) : (s.modStation i f).net = s.net := rfl
@[simp] theorem State.modStation_exchange (i : Nat) (f : StationLive → StationLive) : (s.modStation i f).exchange = s.exchange := rfl
@[simp] theorem State.modStation_settings (i : Nat) (f : StationLive → StationLive) : (s.modStation i f).settings = s.settings := rfl
@[simp] theorem State.modStation_store (i : Nat) (f : StationLive → StationLive) : (s.modStation i f).store = s.store := rfl
@[simp] theorem State.modStation_pending (i : Nat) (f : StationLive → StationLive) : (s.modStation i f).pending = s.pending := rfl
@[simp] theorem State.modStation_now (i : Nat) (f : StationLive → StationLive) : (s.modStation i f).now = s.now := rfl
@[simp] theorem State.modStation_draws (i : Nat) (f : StationLive → StationLive) : (s.modStation i f).draws = s.draws := rfl
@[simp] theorem State.modStation_tokens (i : Nat) (f : StationLive → StationLive) : (s.modStation i f).tokens = s.tokens := rfl

/-! ### `modPoint` -/

@[simp] theorem State.modPoint_tables (i : Nat) (f : PointLive → PointLive) : (s.modPoint i f).tables = s.tables := rfl
@[simp] theorem State.modPoint_inPlace (i : Nat) (f : PointLive → PointLive) : (s.modPoint i f).inPlace = s.inPlace := rfl
@[simp] theorem State.modPoint_stations (i : Nat) (f : PointLive → PointLive) : (s.modPoint i f).stations = s.stations := rfl
@[simp] theorem State.modPoint_unknownSource (i : Nat) (f : PointLive → PointLive) : (s.modPoint i f).unknownSource = s.unknownSource := rfl
@[simp] theorem State.modPoint_mismatchDrop (i : Nat) (f : PointLive → PointLive) : (s.modPoint i f).mismatchDrop = s.mismatchDrop := rfl
@[simp] theorem State.modPoint_shafts (i : Nat) (f : PointLive → PointLive) : (s.modPoint i f).shafts = s.shafts := rfl
@[simp] theorem State.modPoint_points (i : Nat) (f : PointLive → PointLive) : (s.modPoint i f).points = s.points.modify i f := rfl
@[simp] theorem State.modPoint_unknownPoint (i : Nat) (f : PointLive → PointLive) : (s.modPoint i f).unknownPoint = s.unknownPoint := rfl
@[simp] theorem State.modPoint_zones (i : Nat) (f : PointLive → PointLive) : (s.modPoint i f).zones = s.zones := rfl
@[simp] theorem State.modPoint_shutters (i : Nat) (f : PointLive → PointLive) : (s.modPoint i f).shutters = s.shutters := rfl
@[simp] theorem State.modPoint_unknownDrive (i : Nat) (f : PointLive → PointLive) : (s.modPoint i f).unknownDrive = s.unknownDrive := rfl
@[simp] theorem State.modPoint_calls (i : Nat) (f : PointLive → PointLive) : (s.modPoint i f).calls = s.calls := rfl
@[simp] theorem State.modPoint_arbiters (i : Nat) (f : PointLive → PointLive) : (s.modPoint i f).arbiters = s.arbiters := rfl
@[simp] theorem State.modPoint_clock (i : Nat) (f : PointLive → PointLive) : (s.modPoint i f).clock = s.clock := rfl
@[simp] theorem State.modPoint_day (i : Nat) (f : PointLive → PointLive) : (s.modPoint i f).day = s.day := rfl
@[simp] theorem State.modPoint_playback (i : Nat) (f : PointLive → PointLive) : (s.modPoint i f).playback = s.playback := rfl
@[simp] theorem State.modPoint_net (i : Nat) (f : PointLive → PointLive) : (s.modPoint i f).net = s.net := rfl
@[simp] theorem State.modPoint_exchange (i : Nat) (f : PointLive → PointLive) : (s.modPoint i f).exchange = s.exchange := rfl
@[simp] theorem State.modPoint_settings (i : Nat) (f : PointLive → PointLive) : (s.modPoint i f).settings = s.settings := rfl
@[simp] theorem State.modPoint_store (i : Nat) (f : PointLive → PointLive) : (s.modPoint i f).store = s.store := rfl
@[simp] theorem State.modPoint_pending (i : Nat) (f : PointLive → PointLive) : (s.modPoint i f).pending = s.pending := rfl
@[simp] theorem State.modPoint_now (i : Nat) (f : PointLive → PointLive) : (s.modPoint i f).now = s.now := rfl
@[simp] theorem State.modPoint_draws (i : Nat) (f : PointLive → PointLive) : (s.modPoint i f).draws = s.draws := rfl
@[simp] theorem State.modPoint_tokens (i : Nat) (f : PointLive → PointLive) : (s.modPoint i f).tokens = s.tokens := rfl

/-! ### `modZone` -/

@[simp] theorem State.modZone_tables (z : Nat) (f : ZoneLive → ZoneLive) : (s.modZone z f).tables = s.tables := rfl
@[simp] theorem State.modZone_inPlace (z : Nat) (f : ZoneLive → ZoneLive) : (s.modZone z f).inPlace = s.inPlace := rfl
@[simp] theorem State.modZone_stations (z : Nat) (f : ZoneLive → ZoneLive) : (s.modZone z f).stations = s.stations := rfl
@[simp] theorem State.modZone_unknownSource (z : Nat) (f : ZoneLive → ZoneLive) : (s.modZone z f).unknownSource = s.unknownSource := rfl
@[simp] theorem State.modZone_mismatchDrop (z : Nat) (f : ZoneLive → ZoneLive) : (s.modZone z f).mismatchDrop = s.mismatchDrop := rfl
@[simp] theorem State.modZone_shafts (z : Nat) (f : ZoneLive → ZoneLive) : (s.modZone z f).shafts = s.shafts := rfl
@[simp] theorem State.modZone_points (z : Nat) (f : ZoneLive → ZoneLive) : (s.modZone z f).points = s.points := rfl
@[simp] theorem State.modZone_unknownPoint (z : Nat) (f : ZoneLive → ZoneLive) : (s.modZone z f).unknownPoint = s.unknownPoint := rfl
@[simp] theorem State.modZone_zones (z : Nat) (f : ZoneLive → ZoneLive) : (s.modZone z f).zones = s.zones.modify z f := rfl
@[simp] theorem State.modZone_shutters (z : Nat) (f : ZoneLive → ZoneLive) : (s.modZone z f).shutters = s.shutters := rfl
@[simp] theorem State.modZone_unknownDrive (z : Nat) (f : ZoneLive → ZoneLive) : (s.modZone z f).unknownDrive = s.unknownDrive := rfl
@[simp] theorem State.modZone_calls (z : Nat) (f : ZoneLive → ZoneLive) : (s.modZone z f).calls = s.calls := rfl
@[simp] theorem State.modZone_arbiters (z : Nat) (f : ZoneLive → ZoneLive) : (s.modZone z f).arbiters = s.arbiters := rfl
@[simp] theorem State.modZone_clock (z : Nat) (f : ZoneLive → ZoneLive) : (s.modZone z f).clock = s.clock := rfl
@[simp] theorem State.modZone_day (z : Nat) (f : ZoneLive → ZoneLive) : (s.modZone z f).day = s.day := rfl
@[simp] theorem State.modZone_playback (z : Nat) (f : ZoneLive → ZoneLive) : (s.modZone z f).playback = s.playback := rfl
@[simp] theorem State.modZone_net (z : Nat) (f : ZoneLive → ZoneLive) : (s.modZone z f).net = s.net := rfl
@[simp] theorem State.modZone_exchange (z : Nat) (f : ZoneLive → ZoneLive) : (s.modZone z f).exchange = s.exchange := rfl
@[simp] theorem State.modZone_settings (z : Nat) (f : ZoneLive → ZoneLive) : (s.modZone z f).settings = s.settings := rfl
@[simp] theorem State.modZone_store (z : Nat) (f : ZoneLive → ZoneLive) : (s.modZone z f).store = s.store := rfl
@[simp] theorem State.modZone_pending (z : Nat) (f : ZoneLive → ZoneLive) : (s.modZone z f).pending = s.pending := rfl
@[simp] theorem State.modZone_now (z : Nat) (f : ZoneLive → ZoneLive) : (s.modZone z f).now = s.now := rfl
@[simp] theorem State.modZone_draws (z : Nat) (f : ZoneLive → ZoneLive) : (s.modZone z f).draws = s.draws := rfl
@[simp] theorem State.modZone_tokens (z : Nat) (f : ZoneLive → ZoneLive) : (s.modZone z f).tokens = s.tokens := rfl

/-! ### `modShutter` -/

@[simp] theorem State.modShutter_tables (i : Nat) (f : ShutterLive → ShutterLive) : (s.modShutter i f).tables = s.tables := rfl
@[simp] theorem State.modShutter_inPlace (i : Nat) (f : ShutterLive → ShutterLive) : (s.modShutter i f).inPlace = s.inPlace := rfl
@[simp] theorem State.modShutter_stations (i : Nat) (f : ShutterLive → ShutterLive) : (s.modShutter i f).stations = s.stations := rfl
@[simp] theorem State.modShutter_unknownSource (i : Nat) (f : ShutterLive → ShutterLive) : (s.modShutter i f).unknownSource = s.unknownSource := rfl
@[simp] theorem State.modShutter_mismatchDrop (i : Nat) (f : ShutterLive → ShutterLive) : (s.modShutter i f).mismatchDrop = s.mismatchDrop := rfl
@[simp] theorem State.modShutter_shafts (i : Nat) (f : ShutterLive → ShutterLive) : (s.modShutter i f).shafts = s.shafts := rfl
@[simp] theorem State.modShutter_points (i : Nat) (f : ShutterLive → ShutterLive) : (s.modShutter i f).points = s.points := rfl
@[simp] theorem State.modShutter_unknownPoint (i : Nat) (f : ShutterLive → ShutterLive) : (s.modShutter i f).unknownPoint = s.unknownPoint := rfl
@[simp] theorem State.modShutter_zones (i : Nat) (f : ShutterLive → ShutterLive) : (s.modShutter i f).zones = s.zones := rfl
@[simp] theorem State.modShutter_shutters (i : Nat) (f : ShutterLive → ShutterLive) : (s.modShutter i f).shutters = s.shutters.modify i f := rfl
@[simp] theorem State.modShutter_unknownDrive (i : Nat) (f : ShutterLive → ShutterLive) : (s.modShutter i f).unknownDrive = s.unknownDrive := rfl
@[simp] theorem State.modShutter_calls (i : Nat) (f : ShutterLive → ShutterLive) : (s.modShutter i f).calls = s.calls := rfl
@[simp] theorem State.modShutter_arbiters (i : Nat) (f : ShutterLive → ShutterLive) : (s.modShutter i f).arbiters = s.arbiters := rfl
@[simp] theorem State.modShutter_clock (i : Nat) (f : ShutterLive → ShutterLive) : (s.modShutter i f).clock = s.clock := rfl
@[simp] theorem State.modShutter_day (i : Nat) (f : ShutterLive → ShutterLive) : (s.modShutter i f).day = s.day := rfl
@[simp] theorem State.modShutter_playback (i : Nat) (f : ShutterLive → ShutterLive) : (s.modShutter i f).playback = s.playback := rfl
@[simp] theorem State.modShutter_net (i : Nat) (f : ShutterLive → ShutterLive) : (s.modShutter i f).net = s.net := rfl
@[simp] theorem State.modShutter_exchange (i : Nat) (f : ShutterLive → ShutterLive) : (s.modShutter i f).exchange = s.exchange := rfl
@[simp] theorem State.modShutter_settings (i : Nat) (f : ShutterLive → ShutterLive) : (s.modShutter i f).settings = s.settings := rfl
@[simp] theorem State.modShutter_store (i : Nat) (f : ShutterLive → ShutterLive) : (s.modShutter i f).store = s.store := rfl
@[simp] theorem State.modShutter_pending (i : Nat) (f : ShutterLive → ShutterLive) : (s.modShutter i f).pending = s.pending := rfl
@[simp] theorem State.modShutter_now (i : Nat) (f : ShutterLive → ShutterLive) : (s.modShutter i f).now = s.now := rfl
@[simp] theorem State.modShutter_draws (i : Nat) (f : ShutterLive → ShutterLive) : (s.modShutter i f).draws = s.draws := rfl
@[simp] theorem State.modShutter_tokens (i : Nat) (f : ShutterLive → ShutterLive) : (s.modShutter i f).tokens = s.tokens := rfl

/-! ### `modShaft` -/

@[simp] theorem State.modShaft_tables (k : Nat) (f : Shaft → Shaft) : (s.modShaft k f).tables = s.tables := rfl
@[simp] theorem State.modShaft_inPlace (k : Nat) (f : Shaft → Shaft) : (s.modShaft k f).inPlace = s.inPlace := rfl
@[simp] theorem State.modShaft_stations (k : Nat) (f : Shaft → Shaft) : (s.modShaft k f).stations = s.stations := rfl
@[simp] theorem State.modShaft_unknownSource (k : Nat) (f : Shaft → Shaft) : (s.modShaft k f).unknownSource = s.unknownSource := rfl
@[simp] theorem State.modShaft_mismatchDrop (k : Nat) (f : Shaft → Shaft) : (s.modShaft k f).mismatchDrop = s.mismatchDrop := rfl
@[simp] theorem State.modShaft_shafts (k : Nat) (f : Shaft → Shaft) : (s.modShaft k f).shafts = s.shafts.modify k f := rfl
@[simp] theorem State.modShaft_points (k : Nat) (f : Shaft → Shaft) : (s.modShaft k f).points = s.points := rfl
@[simp] theorem State.modShaft_unknownPoint (k : Nat) (f : Shaft → Shaft) : (s.modShaft k f).unknownPoint = s.unknownPoint := rfl
@[simp] theorem State.modShaft_zones (k : Nat) (f : Shaft → Shaft) : (s.modShaft k f).zones = s.zones := rfl
@[simp] theorem State.modShaft_shutters (k : Nat) (f : Shaft → Shaft) : (s.modShaft k f).shutters = s.shutters := rfl
@[simp] theorem State.modShaft_unknownDrive (k : Nat) (f : Shaft → Shaft) : (s.modShaft k f).unknownDrive = s.unknownDrive := rfl
@[simp] theorem State.modShaft_calls (k : Nat) (f : Shaft → Shaft) : (s.modShaft k f).calls = s.calls := rfl
@[simp] theorem State.modShaft_arbiters (k : Nat) (f : Shaft → Shaft) : (s.modShaft k f).arbiters = s.arbiters := rfl
@[simp] theorem State.modShaft_clock (k : Nat) (f : Shaft → Shaft) : (s.modShaft k f).clock = s.clock := rfl
@[simp] theorem State.modShaft_day (k : Nat) (f : Shaft → Shaft) : (s.modShaft k f).day = s.day := rfl
@[simp] theorem State.modShaft_playback (k : Nat) (f : Shaft → Shaft) : (s.modShaft k f).playback = s.playback := rfl
@[simp] theorem State.modShaft_net (k : Nat) (f : Shaft → Shaft) : (s.modShaft k f).net = s.net := rfl
@[simp] theorem State.modShaft_exchange (k : Nat) (f : Shaft → Shaft) : (s.modShaft k f).exchange = s.exchange := rfl
@[simp] theorem State.modShaft_settings (k : Nat) (f : Shaft → Shaft) : (s.modShaft k f).settings = s.settings := rfl
@[simp] theorem State.modShaft_store (k : Nat) (f : Shaft → Shaft) : (s.modShaft k f).store = s.store := rfl
@[simp] theorem State.modShaft_pending (k : Nat) (f : Shaft → Shaft) : (s.modShaft k f).pending = s.pending := rfl
@[simp] theorem State.modShaft_now (k : Nat) (f : Shaft → Shaft) : (s.modShaft k f).now = s.now := rfl
@[simp] theorem State.modShaft_draws (k : Nat) (f : Shaft → Shaft) : (s.modShaft k f).draws = s.draws := rfl
@[simp] theorem State.modShaft_tokens (k : Nat) (f : Shaft → Shaft) : (s.modShaft k f).tokens = s.tokens := rfl

/-! ### `modArbiter` -/

@[simp] theorem State.modArbiter_tables (i : Nat) (f : Arbiter → Arbiter) : (s.modArbiter i f).tables = s.tables := rfl
@[simp] theorem State.modArbiter_inPlace (i : Nat) (f : Arbiter → Arbiter) : (s.modArbiter i f).inPlace = s.inPlace := rfl
@[simp] theorem State.modArbiter_stations (i : Nat) (f : Arbiter → Arbiter) : (s.modArbiter i f).stations = s.stations := rfl
@[simp] theorem State.modArbiter_unknownSource (i : Nat) (f : Arbiter → Arbiter) : (s.modArbiter i f).unknownSource = s.unknownSource := rfl
@[simp] theorem State.modArbiter_mismatchDrop (i : Nat) (f : Arbiter → Arbiter) : (s.modArbiter i f).mismatchDrop = s.mismatchDrop := rfl
@[simp] theorem State.modArbiter_shafts (i : Nat) (f : Arbiter → Arbiter) : (s.modArbiter i f).shafts = s.shafts := rfl
@[simp] theorem State.modArbiter_points (i : Nat) (f : Arbiter → Arbiter) : (s.modArbiter i f).points = s.points := rfl
@[simp] theorem State.modArbiter_unknownPoint (i : Nat) (f : Arbiter → Arbiter) : (s.modArbiter i f).unknownPoint = s.unknownPoint := rfl
@[simp] theorem State.modArbiter_zones (i : Nat) (f : Arbiter → Arbiter) : (s.modArbiter i f).zones = s.zones := rfl
@[simp] theorem State.modArbiter_shutters (i : Nat) (f : Arbiter → Arbiter) : (s.modArbiter i f).shutters = s.shutters := rfl
@[simp] theorem State.modArbiter_unknownDrive (i : Nat) (f : Arbiter → Arbiter) : (s.modArbiter i f).unknownDrive = s.unknownDrive := rfl
@[simp] theorem State.modArbiter_calls (i : Nat) (f : Arbiter → Arbiter) : (s.modArbiter i f).calls = s.calls := rfl
@[simp] theorem State.modArbiter_arbiters (i : Nat) (f : Arbiter → Arbiter) : (s.modArbiter i f).arbiters = s.arbiters.modify i (Option.map f) := rfl
@[simp] theorem State.modArbiter_clock (i : Nat) (f : Arbiter → Arbiter) : (s.modArbiter i f).clock = s.clock := rfl
@[simp] theorem State.modArbiter_day (i : Nat) (f : Arbiter → Arbiter) : (s.modArbiter i f).day = s.day := rfl
@[simp] theorem State.modArbiter_playback (i : Nat) (f : Arbiter → Arbiter) : (s.modArbiter i f).playback = s.playback := rfl
@[simp] theorem State.modArbiter_net (i : Nat) (f : Arbiter → Arbiter) : (s.modArbiter i f).net = s.net := rfl
@[simp] theorem State.modArbiter_exchange (i : Nat) (f : Arbiter → Arbiter) : (s.modArbiter i f).exchange = s.exchange := rfl
@[simp] theorem State.modArbiter_settings (i : Nat) (f : Arbiter → Arbiter) : (s.modArbiter i f).settings = s.settings := rfl
@[simp] theorem State.modArbiter_store (i : Nat) (f : Arbiter → Arbiter) : (s.modArbiter i f).store = s.store := rfl
@[simp] theorem State.modArbiter_pending (i : Nat) (f : Arbiter → Arbiter) : (s.modArbiter i f).pending = s.pending := rfl
@[simp] theorem State.modArbiter_now (i : Nat) (f : Arbiter → Arbiter) : (s.modArbiter i f).now = s.now := rfl
@[simp] theorem State.modArbiter_draws (i : Nat) (f : Arbiter → Arbiter) : (s.modArbiter i f).draws = s.draws := rfl
@[simp] theorem State.modArbiter_tokens (i : Nat) (f : Arbiter → Arbiter) : (s.modArbiter i f).tokens = s.tokens := rfl

/-! ### `modCalls` -/

@[simp] theorem State.modCalls_tables (f : Calls → Calls) : (s.modCalls f).tables = s.tables := rfl
@[simp] theorem State.modCalls_inPlace (f : Calls → Calls) : (s.modCalls f).inPlace = s.inPlace := rfl
@[simp] theorem State.modCalls_stations (f : Calls → Calls) : (s.modCalls f).stations = s.stations := rfl
@[simp] theorem State.modCalls_unknownSource (f : Calls → Calls) : (s.modCalls f).unknownSource = s.unknownSource := rfl
@[simp] theorem State.modCalls_mismatchDrop (f : Calls → Calls) : (s.modCalls f).mismatchDrop = s.mismatchDrop := rfl
@[simp] theorem State.modCalls_shafts (f : Calls → Calls) : (s.modCalls f).shafts = s.shafts := rfl
@[simp] theorem State.modCalls_points (f : Calls → Calls) : (s.modCalls f).points = s.points := rfl
@[simp] theorem State.modCalls_unknownPoint (f : Calls → Calls) : (s.modCalls f).unknownPoint = s.unknownPoint := rfl
@[simp] theorem State.modCalls_zones (f : Calls → Calls) : (s.modCalls f).zones = s.zones := rfl
@[simp] theorem State.modCalls_shutters (f : Calls → Calls) : (s.modCalls f).shutters = s.shutters := rfl
@[simp] theorem State.modCalls_unknownDrive (f : Calls → Calls) : (s.modCalls f).unknownDrive = s.unknownDrive := rfl
@[simp] theorem State.modCalls_calls (f : Calls → Calls) : (s.modCalls f).calls = f s.calls := rfl
@[simp] theorem State.modCalls_arbiters (f : Calls → Calls) : (s.modCalls f).arbiters = s.arbiters := rfl
@[simp] theorem State.modCalls_clock (f : Calls → Calls) : (s.modCalls f).clock = s.clock := rfl
@[simp] theorem State.modCalls_day (f : Calls → Calls) : (s.modCalls f).day = s.day := rfl
@[simp] theorem State.modCalls_playback (f : Calls → Calls) : (s.modCalls f).playback = s.playback := rfl
@[simp] theorem State.modCalls_net (f : Calls → Calls) : (s.modCalls f).net = s.net := rfl
@[simp] theorem State.modCalls_exchange (f : Calls → Calls) : (s.modCalls f).exchange = s.exchange := rfl
@[simp] theorem State.modCalls_settings (f : Calls → Calls) : (s.modCalls f).settings = s.settings := rfl
@[simp] theorem State.modCalls_store (f : Calls → Calls) : (s.modCalls f).store = s.store := rfl
@[simp] theorem State.modCalls_pending (f : Calls → Calls) : (s.modCalls f).pending = s.pending := rfl
@[simp] theorem State.modCalls_now (f : Calls → Calls) : (s.modCalls f).now = s.now := rfl
@[simp] theorem State.modCalls_draws (f : Calls → Calls) : (s.modCalls f).draws = s.draws := rfl
@[simp] theorem State.modCalls_tokens (f : Calls → Calls) : (s.modCalls f).tokens = s.tokens := rfl

/-! ### `modPlayback` -/

@[simp] theorem State.modPlayback_tables (f : Playback → Playback) : (s.modPlayback f).tables = s.tables := rfl
@[simp] theorem State.modPlayback_inPlace (f : Playback → Playback) : (s.modPlayback f).inPlace = s.inPlace := rfl
@[simp] theorem State.modPlayback_stations (f : Playback → Playback) : (s.modPlayback f).stations = s.stations := rfl
@[simp] theorem State.modPlayback_unknownSource (f : Playback → Playback) : (s.modPlayback f).unknownSource = s.unknownSource := rfl
@[simp] theorem State.modPlayback_mismatchDrop (f : Playback → Playback) : (s.modPlayback f).mismatchDrop = s.mismatchDrop := rfl
@[simp] theorem State.modPlayback_shafts (f : Playback → Playback) : (s.modPlayback f).shafts = s.shafts := rfl
@[simp] theorem State.modPlayback_points (f : Playback → Playback) : (s.modPlayback f).points = s.points := rfl
@[simp] theorem State.modPlayback_unknownPoint (f : Playback → Playback) : (s.modPlayback f).unknownPoint = s.unknownPoint := rfl
@[simp] theorem State.modPlayback_zones (f : Playback → Playback) : (s.modPlayback f).zones = s.zones := rfl
@[simp] theorem State.modPlayback_shutters (f : Playback → Playback) : (s.modPlayback f).shutters = s.shutters := rfl
@[simp] theorem State.modPlayback_unknownDrive (f : Playback → Playback) : (s.modPlayback f).unknownDrive = s.unknownDrive := rfl
@[simp] theorem State.modPlayback_calls (f : Playback → Playback) : (s.modPlayback f).calls = s.calls := rfl
@[simp] theorem State.modPlayback_arbiters (f : Playback → Playback) : (s.modPlayback f).arbiters = s.arbiters := rfl
@[simp] theorem State.modPlayback_clock (f : Playback → Playback) : (s.modPlayback f).clock = s.clock := rfl
@[simp] theorem State.modPlayback_day (f : Playback → Playback) : (s.modPlayback f).day = s.day := rfl
@[simp] theorem State.modPlayback_playback (f : Playback → Playback) : (s.modPlayback f).playback = f s.playback := rfl
@[simp] theorem State.modPlayback_net (f : Playback → Playback) : (s.modPlayback f).net = s.net := rfl
@[simp] theorem State.modPlayback_exchange (f : Playback → Playback) : (s.modPlayback f).exchange = s.exchange := rfl
@[simp] theorem State.modPlayback_settings (f : Playback → Playback) : (s.modPlayback f).settings = s.settings := rfl
@[simp] theorem State.modPlayback_store (f : Playback → Playback) : (s.modPlayback f).store = s.store := rfl
@[simp] theorem State.modPlayback_pending (f : Playback → Playback) : (s.modPlayback f).pending = s.pending := rfl
@[simp] theorem State.modPlayback_now (f : Playback → Playback) : (s.modPlayback f).now = s.now := rfl
@[simp] theorem State.modPlayback_draws (f : Playback → Playback) : (s.modPlayback f).draws = s.draws := rfl
@[simp] theorem State.modPlayback_tokens (f : Playback → Playback) : (s.modPlayback f).tokens = s.tokens := rfl

/-! ### `modDay` -/

@[simp] theorem State.modDay_tables (f : Day → Day) : (s.modDay f).tables = s.tables := rfl
@[simp] theorem State.modDay_inPlace (f : Day → Day) : (s.modDay f).inPlace = s.inPlace := rfl
@[simp] theorem State.modDay_stations (f : Day → Day) : (s.modDay f).stations = s.stations := rfl
@[simp] theorem State.modDay_unknownSource (f : Day → Day) : (s.modDay f).unknownSource = s.unknownSource := rfl
@[simp] theorem State.modDay_mismatchDrop (f : Day → Day) : (s.modDay f).mismatchDrop = s.mismatchDrop := rfl
@[simp] theorem State.modDay_shafts (f : Day → Day) : (s.modDay f).shafts = s.shafts := rfl
@[simp] theorem State.modDay_points (f : Day → Day) : (s.modDay f).points = s.points := rfl
@[simp] theorem State.modDay_unknownPoint (f : Day → Day) : (s.modDay f).unknownPoint = s.unknownPoint := rfl
@[simp] theorem State.modDay_zones (f : Day → Day) : (s.modDay f).zones = s.zones := rfl
@[simp] theorem State.modDay_shutters (f : Day → Day) : (s.modDay f).shutters = s.shutters := rfl
@[simp] theorem State.modDay_unknownDrive (f : Day → Day) : (s.modDay f).unknownDrive = s.unknownDrive := rfl
@[simp] theorem State.modDay_calls (f : Day → Day) : (s.modDay f).calls = s.calls := rfl
@[simp] theorem State.modDay_arbiters (f : Day → Day) : (s.modDay f).arbiters = s.arbiters := rfl
@[simp] theorem State.modDay_clock (f : Day → Day) : (s.modDay f).clock = s.clock := rfl
@[simp] theorem State.modDay_day (f : Day → Day) : (s.modDay f).day = f s.day := rfl
@[simp] theorem State.modDay_playback (f : Day → Day) : (s.modDay f).playback = s.playback := rfl
@[simp] theorem State.modDay_net (f : Day → Day) : (s.modDay f).net = s.net := rfl
@[simp] theorem State.modDay_exchange (f : Day → Day) : (s.modDay f).exchange = s.exchange := rfl
@[simp] theorem State.modDay_settings (f : Day → Day) : (s.modDay f).settings = s.settings := rfl
@[simp] theorem State.modDay_store (f : Day → Day) : (s.modDay f).store = s.store := rfl
@[simp] theorem State.modDay_pending (f : Day → Day) : (s.modDay f).pending = s.pending := rfl
@[simp] theorem State.modDay_now (f : Day → Day) : (s.modDay f).now = s.now := rfl
@[simp] theorem State.modDay_draws (f : Day → Day) : (s.modDay f).draws = s.draws := rfl
@[simp] theorem State.modDay_tokens (f : Day → Day) : (s.modDay f).tokens = s.tokens := rfl

/-! ### `modClock` -/

@[simp] theorem State.modClock_tables (f : Clock → Clock) : (s.modClock f).tables = s.tables := rfl
@[simp] theorem State.modClock_inPlace (f : Clock → Clock) : (s.modClock f).inPlace = s.inPlace := rfl
@[simp] theorem State.modClock_stations (f : Clock → Clock) : (s.modClock f).stations = s.stations := rfl
@[simp] theorem State.modClock_unknownSource (f : Clock → Clock) : (s.modClock f).unknownSource = s.unknownSource := rfl
@[simp] theorem State.modClock_mismatchDrop (f : Clock → Clock) : (s.modClock f).mismatchDrop = s.mismatchDrop := rfl
@[simp] theorem State.modClock_shafts (f : Clock → Clock) : (s.modClock f).shafts = s.shafts := rfl
@[simp] theorem State.modClock_points (f : Clock → Clock) : (s.modClock f).points = s.points := rfl
@[simp] theorem State.modClock_unknownPoint (f : Clock → Clock) : (s.modClock f).unknownPoint = s.unknownPoint := rfl
@[simp] theorem State.modClock_zones (f : Clock → Clock) : (s.modClock f).zones = s.zones := rfl
@[simp] theorem State.modClock_shutters (f : Clock → Clock) : (s.modClock f).shutters = s.shutters := rfl
@[simp] theorem State.modClock_unknownDrive (f : Clock → Clock) : (s.modClock f).unknownDrive = s.unknownDrive := rfl
@[simp] theorem State.modClock_calls (f : Clock → Clock) : (s.modClock f).calls = s.calls := rfl
@[simp] theorem State.modClock_arbiters (f : Clock → Clock) : (s.modClock f).arbiters = s.arbiters := rfl
@[simp] theorem State.modClock_clock (f : Clock → Clock) : (s.modClock f).clock = f s.clock := rfl
@[simp] theorem State.modClock_day (f : Clock → Clock) : (s.modClock f).day = s.day := rfl
@[simp] theorem State.modClock_playback (f : Clock → Clock) : (s.modClock f).playback = s.playback := rfl
@[simp] theorem State.modClock_net (f : Clock → Clock) : (s.modClock f).net = s.net := rfl
@[simp] theorem State.modClock_exchange (f : Clock → Clock) : (s.modClock f).exchange = s.exchange := rfl
@[simp] theorem State.modClock_settings (f : Clock → Clock) : (s.modClock f).settings = s.settings := rfl
@[simp] theorem State.modClock_store (f : Clock → Clock) : (s.modClock f).store = s.store := rfl
@[simp] theorem State.modClock_pending (f : Clock → Clock) : (s.modClock f).pending = s.pending := rfl
@[simp] theorem State.modClock_now (f : Clock → Clock) : (s.modClock f).now = s.now := rfl
@[simp] theorem State.modClock_draws (f : Clock → Clock) : (s.modClock f).draws = s.draws := rfl
@[simp] theorem State.modClock_tokens (f : Clock → Clock) : (s.modClock f).tokens = s.tokens := rfl

/-! ### `modSettings` -/

@[simp] theorem State.modSettings_tables (f : Settings → Settings) : (s.modSettings f).tables = s.tables := rfl
@[simp] theorem State.modSettings_inPlace (f : Settings → Settings) : (s.modSettings f).inPlace = s.inPlace := rfl
@[simp] theorem State.modSettings_stations (f : Settings → Settings) : (s.modSettings f).stations = s.stations := rfl
@[simp] theorem State.modSettings_unknownSource (f : Settings → Settings) : (s.modSettings f).unknownSource = s.unknownSource := rfl
@[simp] theorem State.modSettings_mismatchDrop (f : Settings → Settings) : (s.modSettings f).mismatchDrop = s.mismatchDrop := rfl
@[simp] theorem State.modSettings_shafts (f : Settings → Settings) : (s.modSettings f).shafts = s.shafts := rfl
@[simp] theorem State.modSettings_points (f : Settings → Settings) : (s.modSettings f).points = s.points := rfl
@[simp] theorem State.modSettings_unknownPoint (f : Settings → Settings) : (s.modSettings f).unknownPoint = s.unknownPoint := rfl
@[simp] theorem State.modSettings_zones (f : Settings → Settings) : (s.modSettings f).zones = s.zones := rfl
@[simp] theorem State.modSettings_shutters (f : Settings → Settings) : (s.modSettings f).shutters = s.shutters := rfl
@[simp] theorem State.modSettings_unknownDrive (f : Settings → Settings) : (s.modSettings f).unknownDrive = s.unknownDrive := rfl
@[simp] theorem State.modSettings_calls (f : Settings → Settings) : (s.modSettings f).calls = s.calls := rfl
@[simp] theorem State.modSettings_arbiters (f : Settings → Settings) : (s.modSettings f).arbiters = s.arbiters := rfl
@[simp] theorem State.modSettings_clock (f : Settings → Settings) : (s.modSettings f).clock = s.clock := rfl
@[simp] theorem State.modSettings_day (f : Settings → Settings) : (s.modSettings f).day = s.day := rfl
@[simp] theorem State.modSettings_playback (f : Settings → Settings) : (s.modSettings f).playback = s.playback := rfl
@[simp] theorem State.modSettings_net (f : Settings → Settings) : (s.modSettings f).net = s.net := rfl
@[simp] theorem State.modSettings_exchange (f : Settings → Settings) : (s.modSettings f).exchange = s.exchange := rfl
@[simp] theorem State.modSettings_settings (f : Settings → Settings) : (s.modSettings f).settings = f s.settings := rfl
@[simp] theorem State.modSettings_store (f : Settings → Settings) : (s.modSettings f).store = s.store := rfl
@[simp] theorem State.modSettings_pending (f : Settings → Settings) : (s.modSettings f).pending = s.pending := rfl
@[simp] theorem State.modSettings_now (f : Settings → Settings) : (s.modSettings f).now = s.now := rfl
@[simp] theorem State.modSettings_draws (f : Settings → Settings) : (s.modSettings f).draws = s.draws := rfl
@[simp] theorem State.modSettings_tokens (f : Settings → Settings) : (s.modSettings f).tokens = s.tokens := rfl

/-! ### `modPort` -/

@[simp] theorem State.modPort_tables (p : Nat) (f : Port → Port) : (s.modPort p f).tables = s.tables := rfl
@[simp] theorem State.modPort_inPlace (p : Nat) (f : Port → Port) : (s.modPort p f).inPlace = s.inPlace := rfl
@[simp] theorem State.modPort_stations (p : Nat) (f : Port → Port) : (s.modPort p f).stations = s.stations := rfl
@[simp] theorem State.modPort_unknownSource (p : Nat) (f : Port → Port) : (s.modPort p f).unknownSource = s.unknownSource := rfl
@[simp] theorem State.modPort_mismatchDrop (p : Nat) (f : Port → Port) : (s.modPort p f).mismatchDrop = s.mismatchDrop := rfl
@[simp] theorem State.modPort_shafts (p : Nat) (f : Port → Port) : (s.modPort p f).shafts = s.shafts := rfl
@[simp] theorem State.modPort_points (p : Nat) (f : Port → Port) : (s.modPort p f).points = s.points := rfl
@[simp] theorem State.modPort_unknownPoint (p : Nat) (f : Port → Port) : (s.modPort p f).unknownPoint = s.unknownPoint := rfl
@[simp] theorem State.modPort_zones (p : Nat) (f : Port → Port) : (s.modPort p f).zones = s.zones := rfl
@[simp] theorem State.modPort_shutters (p : Nat) (f : Port → Port) : (s.modPort p f).shutters = s.shutters := rfl
@[simp] theorem State.modPort_unknownDrive (p : Nat) (f : Port → Port) : (s.modPort p f).unknownDrive = s.unknownDrive := rfl
@[simp] theorem State.modPort_calls (p : Nat) (f : Port → Port) : (s.modPort p f).calls = s.calls := rfl
@[simp] theorem State.modPort_arbiters (p : Nat) (f : Port → Port) : (s.modPort p f).arbiters = s.arbiters := rfl
@[simp] theorem State.modPort_clock (p : Nat) (f : Port → Port) : (s.modPort p f).clock = s.clock := rfl
@[simp] theorem State.modPort_day (p : Nat) (f : Port → Port) : (s.modPort p f).day = s.day := rfl
@[simp] theorem State.modPort_playback (p : Nat) (f : Port → Port) : (s.modPort p f).playback = s.playback := rfl
@[simp] theorem State.modPort_net (p : Nat) (f : Port → Port) : (s.modPort p f).net = { s.net with ports := s.net.ports.modify p f } := rfl
@[simp] theorem State.modPort_exchange (p : Nat) (f : Port → Port) : (s.modPort p f).exchange = s.exchange := rfl
@[simp] theorem State.modPort_settings (p : Nat) (f : Port → Port) : (s.modPort p f).settings = s.settings := rfl
@[simp] theorem State.modPort_store (p : Nat) (f : Port → Port) : (s.modPort p f).store = s.store := rfl
@[simp] theorem State.modPort_pending (p : Nat) (f : Port → Port) : (s.modPort p f).pending = s.pending := rfl
@[simp] theorem State.modPort_now (p : Nat) (f : Port → Port) : (s.modPort p f).now = s.now := rfl
@[simp] theorem State.modPort_draws (p : Nat) (f : Port → Port) : (s.modPort p f).draws = s.draws := rfl
@[simp] theorem State.modPort_tokens (p : Nat) (f : Port → Port) : (s.modPort p f).tokens = s.tokens := rfl

/-! ### `modMgmt` -/

@[simp] theorem State.modMgmt_tables (f : Management → Management) : (s.modMgmt f).tables = s.tables := rfl
@[simp] theorem State.modMgmt_inPlace (f : Management → Management) : (s.modMgmt f).inPlace = s.inPlace := rfl
@[simp] theorem State.modMgmt_stations (f : Management → Management) : (s.modMgmt f).stations = s.stations := rfl
@[simp] theorem State.modMgmt_unknownSource (f : Management → Management) : (s.modMgmt f).unknownSource = s.unknownSource := rfl
@[simp] theorem State.modMgmt_mismatchDrop (f : Management → Management) : (s.modMgmt f).mismatchDrop = s.mismatchDrop := rfl
@[simp] theorem State.modMgmt_shafts (f : Management → Management) : (s.modMgmt f).shafts = s.shafts := rfl
@[simp] theorem State.modMgmt_points (f : Management → Management) : (s.modMgmt f).points = s.points := rfl
@[simp] theorem State.modMgmt_unknownPoint (f : Management → Management) : (s.modMgmt f).unknownPoint = s.unknownPoint := rfl
@[simp] theorem State.modMgmt_zones (f : Management → Management) : (s.modMgmt f).zones = s.zones := rfl
@[simp] theorem State.modMgmt_shutters (f : Management → Management) : (s.modMgmt f).shutters = s.shutters := rfl
@[simp] theorem State.modMgmt_unknownDrive (f : Management → Management) : (s.modMgmt f).unknownDrive = s.unknownDrive := rfl
@[simp] theorem State.modMgmt_calls (f : Management → Management) : (s.modMgmt f).calls = s.calls := rfl
@[simp] theorem State.modMgmt_arbiters (f : Management → Management) : (s.modMgmt f).arbiters = s.arbiters := rfl
@[simp] theorem State.modMgmt_clock (f : Management → Management) : (s.modMgmt f).clock = s.clock := rfl
@[simp] theorem State.modMgmt_day (f : Management → Management) : (s.modMgmt f).day = s.day := rfl
@[simp] theorem State.modMgmt_playback (f : Management → Management) : (s.modMgmt f).playback = s.playback := rfl
@[simp] theorem State.modMgmt_net (f : Management → Management) : (s.modMgmt f).net = { s.net with mgmt := f s.net.mgmt } := rfl
@[simp] theorem State.modMgmt_exchange (f : Management → Management) : (s.modMgmt f).exchange = s.exchange := rfl
@[simp] theorem State.modMgmt_settings (f : Management → Management) : (s.modMgmt f).settings = s.settings := rfl
@[simp] theorem State.modMgmt_store (f : Management → Management) : (s.modMgmt f).store = s.store := rfl
@[simp] theorem State.modMgmt_pending (f : Management → Management) : (s.modMgmt f).pending = s.pending := rfl
@[simp] theorem State.modMgmt_now (f : Management → Management) : (s.modMgmt f).now = s.now := rfl
@[simp] theorem State.modMgmt_draws (f : Management → Management) : (s.modMgmt f).draws = s.draws := rfl
@[simp] theorem State.modMgmt_tokens (f : Management → Management) : (s.modMgmt f).tokens = s.tokens := rfl

/-! ### `Clock.count` -/

@[simp] theorem Clock.count_valid (c : Clock) (n : Nat) : (c.count n).valid = c.valid := by
  unfold Clock.count; split <;> rfl
@[simp] theorem Clock.count_seconds (c : Clock) (n : Nat) : (c.count n).seconds = c.seconds := by
  unfold Clock.count; split <;> rfl
@[simp] theorem Clock.count_minutes (c : Clock) (n : Nat) : (c.count n).minutes = c.minutes := by
  unfold Clock.count; split <;> rfl
@[simp] theorem Clock.count_hours (c : Clock) (n : Nat) : (c.count n).hours = c.hours := by
  unfold Clock.count; split <;> rfl
@[simp] theorem Clock.count_weekday (c : Clock) (n : Nat) : (c.count n).weekday = c.weekday := by
  unfold Clock.count; split <;> rfl
@[simp] theorem Clock.count_day (c : Clock) (n : Nat) : (c.count n).day = c.day := by
  unfold Clock.count; split <;> rfl
@[simp] theorem Clock.count_period (c : Clock) (n : Nat) : (c.count n).period = c.period := by
  unfold Clock.count; split <;> rfl
@[simp] theorem Clock.count_trimDirection (c : Clock) (n : Nat) : (c.count n).trimDirection = c.trimDirection := by
  unfold Clock.count; split <;> rfl
@[simp] theorem Clock.count_trimInterval (c : Clock) (n : Nat) : (c.count n).trimInterval = c.trimInterval := by
  unfold Clock.count; split <;> rfl
@[simp] theorem Clock.count_trimCount (c : Clock) (n : Nat) : (c.count n).trimCount = c.trimCount := by
  unfold Clock.count; split <;> rfl
@[simp] theorem Clock.count_step (c : Clock) (n : Nat) : (c.count n).step = c.step := by
  unfold Clock.count; split <;> rfl
@[simp] theorem Clock.count_running (c : Clock) (n : Nat) : (c.count n).running = c.running := by
  unfold Clock.count; split <;> rfl

/-! ### `reach` -/

@[simp] theorem State.reach_tables (t : Micros) : (s.reach t).tables = s.tables := rfl
@[simp] theorem State.reach_inPlace (t : Micros) : (s.reach t).inPlace = s.inPlace := rfl
@[simp] theorem State.reach_stations (t : Micros) : (s.reach t).stations = s.stations := rfl
@[simp] theorem State.reach_unknownSource (t : Micros) : (s.reach t).unknownSource = s.unknownSource := rfl
@[simp] theorem State.reach_mismatchDrop (t : Micros) : (s.reach t).mismatchDrop = s.mismatchDrop := rfl
@[simp] theorem State.reach_shafts (t : Micros) : (s.reach t).shafts = s.shafts := rfl
@[simp] theorem State.reach_points (t : Micros) : (s.reach t).points = s.points := rfl
@[simp] theorem State.reach_unknownPoint (t : Micros) : (s.reach t).unknownPoint = s.unknownPoint := rfl
@[simp] theorem State.reach_zones (t : Micros) : (s.reach t).zones = s.zones := rfl
@[simp] theorem State.reach_shutters (t : Micros) : (s.reach t).shutters = s.shutters := rfl
@[simp] theorem State.reach_unknownDrive (t : Micros) : (s.reach t).unknownDrive = s.unknownDrive := rfl
@[simp] theorem State.reach_calls (t : Micros) : (s.reach t).calls = s.calls := rfl
@[simp] theorem State.reach_arbiters (t : Micros) : (s.reach t).arbiters = s.arbiters := rfl
@[simp] theorem State.reach_clock (t : Micros) :
    (s.reach t).clock = s.clock.count (Config.crystalCycles (max s.now t) - Config.crystalCycles s.now) := rfl
@[simp] theorem State.reach_day (t : Micros) : (s.reach t).day = s.day := rfl
@[simp] theorem State.reach_playback (t : Micros) : (s.reach t).playback = s.playback := rfl
@[simp] theorem State.reach_net (t : Micros) : (s.reach t).net = s.net := rfl
@[simp] theorem State.reach_exchange (t : Micros) : (s.reach t).exchange = s.exchange := rfl
@[simp] theorem State.reach_settings (t : Micros) : (s.reach t).settings = s.settings := rfl
@[simp] theorem State.reach_store (t : Micros) : (s.reach t).store = s.store := rfl
@[simp] theorem State.reach_pending (t : Micros) : (s.reach t).pending = s.pending := rfl
@[simp] theorem State.reach_now (t : Micros) : (s.reach t).now = max s.now t := rfl
@[simp] theorem State.reach_draws (t : Micros) : (s.reach t).draws = s.draws := rfl
@[simp] theorem State.reach_tokens (t : Micros) : (s.reach t).tokens = s.tokens := rfl

/-! ### `notify` -/

@[simp] theorem State.notify_tables (b : NoticeBody) : (s.notify b).tables = s.tables := rfl
@[simp] theorem State.notify_inPlace (b : NoticeBody) : (s.notify b).inPlace = s.inPlace := rfl
@[simp] theorem State.notify_stations (b : NoticeBody) : (s.notify b).stations = s.stations := rfl
@[simp] theorem State.notify_unknownSource (b : NoticeBody) : (s.notify b).unknownSource = s.unknownSource := rfl
@[simp] theorem State.notify_mismatchDrop (b : NoticeBody) : (s.notify b).mismatchDrop = s.mismatchDrop := rfl
@[simp] theorem State.notify_shafts (b : NoticeBody) : (s.notify b).shafts = s.shafts := rfl
@[simp] theorem State.notify_points (b : NoticeBody) : (s.notify b).points = s.points := rfl
@[simp] theorem State.notify_unknownPoint (b : NoticeBody) : (s.notify b).unknownPoint = s.unknownPoint := rfl
@[simp] theorem State.notify_zones (b : NoticeBody) : (s.notify b).zones = s.zones := rfl
@[simp] theorem State.notify_shutters (b : NoticeBody) : (s.notify b).shutters = s.shutters := rfl
@[simp] theorem State.notify_unknownDrive (b : NoticeBody) : (s.notify b).unknownDrive = s.unknownDrive := rfl
@[simp] theorem State.notify_calls (b : NoticeBody) : (s.notify b).calls = s.calls := rfl
@[simp] theorem State.notify_arbiters (b : NoticeBody) : (s.notify b).arbiters = s.arbiters := rfl
@[simp] theorem State.notify_clock (b : NoticeBody) : (s.notify b).clock = s.clock := rfl
@[simp] theorem State.notify_day (b : NoticeBody) : (s.notify b).day = s.day := rfl
@[simp] theorem State.notify_playback (b : NoticeBody) : (s.notify b).playback = s.playback := rfl
@[simp] theorem State.notify_net (b : NoticeBody) : (s.notify b).net = s.net.request s.tables s.now b := rfl
@[simp] theorem State.notify_exchange (b : NoticeBody) : (s.notify b).exchange = s.exchange := rfl
@[simp] theorem State.notify_settings (b : NoticeBody) : (s.notify b).settings = s.settings := rfl
@[simp] theorem State.notify_store (b : NoticeBody) : (s.notify b).store = s.store := rfl
@[simp] theorem State.notify_pending (b : NoticeBody) : (s.notify b).pending = s.pending := rfl
@[simp] theorem State.notify_now (b : NoticeBody) : (s.notify b).now = s.now := rfl
@[simp] theorem State.notify_draws (b : NoticeBody) : (s.notify b).draws = s.draws := rfl
@[simp] theorem State.notify_tokens (b : NoticeBody) : (s.notify b).tokens = s.tokens := rfl

end Sys2Proof.Machine
end

