-- ==== Sys2Proof/Laws/Shafts.lean ====
section
/-! SUPPORT. What the operations that only redraw the boarding lamps leave alone: everything a shaft holds but its landings. -/

namespace Sys2Proof.Machine

/-- The shafts less what they keep for their landings. -/
def State.cores (s : State) : Tab Shaft 2 := s.shafts.map Shaft.core

theorem State.cores_congr {s t : State} (h : t.shafts = s.shafts) : t.cores = s.cores := by
  simp only [State.cores, h]

theorem State.shaft_modShaft (s : State) (k j : Nat) (f : Shaft → Shaft) :
    (s.modShaft k f).shaft j = if k = j ∧ j < 2 then f (s.shaft j) else s.shaft j := by
  simp [State.shaft, Tab.getD_modify]

/-- States with the same cores have the same shafts, less their landings. -/
theorem State.core_shaft {s t : State} (h : t.cores = s.cores) (k : Nat) : (t.shaft k).core = (s.shaft k).core := by
  have key : ∀ u : State, (u.shaft k).core = u.cores.getD k (Shaft.core {}) := by
    intro u
    simp only [State.cores, State.shaft]
    rw [Tab.getD_map Shaft.core _ _ _ {}]
    split
    · rfl
    · rename_i n; rw [Tab.getD_eq_of_le _ (by omega)]
  rw [key, key, h]

@[simp] theorem State.cores_ite (c : Prop) [Decidable c] (s t : State) :
    (if c then s else t).cores = if c then s.cores else t.cores := by split <;> rfl

@[simp] theorem State.foldl_cores {α : Type} (f : State → α → State) (l : List α) (s : State)
    (h : ∀ t a, (f t a).cores = t.cores) : (l.foldl f s).cores = s.cores := by
  induction l generalizing s with
  | nil => rfl
  | cons a l ih => simp [List.foldl_cons, ih, h]

@[simp] theorem State.forEach_cores (s : State) (is : List Nat) (f : State → Nat → State)
    (h : ∀ t i, (f t i).cores = t.cores) : (s.forEach is f).cores = s.cores := State.foldl_cores f is s h

/-- A change of what a shaft keeps for a landing leaves the cores. -/
@[simp] theorem State.modLanding_cores (s : State) (k l : Nat) (f : LandingLive → LandingLive) :
    (s.modLanding k l f).cores = s.cores := by
  apply Tab.ext'
  apply List.ext_getElem? 
  intro j
  show (State.cores _).get? j = (State.cores _).get? j
  simp only [State.cores, Tab.get?_map, State.modLanding, State.modShaft_shafts, Tab.get?_modify]
  split <;> cases s.shafts.get? j <;> rfl


@[simp] theorem State.modStation_cores (s : State) (i : Nat) (f : StationLive → StationLive) : (s.modStation i f).cores = s.cores :=
  State.cores_congr (ChangesOnly.shafts (F := [.stations]) (State.modStation_blank (by decide) s i f))

@[simp] theorem State.modPoint_cores (s : State) (i : Nat) (f : PointLive → PointLive) : (s.modPoint i f).cores = s.cores :=
  State.cores_congr (ChangesOnly.shafts (F := [.points]) (State.modPoint_blank (by decide) s i f))

@[simp] theorem State.modZone_cores (s : State) (z : Nat) (f : ZoneLive → ZoneLive) : (s.modZone z f).cores = s.cores :=
  State.cores_congr (ChangesOnly.shafts (F := [.zones]) (State.modZone_blank (by decide) s z f))

@[simp] theorem State.modShutter_cores (s : State) (i : Nat) (f : ShutterLive → ShutterLive) : (s.modShutter i f).cores = s.cores :=
  State.cores_congr (ChangesOnly.shafts (F := [.shutters]) (State.modShutter_blank (by decide) s i f))

@[simp] theorem State.modArbiter_cores (s : State) (i : Nat) (f : Arbiter → Arbiter) : (s.modArbiter i f).cores = s.cores :=
  State.cores_congr (ChangesOnly.shafts (F := [.arbiters]) (State.modArbiter_blank (by decide) s i f))

@[simp] theorem State.modCalls_cores (s : State) (f : Calls → Calls) : (s.modCalls f).cores = s.cores :=
  State.cores_congr (ChangesOnly.shafts (F := [.calls]) (State.modCalls_blank (by decide) s f))

@[simp] theorem State.modPlayback_cores (s : State) (f : Playback → Playback) : (s.modPlayback f).cores = s.cores :=
  State.cores_congr (ChangesOnly.shafts (F := [.playback]) (State.modPlayback_blank (by decide) s f))

@[simp] theorem State.countPlayback_cores (s : State) (f : PlaybackCounters → PlaybackCounters) : (s.countPlayback f).cores = s.cores :=
  State.cores_congr (ChangesOnly.shafts (F := [.playback]) (State.countPlayback_blank (by decide) s f))

@[simp] theorem State.modDay_cores (s : State) (f : Day → Day) : (s.modDay f).cores = s.cores :=
  State.cores_congr (ChangesOnly.shafts (F := [.day]) (State.modDay_blank (by decide) s f))

@[simp] theorem State.modClock_cores (s : State) (f : Clock → Clock) : (s.modClock f).cores = s.cores :=
  State.cores_congr (ChangesOnly.shafts (F := [.clock]) (State.modClock_blank (by decide) s f))

@[simp] theorem State.modSettings_cores (s : State) (f : Settings → Settings) : (s.modSettings f).cores = s.cores :=
  State.cores_congr (ChangesOnly.shafts (F := [.settings]) (State.modSettings_blank (by decide) s f))

@[simp] theorem State.modPort_cores (s : State) (p : Nat) (f : Port → Port) : (s.modPort p f).cores = s.cores :=
  State.cores_congr (ChangesOnly.shafts (F := [.net]) (State.modPort_blank (by decide) s p f))

@[simp] theorem State.modMgmt_cores (s : State) (f : Management → Management) : (s.modMgmt f).cores = s.cores :=
  State.cores_congr (ChangesOnly.shafts (F := [.net]) (State.modMgmt_blank (by decide) s f))

@[simp] theorem State.reach_cores (s : State) (t : Micros) : (s.reach t).cores = s.cores :=
  State.cores_congr (ChangesOnly.shafts (F := [.now]) (State.reach_blank (by decide) s t))

@[simp] theorem State.notify_cores (s : State) (b : NoticeBody) : (s.notify b).cores = s.cores :=
  State.cores_congr (ChangesOnly.shafts (F := [.net]) (State.notify_blank (by decide) s b))

@[simp] theorem State.dropRepeats_cores (s : State) (kinds : List NoticeKind) (object : Nat) : (s.dropRepeats kinds object).cores = s.cores :=
  State.cores_congr (ChangesOnly.shafts (F := [.net]) (State.dropRepeats_blank (by decide) s kinds object))

@[simp] theorem State.offer_cores (s : State) (port : Nat) (c : QueueClass) (f : TxFrame) : (s.offer port c f).cores = s.cores :=
  State.cores_congr (ChangesOnly.shafts (F := [.net]) (State.offer_blank (by decide) s port c f))

@[simp] theorem State.sendTo_cores (s : State) (i : Nat) (c : QueueClass) (kind : Byte) (bytes : List Byte) (report : Report) : (s.sendTo i c kind bytes report).cores = s.cores :=
  State.cores_congr (ChangesOnly.shafts (F := [.net]) (State.sendTo_blank (by decide) s i c kind bytes report))

@[simp] theorem State.reply_cores (s : State) (t : Ticket) (st : Status) (d : Detail) (report : Report) : (s.reply t st d report).cores = s.cores :=
  State.cores_congr (ChangesOnly.shafts (F := [.net]) (State.reply_blank (by decide) s t st d report))

@[simp] theorem State.toll_cores (s : State) (i : Nat) (t : Toll) (report : Report) : (s.toll i t report).cores = s.cores :=
  State.cores_congr (ChangesOnly.shafts (F := [.arbiters, .net]) (State.toll_blank (by decide) (by decide) s i t report))

@[simp] theorem State.evacuate_cores (s : State) (i : Nat) : (s.evacuate i).cores = s.cores :=
  State.cores_congr (ChangesOnly.shafts (F := [.arbiters, .net]) (State.evacuate_blank (by decide) (by decide) s i))

@[simp] theorem State.closeCalls_cores (s : State) : (s.closeCalls ).cores = s.cores :=
  State.cores_congr (ChangesOnly.shafts (F := [.calls, .arbiters, .net, .tokens]) (State.closeCalls_blank (by decide) (by decide) (by decide) (by decide) s))

@[simp] theorem State.sendLamp_cores (s : State) (k l : Nat) : (s.sendLamp k l).cores = s.cores := by
  unfold State.sendLamp; (repeat' split) <;> simp

@[simp] theorem State.recomputeLamp_cores (s : State) (k l : Nat) : (s.recomputeLamp k l).cores = s.cores := by
  unfold State.recomputeLamp; (try dsimp only); (repeat' split) <;> simp

@[simp] theorem State.recomputeLamps_cores (s : State) (k : Nat) : (s.recomputeLamps k).cores = s.cores := by
  unfold State.recomputeLamps; (repeat' split) <;> simp

@[simp] theorem State.recomputeAllLamps_cores (s : State) : (s.recomputeAllLamps ).cores = s.cores := by
  unfold State.recomputeAllLamps; simp

@[simp] theorem State.recomputeLampAt_cores (s : State) (x0 : Option LandingRef) : (s.recomputeLampAt x0).cores = s.cores := by
  unfold State.recomputeLampAt; (repeat' split) <;> simp

@[simp] theorem State.enterMode_cores (s : State) (m : StoreMode) (src : ModeSource) : (s.enterMode m src).cores = s.cores := by
  unfold State.enterMode; (try dsimp only); (repeat' split) <;> simp

@[simp] theorem State.closingCheck_cores (s : State) : (s.closingCheck ).cores = s.cores := by
  unfold State.closingCheck; (repeat' split) <;> simp

@[simp] theorem State.setShutter_cores (s : State) (i : Nat) (st : ShutterState) : (s.setShutter i st).cores = s.cores := by
  unfold State.setShutter; (try dsimp only); (repeat' split) <;> simp

@[simp] theorem State.setFault_cores (s : State) (i : Nat) (f : ShutterFault) (on : Bool) : (s.setFault i f on).cores = s.cores := by
  unfold State.setFault; (try dsimp only); (repeat' split) <;> simp

@[simp] theorem State.openShutter_cores (s : State) (i : Nat) : (s.openShutter i).cores = s.cores := by
  unfold State.openShutter; (try dsimp only); simp

@[simp] theorem State.sendShut_cores (s : State) (i : Nat) (bytes : List Byte) : (s.sendShut i bytes).cores = s.cores :=
  State.cores_congr (ChangesOnly.shafts (F := [.net]) (State.sendShut_blank (by decide) s i bytes))

@[simp] theorem State.startCommand_cores (s : State) (i : Nat) (cmd : ShutCommand) : (s.startCommand i cmd).cores = s.cores :=
  State.cores_congr (ChangesOnly.shafts (F := [.shutters, .net]) (State.startCommand_blank (by decide) (by decide) s i cmd))

@[simp] theorem State.sendAfresh_cores (s : State) (i : Nat) (cmd : ShutCommand) : (s.sendAfresh i cmd).cores = s.cores :=
  State.cores_congr (ChangesOnly.shafts (F := [.shutters, .net]) (State.sendAfresh_blank (by decide) (by decide) s i cmd))

@[simp] theorem State.applyOutcome_cores (s : State) (i : Nat) (o : Outcome) : (s.applyOutcome i o).cores = s.cores := by
  unfold State.applyOutcome; (try dsimp only); (repeat' split) <;> simp

@[simp] theorem State.deliverZone_cores (s : State) (k z : Nat) (o : Outcome) : (s.deliverZone k z o).cores = s.cores := by
  unfold State.deliverZone; simp

@[simp] theorem State.awaitRelease_cores (s : State) (i : Nat) (r : LandingRef) : (s.awaitRelease i r).cores = s.cores := by
  unfold State.awaitRelease; (try dsimp only); (repeat' split) <;> simp

@[simp] theorem State.requestRelease_cores (s : State) (i : Nat) : (s.requestRelease i).cores = s.cores := by
  unfold State.requestRelease; (try dsimp only); (repeat' split) <;> simp

@[simp] theorem State.requestReleases_cores (s : State) (z : Nat) : (s.requestReleases z).cores = s.cores := by
  unfold State.requestReleases; simp

@[simp] theorem State.isolateShutter_cores (s : State) (i : Nat) : (s.isolateShutter i).cores = s.cores := by
  unfold State.isolateShutter; simp

@[simp] theorem State.deliver_cores (s : State) (k : Nat) : (s.deliver k).cores = s.cores := by
  unfold State.deliver; (repeat' split) <;> simp

@[simp] theorem State.notifyHeld_cores (s : State) (k : Nat) : (s.notifyHeld k).cores = s.cores :=
  State.cores_congr (ChangesOnly.shafts (F := [.net]) (State.notifyHeld_blank (by decide) s k))

@[simp] theorem State.setZone_cores (s : State) (z : Nat) (st : ZoneState) : (s.setZone z st).cores = s.cores := by
  unfold State.setZone; simp

@[simp] theorem State.notifyZone_cores (s : State) (z : Nat) (old : ZoneState) : (s.notifyZone z old).cores = s.cores :=
  State.cores_congr (ChangesOnly.shafts (F := [.net]) (State.notifyZone_blank (by decide) s z old))

@[simp] theorem State.enterAlert_cores (s : State) (z : Nat) (knock : Option Nat) : (s.enterAlert z knock).cores = s.cores := by
  unfold State.enterAlert; (try dsimp only); simp

@[simp] theorem State.shutterFromPosition_cores (s : State) (i : Nat) (p : CurtainPos) : (s.shutterFromPosition i p).cores = s.cores := by
  unfold State.shutterFromPosition; (repeat' split) <;> simp

@[simp] theorem State.comply_cores (s : State) (i : Nat) : (s.comply i).cores = s.cores := by
  unfold State.comply; simp

@[simp] theorem State.endMotion_cores (s : State) (i : Nat) : (s.endMotion i).cores = s.cores :=
  State.cores_congr (ChangesOnly.shafts (F := [.shutters]) (State.endMotion_blank (by decide) s i))

@[simp] theorem State.countUnexpected_cores (s : State) (i : Nat) : (s.countUnexpected i).cores = s.cores :=
  State.cores_congr (ChangesOnly.shafts (F := [.shutters]) (State.countUnexpected_blank (by decide) s i))

@[simp] theorem State.stall_cores (s : State) (i : Nat) : (s.stall i).cores = s.cores := by
  unfold State.stall; (try dsimp only); simp

@[simp] theorem State.sendIfStopped_cores (s : State) (i : Nat) (c : ShutCommand) : (s.sendIfStopped i c).cores = s.cores :=
  State.cores_congr (ChangesOnly.shafts (F := [.shutters, .net]) (State.sendIfStopped_blank (by decide) (by decide) s i c))

@[simp] theorem State.reportRelease_cores (s : State) (i : Nat) (x0 : CurtainPos) : (s.reportRelease i x0).cores = s.cores := by
  unfold State.reportRelease; (repeat' split) <;> simp

@[simp] theorem State.reportRaise_cores (s : State) (i : Nat) (x0 : CurtainPos) : (s.reportRaise i x0).cores = s.cores := by
  unfold State.reportRaise; (repeat' split) <;> simp

@[simp] theorem State.reportIdle_cores (s : State) (i : Nat) (c : ShutterCfg) (p : CurtainPos) : (s.reportIdle i c p).cores = s.cores := by
  unfold State.reportIdle; (try dsimp only); (repeat' split) <;> simp

@[simp] theorem State.driveLoss_cores (s : State) (i : Nat) : (s.driveLoss i).cores = s.cores := by
  unfold State.driveLoss; (repeat' split) <;> simp

@[simp] theorem State.driveRegain_cores (s : State) (i : Nat) : (s.driveRegain i).cores = s.cores := by
  unfold State.driveRegain; (try dsimp only); (repeat' split) <;> simp

end Sys2Proof.Machine
end

