-- ==== Sys2Proof/Laws/Store.lean ====
section
/-! SUPPORT. The phrase store: every operation keeps the canonical form, and a byte written reads back while every other
address reads as before. -/

namespace Sys2Proof.Machine
namespace PhraseStore

/-- A looser lower bound keeps the form. -/
theorem wfCells_mono {lo lo' : Nat} (h : lo' ≤ lo) : ∀ {l : List Host.Cell}, wfCells lo l = true → wfCells lo' l = true
  | [], _ => rfl
  | (x, b) :: rest, hl => by
    simp only [wfCells, Bool.and_eq_true, decide_eq_true_eq] at hl ⊢
    exact ⟨⟨by omega, hl.1.2⟩, hl.2⟩

/-- Writing one byte keeps the form. -/
theorem wfCells_writeCells (a : Nat) (b : Byte) : ∀ {lo : Nat} {l : List Host.Cell}, lo ≤ a → wfCells lo l = true →
    wfCells lo (writeCells a b l) = true
  | lo, [], ha, _ => by
    unfold writeCells
    split
    · rfl
    · simp [wfCells, *]
  | lo, (x, c) :: rest, ha, hl => by
    simp only [wfCells, Bool.and_eq_true, decide_eq_true_eq] at hl
    obtain ⟨⟨hx, hc⟩, hr⟩ := hl
    unfold writeCells
    split
    · split
      · simp [wfCells, *]
      · simp only [wfCells, Bool.and_eq_true, decide_eq_true_eq]
        exact ⟨⟨ha, by assumption⟩, ⟨by omega, hc⟩, hr⟩
    · split
      · split
        · exact wfCells_mono (by omega) hr
        · subst_vars; simp [wfCells, *]
      · simp only [wfCells, Bool.and_eq_true, decide_eq_true_eq]
        exact ⟨⟨hx, hc⟩, wfCells_writeCells a b (by omega) hr⟩

/-- The store with one byte written is in canonical form if the store is. -/
theorem wf_write {m : PhraseStore} (a : Nat) (b : Byte) (h : m.wf = true) : (m.write a b).wf = true :=
  wfCells_writeCells a b (Nat.zero_le a) h

/-- The store with a run of bytes written is in canonical form if the store is. -/
theorem wf_writeRun {m : PhraseStore} : ∀ {a : Nat} {bs : List Byte}, m.wf = true → (m.writeRun a bs).wf = true
  | _, [], h => h
  | a, b :: rest, h => by unfold writeRun; exact wf_writeRun (wf_write a b h)

/-- After a reset the store is in canonical form. -/
theorem wf_reset : State.reset.store.wf = true := rfl

/-- Every listed address of a list in canonical form lies at or above its bound. -/
theorem readCells_below : ∀ {lo : Nat} {l : List Host.Cell} {a : Nat}, wfCells lo l = true → a < lo →
    readCells l a = erased
  | _, [], _, _, _ => rfl
  | lo, (x, b) :: rest, a, h, ha => by
    simp only [wfCells, Bool.and_eq_true, decide_eq_true_eq] at h
    have : x ≠ a := by omega
    simp only [readCells, this, if_false]
    exact readCells_below h.2 (by omega)

/-- Reading after writing one byte. -/
theorem readCells_writeCells (a : Nat) (b : Byte) (c : Nat) : ∀ {lo : Nat} {l : List Host.Cell}, wfCells lo l = true →
    readCells (writeCells a b l) c = if c = a then b else readCells l c
  | _, [], _ => by
    unfold writeCells
    by_cases hb : b = erased <;> by_cases hc : a = c <;> simp [readCells, hb, hc, eq_comm]
  | lo, (x, d) :: rest, h => by
    have h' := h
    simp only [wfCells, Bool.and_eq_true, decide_eq_true_eq] at h
    unfold writeCells
    split
    · rename_i hax
      have below : readCells ((x, d) :: rest) a = erased := by
        have hxa : x ≠ a := by omega
        simp only [readCells, hxa, if_false]
        exact readCells_below h.2 (by omega)
      by_cases hb : b = erased
      · rw [if_pos hb]; split
        · subst_vars; exact below
        · rfl
      · rw [if_neg hb]; by_cases hc : a = c
        · simp [readCells, hc]
        · have : ¬ c = a := fun e => hc e.symm
          simp [readCells, hc, this]
    · split
      · rename_i hax
        subst hax
        have below : readCells rest a = erased := readCells_below h.2 (by omega)
        by_cases hb : b = erased
        · rw [if_pos hb]
          by_cases hc : c = a
          · subst hc; simp [below, hb]
          · have : ¬ a = c := fun e => hc e.symm
            simp [readCells, hc, this]
        · rw [if_neg hb]
          by_cases hc : c = a
          · subst hc; simp [readCells]
          · have : ¬ a = c := fun e => hc e.symm
            simp [readCells, hc, this]
      · by_cases hx : x = c
        · subst hx
          have : ¬ x = a := by omega
          simp [readCells, this]
        · simp only [readCells, hx, if_false]
          exact readCells_writeCells a b c h.2

/-- Reading the store after one byte is written. -/
theorem read_write {m : PhraseStore} (a : Nat) (b : Byte) (c : Nat) (h : m.wf = true) :
    (m.write a b).read c = if c = a then b else m.read c := readCells_writeCells a b c h

/-- Reading the store after a run of bytes is written. -/
theorem read_writeRun : ∀ {m : PhraseStore} {a : Nat} {bs : List Byte} (c : Nat), m.wf = true →
    (m.writeRun a bs).read c = if a ≤ c ∧ c < a + bs.length then bs.getD (c - a) erased else m.read c
  | m, a, [], c, _ => by
    unfold writeRun
    rw [if_neg (by simp)]
  | m, a, b :: rest, c, h => by
    unfold writeRun
    rw [read_writeRun c (wf_write a b h), read_write a b c h]
    by_cases hc : c = a
    · subst hc
      rw [if_neg (by omega), if_pos rfl, if_pos (by simp)]
      simp
    · by_cases hin : a + 1 ≤ c ∧ c < a + 1 + rest.length
      · obtain ⟨k, rfl⟩ : ∃ k, c = a + 1 + k := ⟨c - (a + 1), by omega⟩
        rw [if_pos hin, if_pos (by simp only [List.length_cons]; omega)]
        have e : a + 1 + k - a = (a + 1 + k - (a + 1)) + 1 := by omega
        rw [e]; simp
      · rw [if_neg hin, if_neg hc, if_neg (by simp only [List.length_cons]; omega)]

end PhraseStore
end Sys2Proof.Machine
end

