-- ==== Sys2Proof/WellFormed.lean ====
section
/-! DEFINITION. Which commands are well formed: the object an event names exists, and a request's index fits the byte
that carries it (R178). The meanings are total: an event that names no object changes nothing, and a request that names
none is answered BAD_INDEX. -/

namespace Sys2Proof

/-- A shaft: 0 or 1 (R15). -/
def wfShaft (k : Nat) : Bool := decide (k < 2)
/-- A landing of a shaft: 0 to 11 (R16). -/
def wfLanding (l : Nat) : Bool := decide (l < 12)
/-- A station record: 0 to 95 (R2). -/
def wfStation (i : Nat) : Bool := decide (i < 96)
/-- A line port: 0 to 4 (R167). -/
def wfPort (p : Nat) : Bool := decide (p < 5)
/-- A zone: 0 to 15 (R62). -/
def wfZone (z : Nat) : Bool := decide (z < 16)
/-- A shutter record: 0 to 31 (R76). -/
def wfShutter (i : Nat) : Bool := decide (i < 32)
/-- The arrival number of a call record: 16 bits (R100). -/
def wfRecord (n : Nat) : Bool := decide (n < 65536)
/-- A byte of a request (R178). -/
def wfByte (n : Nat) : Bool := decide (n < 256)

/-- The object of a notice: a zone, a shaft, a shutter, a port, a station or a number, by the kind (R184). -/
def wfNotice (k : NoticeKey) : Bool :=
  match k.kind with
  | .zoneState | .zonePoint | .evacUnavailable | .zoneFault => wfZone k.object && decide (k.part = 0)
  | .shaftTrip | .shaftUnclearable | .shaftDegraded | .shaftHeld => wfShaft k.object && decide (k.part = 0)
  | .shutterForced | .shutterState => wfShutter k.object && decide (k.part = 0)
  | .shutterFault => wfShutter k.object && decide (k.part < 5)
  | .safetyRefused | .portState => wfPort k.object && decide (k.part = 0)
  | .stationLost | .roleMismatch | .stationStatus | .stationBack => wfStation k.object && decide (k.part = 0)
  | .callOffice | .storedAbandoned => wfRecord k.object && decide (k.part = 0)
  | .clockInvalid | .storeInvalid | .storeMode | .pageEnded => decide (k.object = 0 ∧ k.part = 0)

/-- Whether a command is well formed. -/
def Instr.wf : Instr → Bool
  | .powerOn | .resetPin | .autoloadEnd _ | .secondBoundary | .crystalLoss | .crystalCyclesResume => true
  | .forwardCount k | .backwardCount k | .homeMark k | .readyLost k | .readyGained k | .faultRaised k
  | .faultCleared k | .speedWindowEnd k | .homeTimeout k => wfShaft k
  | .lampRefresh k l => wfShaft k && wfLanding l
  | .supervisionTimeout i => wfStation i
  | .frameReceive p _ | .portSilenceTimeout p | .keepInterval p | .deferralEnd p | .frameSent p | .earlyClash p
  | .lateClash p | .backoffEnd p => wfPort p
  | .keep | .forward | .beat | .detect | .shutstat | .landing | .callPress | .callCancel | .callAck
  | .pageSamples => true
  | .knockWindowExpiry z => wfZone z
  | .resendTimer i | .clearanceTimeout i | .warningTimeout i | .motionTimeout i => wfShutter i
  | .escalationStep1 n | .escalationStep2 n => wfRecord n
  | .patternEnd i | .startLimit i | .preemptTimeout i | .evacRefresh i => wfStation i
  | .closeWaitExpiry | .tuneEvacRefresh | .blockMoment _ | .pageBlockMoment | .underrunTimeout
  | .pageIdleTimeout => true
  | .setupStation i _ | .setupPoint i _ | .setupZone i _ | .setupShutter i _ | .setupRoute i _ | .setupShaft i _
  | .setupSchedule i _ | .setupPort i _ | .setupGlobal i _ => wfByte i
  | .setupSill k i _ => wfByte k && wfByte i
  | .query _ i j part _ => wfByte i && wfByte j && part.all wfByte
  | .setClock _ | .stepClock _ | .setTrim _ => true
  | .startShaft k | .stopShaft k | .resetShaft k => wfByte k
  | .silenceZone z | .resetZone z | .isolateZone z | .restoreZone z => wfByte z
  | .storeMode _ | .play _ | .pageStart _ | .pageEnd | .clearCalls _ => true
  | .lineTest p => wfByte p
  | .lineTestReceive p _ | .lineTestTimeout p => wfPort p
  | .clearCounters | .saveSettings | .saveEnd _ | .lockPhrases | .restart | .restartTimeout | .unknownOrder => true
  | .writePhraseBlock _ data => decide (data.length ≤ 44)
  | .phraseWriteEnd readBack => decide (readBack.length = 32)
  | .noticeRepeat k => wfNotice k

end Sys2Proof
end

