-- ==== Sys2Proof/Tests/Slice0.lean ====
section
/-! SUPPORT. The block's own tests: for every obligation that has hypotheses a theorem `witness_<Name>` that shows states and
operands meeting them (one conjunct for each clause or group of clauses; further clauses in `witness_<Name>_<clause>`), ill-formed terms that `Instr.wf` refuses, and the
worked examples of the data book. -/

namespace Sys2Proof.Tests

open Sys2Proof.Machine

/-- A request that the block it addresses takes. -/
theorem accepted_of {s : State} {w : FrameStep} {n : Option Nat} {r : Received} (h : s.requestFor w n = some r ∧ r.port =
    Config.officePort ∧
    s.fromConsole r.frame.src = true ∧ 4 ≤ r.frame.payload.length ∧ (s.takeHead r).passes r = true ∧
    s.settings.restart = none) : Accepted s w n r :=
  ⟨h.1, h.2.1, h.2.2.1, h.2.2.2.1, h.2.2.2.2.1, h.2.2.2.2.2⟩
/-- A tapped frame that the Station Table lets through. -/
theorem tapped_of {s : State} {w : FrameStep} {r : Received} (h : s.headFor w = some r ∧ (s.takeHead r).passes r = true ∧
    r.frame.goodLength = true) : Tapped s w r := ⟨h.1, h.2.1, h.2.2⟩
/-- What a check of the point table finds holds of every point record in use. -/
theorem points_all {s : State} {P : Nat → PointCfg → Prop} (h : ∀ i < 128, ∀ c ∈ s.point i, P i c) :
    ∀ i c, s.point i = some c → P i c := fun i c hc => h i (Tab.lt_of_at? hc) c hc
/-- A point record in use that meets a condition, found by a search of the table. -/
theorem points_any {s : State} {P : Nat → PointCfg → Prop} (h : ∃ i < 128, ∃ c ∈ s.point i, P i c) :
    ∃ i c, s.point i = some c ∧ P i c := by
  obtain ⟨i, _, c, hc, hp⟩ := h; exact ⟨i, c, hc, hp⟩
/-- What a check of the shutter table finds holds of every shutter record in use. -/
theorem shutters_all {s : State} {P : Nat → ShutterCfg → Prop} (h : ∀ i < 32, ∀ c ∈ s.shutter i, P i c) :
    ∀ i c, s.shutter i = some c → P i c := fun i c hc => h i (Tab.lt_of_at? hc) c hc
/-- What a check of the arbiter table finds holds of every arbiter. -/
theorem arbiters_all {s : State} {P : Nat → Arbiter → Prop} (h : ∀ i < 96, ∀ a ∈ s.arbiter i, P i a) :
    ∀ i a, s.arbiter i = some a → P i a := fun i a ha => h i (Tab.lt_of_at? ha) a ha
/-- A shutter record in use that meets a condition, found by a search of the table. -/
theorem shutters_any {s : State} {P : Nat → ShutterCfg → Prop} (h : ∃ i < 32, ∃ c ∈ s.shutter i, P i c) :
    ∃ i c, s.shutter i = some c ∧ P i c := by
  obtain ⟨i, _, c, hc, hp⟩ := h; exact ⟨i, c, hc, hp⟩
/-- What a check of the station table finds holds of every station record in use. -/
theorem stations_all {s : State} {P : Nat → StationCfg → Prop} (h : ∀ i < 96, ∀ c ∈ s.station i, P i c) :
    ∀ i c, s.station i = some c → P i c := fun i c hc => h i (Tab.lt_of_at? hc) c hc
/-- A search of the station table finds exactly the station records in use that meet a condition. -/
theorem stations_iff {s : State} {P : Nat → StationCfg → Prop} :
    (∃ i c, s.station i = some c ∧ P i c) ↔ ∃ i < 96, ∃ c ∈ s.station i, P i c :=
  ⟨fun ⟨i, c, hc, h⟩ => ⟨i, Tab.lt_of_at? hc, c, hc, h⟩, fun ⟨i, _, c, hc, h⟩ => ⟨i, c, hc, h⟩⟩
/-- A station record in use that meets a condition, found by a search of the table. -/
theorem stations_any {s : State} {P : Nat → StationCfg → Prop} (h : ∃ i < 96, ∃ c ∈ s.station i, P i c) :
    ∃ i c, s.station i = some c ∧ P i c := stations_iff.2 h
/-- What a check of one station, found by its address, shows of that station. -/
theorem found_all {s : State} {x : Option Nat} {P : Nat → StationCfg → Prop} (h : ∀ p ∈ x, ∀ c ∈ s.station p, P p c) :
    ∀ p c, x = some p → s.station p = some c → P p c := fun p c hp hc => h p hp c hc
/-- What a check of the other stations finds holds of each of them. -/
theorem others_all {s : State} {n : Nat} {P : Nat → StationCfg → Prop}
    (h : ∀ j < 96, ∀ d ∈ s.station j, j ≠ n → P j d) : ∀ j d, j ≠ n → s.station j = some d → P j d :=
  fun j d hn hd => h j (Tab.lt_of_at? hd) d hd hn
/-- Another station that meets a condition, found by a search of the table. -/
theorem others_any {s : State} {n : Nat} {P : Nat → StationCfg → Prop}
    (h : ∃ j < 96, ∃ d ∈ s.station j, j ≠ n ∧ P j d) : ∃ j d, j ≠ n ∧ s.station j = some d ∧ P j d :=
  have ⟨j, _, d, hd, hn, hp⟩ := h
  ⟨j, d, hn, hd, hp⟩
/-- What a check of the other schedule entries finds holds of each of them. -/
theorem entries_all {s : State} {n : Nat} {P : Nat → ScheduleEntry → Prop}
    (h : ∀ j < 24, ∀ d ∈ s.entry j, j ≠ n → P j d) : ∀ j d, j ≠ n → s.entry j = some d → P j d :=
  fun j d hn hd => h j (Tab.lt_of_at? hd) d hd hn
/-- A station record. -/
def stationAs (a p : Nat) (r : Role) (z : Option Nat := none) : StationCfg := {
    address := BitVec.ofNat 16 a
    homePort := p
    role := r
    zone := z
    beatPeriod := 2 }
/-- One station of every role in use, some of them twice. -/
def baseStations : List (Nat × StationCfg) :=
  [(0, stationAs 1 0 .landingStation), (1, stationAs 2 0 .detectionPanel), (2, stationAs 3 1 .shutterDrive),
   (3, stationAs 4 2 .callPoint (some 0)), (4, stationAs 5 2 .annunciator),
   (5, { stationAs 6 2 .sounder (some 0) with abilities := { chime := true } }),
   (6, { stationAs 7 3 .speaker (some 0) with abilities := { fade := true } }), (7, stationAs 8 4 .console),
   (8, stationAs 9 1 .shutterDrive), (9, stationAs 10 2 .annunciator),
   (10, { stationAs 11 2 .sounder (some 1) with beatPeriod := 0 }), (11, stationAs 12 0 .landingStation),
   (12, stationAs 13 3 .speaker (some 1)), (13, stationAs 14 1 .callPoint)]
/-- A table with some entries set. -/
def setAll {α n} (t : Tab (Option α) n) (l : List (Nat × α)) : Tab (Option α) n := l.foldl (fun t x => t.set x.1 (some x.2)) t
/-- The tables of a small store: two zones with points, two shutters (one across shaft 0), a route, and shaft 0 with three sills. -/
def baseTables : Tables :=
  { stations := setAll (Tab.replicate 96 none) baseStations
    points := setAll (Tab.replicate 128 none)
      [(0, { panel := 1, number := 5, zone := 0 }), (1, { panel := 1, number := 6, zone := 0 }),
       (2, { panel := 1, number := 7, zone := 0, kind := .manual }), (3, { panel := 1, number := 8, zone := 1 })]
    zones := (Tab.replicate 16 ({} : ZoneCfg)).set 0 { doubleKnock := true, voice := true, neighbours := 2#16 }
    shutters := setAll (Tab.replicate 32 none)
      [(0, { drive := 2, zone := 0, landing := some ⟨0, 3⟩ }), (1, { drive := 8, zone := 0 })]
    routes := setAll (Tab.replicate 64 none) [(0, { callPoint := 3, primary := 4, secondary := some 9, sounder := some 5 })]
    shafts := (Tab.replicate 2 ({} : ShaftCfg)).set 0
      { geometry := { enabled := true }
        sills := setAll (Tab.replicate 24 none)
          [(0, { position := 100, landing := 3, side := .up, station := 0 }),
           (1, { position := 5000, landing := 3, side := .down, station := 0 }),
           (2, { position := 700, landing := 4, side := .up, station := 11 })] }
    schedule := setAll (Tab.replicate 24 none)
      [(0, { hour := 9, minute := 0, action := .open }), (1,
          { hour := 18, minute := 30, action := .announce, phrase := some 3 })]
    globals := { console0 := some 8#16, evacPhrase := some 1, standbyPhrase := none } }
def upPort : Port := { state := .up, silence := some 30000, keepTimer := some 10000 }
/-- Every port UP but L4, which is in TRIAL. -/
def baseNet : Net :=
  { ports := (Tab.replicate 5 upPort).set 4
      { state := .trial, hand := some { source := .keep, phase := .sending }, silence := some 30000 } }
def phraseOne : PhraseEntry := {start := 1024, count := 72, gain := 256}
/-- The state most tests start from: tables loaded, the store OPEN, every station PRESENT, shaft 0 READY and placed. -/
def base : State := {
    tables := baseTables
    day := {mode := .open}
    inPlace := true
    now := 7000000
    stations :=
        Tab.replicate 96 { presence := .present, advertised := {chime := true, fade := true}, supervision := some 9000000}
    arbiters := ((Tab.replicate 96 none).set 5 (some {})).set 10 (some {})
    shafts := (Tab.replicate 2 {}).set 0 {ready := true, windowEnd := some 7050000, posValid := true, pos := 0}
    shutters := Tab.replicate 32 {state := .open, lastReport := some {position := .openEnd, localRelease := false}}
    points := Tab.replicate 128 {}
    playback :=
        { directory := ((Tab.replicate 128 {}).set 1 {start := 1024, count := 72, gain := 256}).set 3 {start := 2048, count := 96, gain := 256}}
    net := baseNet
    clock := {valid := true, hours := 8, minutes := 59, seconds := 59, weekday := 3, day := 10} }
/-- A received frame from a station. -/
def frameFrom (a : Nat) (kind : Byte) (payload : List Byte) (port : Nat := 0) : Received :=
    { port := port, frame := {dest := 0x0100#16, src := BitVec.ofNat 16 a, kind := kind, payload := payload}}
/-- What a command leaves; the state before where it has no next state. -/
def after (c : Instr) (s : State) : State := match exec c s with | .next t => t | _ => s
/-- A frame put at the head of the intake queue. -/
def withHead (s : State) (r : Received) : State := { s with exchange := { s.exchange with intake := r :: s.exchange.intake } }
/-- A SETUP from the console on L4. -/
def rSetup (k : Nat := 0) := frameFrom 8 0x40#8 [1,2,3,BitVec.ofNat 8 k] 4
/-- A QUERY from the console on L4. -/
def rQuery (k : Nat := 0) := frameFrom 8 0x41#8 [1,2,3,BitVec.ofNat 8 k] 4
/-- An ORDER from the console on L4. -/
def rOrder (k : Nat := 0) := frameFrom 8 0x42#8 [1,2,3,BitVec.ofNat 8 k] 4
def withShaft (f : Shaft → Shaft) : State := base.modShaft 0 f
/-- Shaft 0 in a moving state, one count before the home mark. -/
def moving (st : ShaftState) (f : Shaft → Shaft := id) : State := withShaft fun x => f { x with
    state := st
    permit := true
    brake := false
    creep := decide (st = .homing ∨ st = .clearing)
    windowCount := 7
    pos := 9599 }
def braked (st : ShaftState) (f : Shaft → Shaft := id) : State := withShaft fun x => f { x with
    state := st
    windowCount := 7
    pos := 9599 }
def withPort (p : Nat) (f : Port → Port) (s : State := base) : State := s.modPort p f
def txFrame (a : Nat) (k : Byte := 0x20#8) (n : Nat := 2) : TxFrame := {
    dest := BitVec.ofNat 16 a
    src := 0x0100#16
    kind := k
    payload := .raw (List.replicate n 0#8) }
def stationOf (i : Nat) : StationCfg := (base.station i).getD (stationAs 1 1 .other)
def sending (c : QueueClass) : Hand := {source := .queue c, phase := .sending}
def backingOff := withPort 0 fun x => {x with hand := some {source := .keep, phase := .backoff 1 7000009}}
def sendingNormal := withPort 0 fun x => { x with
    hand := some (sending .normal)
    normal := [txFrame 3, txFrame 4]
    safety := [txFrame 9] }
def sendingUrgently := withPort 0 fun x => {x with hand := some {sending .safety with attempts := 11}, safety := [txFrame 9]}
def stateClashesBackOffOrAbandon2 : Hand := {sending .safety with attempts := 11}
def zoneIn (z : Nat) (st : ZoneState) (s : State := base) := s.modZone z fun x => {x with state := st}
def shutterIn (st : ShutterState) (c : Option ShutCommand) (z : ZoneState) (i : Nat := 1) : State :=
    (zoneIn 0 z).modShutter i fun x => { x with
    state := st
    command := c
    sends := 2
    resend := some 7500000
    motion := some 9000000
    faults := {noResponse := true} }
def descendingShutter := shutterIn .descending (some .release) .alarm
def stalledShutter := (shutterIn .stalled (some .raise) .resetting).modShutter 1 fun x => {x with sends := 3}
def waitingShutter :=
    ((shutterIn .releaseWait none .alarm 0).modShutter 0 fun x => {x with clearance := some 8500000}).modShaft 0 fun x =>
    { x with
    state := .clearing
    permit := true
    creep := true
    brake := false
    remaining := some 9
    zoneFlags := 1
    clearSet := base.sills 0 }
def landingFrame (n : Nat) (a b : Byte) := frameFrom n 0x18#8 [a, b]
def runningShaft := moving .running
def stateLandingReportsAndLamps1 : State := (withHead runningShaft (landingFrame 1 1 0)).takeHead (landingFrame 1 1 0)
def press (a : Nat) (b : Byte) := frameFrom a 0x20#8 [0, b]
def cancel (a : Nat) (b : Byte) := frameFrom a 0x20#8 [1, b]
def callRecord (n p : Nat) (k : CallClass) : CallRecord := {
    point := p
    cls := k
    pressed := k
    number := n
    target := .primary
    timer := some 9000000 }
def withCalls (l : List CallRecord) (s : State := base) : State := s.modCalls fun c => {c with records := l, lastNumber := 60}
def oneCall := withCalls [callRecord 1 3 .service]
def ringing := (withCalls [callRecord 1 3 .service,
    callRecord 2 13 .cash]).modArbiter 5 fun a =>
    {a with pending := [{cls := .service, pattern := .strokes 1 1, owner := .call 1, arrival := 9}, {cls := .cash, pattern := .strokes 1 1, owner := .call 2, arrival := 9}], inForce := .timed .closing .day (.strokes 2 2) 1 (.sounding 9000000)}
def ackFrame (p : Byte) (b : Byte) := frameFrom 5 0x21#8 [0, p, b]
def stateRecordsLeaveOrEscalate1 : State := (withHead ringing (ackFrame 4 0)).takeHead (ackFrame 4 0)
def twoCalls := withCalls [callRecord 2 3 .urgent, {callRecord 7 3 .cash with step := 1}]
def stateRecordsLeaveOrEscalate3 : CallRecord := {callRecord 7 3 .cash with step := 1}
def withOrder (s : State) (k : Nat := 0) := withHead s (rOrder k)
def orderTaken (s : State) (k : Nat := 0) := (withOrder s k).takeHead (rOrder k)
def withSetup (s : State) (k : Nat := 0) := withHead s (rSetup k)
def setupTaken (s : State) (k : Nat := 0) := (withSetup s k).takeHead (rSetup k)
def consoleMismatch := base.modStation 7 fun x => { x with presence := .mismatch }
def shortOrder : Received := frameFrom 8 0x42#8 [1, 2, 3] 4
def orderOnStoreLine : Received := frameFrom 8 0x42#8 [1, 2, 3, 0] 0
def restartPending := base.modSettings fun x => { x with restart := some 7100000 }
def trippedUnderShutter :=
    ((shutterIn .releaseWait none .alarm 0).modShutter 0 fun x => {x with clearance := some 8500000}).modShaft 0 fun x =>
    { x with
    state := .tripped
    zoneFlags := 1
    clearSet := base.sills 0 }
def stateLandingReportsAndLamps2 : State := (withHead runningShaft (landingFrame 1 0 1)).takeHead (landingFrame 1 0 1)
def trippedAtLanding := withShaft fun x => { x with state := .tripped, trip := some .slip, windowCount := 7 }
def stateLandingReportsAndLamps3 : State := (withHead trippedAtLanding (landingFrame 1 1 0)).takeHead (landingFrame 1 1 0)
def detector (n b : Byte) := frameFrom 2 0x10#8 [n, b]
def stateForwardCountsMoveTheChain1 : State := moving .clearing fun x => {x with remaining := some 14, clearSet := base.sills 0}
def stateForwardCountsMoveTheChain2 : State := moving .lastRun fun x => {x with advance := some 9598}
def stateDriveInputsAndHomeTimerTrip1 : State := braked .held fun x => { x with
    clearSet := base.sills 0
    zoneFlags := 1#16
    pos := 0
    outcome := some .clear }
def stateBackwardCountsSettleOrTrip2 : State := braked .idle fun x => {x with settling := 3}
def stateBackwardCountsSettleOrTrip1 : State := braked .idle fun x => {x with settling := 4, pos := 0}
def stateBackwardCountsSettleOrTrip3 : State := braked .tripped fun x => {x with settling := 4, pos := 0, trip := some .drive}
def stateHomeMarkSetsOrTripsSlip3 : State := moving .running fun x => {x with pos := 20}
def stateHomeMarkSetsOrTripsSlip2 : State := moving .clearing fun x => { x with
    pos := 21
    clearSet := base.sills 0
    zoneFlags := 1#16
    remaining := some 4 }
def stateHomeMarkSetsOrTripsSlip1 : State := moving .homing fun x => {x with posValid := false, homeTimer := some 99999999}
def stateSpeedWindowMeasuresAndGuards2 : State := moving .running fun x => {x with windowCount := 401}
def stateSpeedWindowMeasuresAndGuards1 : State := braked .tripped fun x => { x with
    windowCount := 401
    standstill := 2
    trip := some .slip
    zoneFlags := 1#16
    clearSet := base.sills 0 }
def stateDriveInputsAndHomeTimerTrip2 : State := moving .homing fun x => {x with homeTimer := some 7000001, posValid := false}
def stoppingShaft (f : Shaft → Shaft := id) : State := braked .stopping fun x => f { x with
    windowCount := 0
    windowMoved := false
    standstill := 2
    clearSet := base.sills 0
    zoneFlags := 1#16
    stopReason := some .zone }
def alarmedLanding (s : State) (w : ShutterState := .releaseWait) : State :=
    (s.modZone 0 fun x => {x with state := .alarm}).modShutter 0 fun x =>
    {x with state := w, clearance := if w = .releaseWait then some 8500000 else none}
def withTables (s : State) (f : Tables → Tables) : State := {s with tables := f s.tables}
def stateSpeedWindowMeasuresAndGuards3 :=
    withTables (stoppingShaft fun x => {x with windowCount := 5}) fun t =>
    {t with shafts := t.shafts.modify 0 fun x => { x with geometry := { x.geometry with enabled := false } } }
def stateSpeedWindowMeasuresAndGuards4 : State := stoppingShaft fun x => {x with clearSet := []}
def countedForward (s : State) : State := s.modShaft 0 fun x => { x with
    pos := if x.posValid then (x.pos + 1) % (s.geometry 0).L else x.pos
    windowCount := x.windowCount + 1
    windowMoved := true
    standstill := 0 }
def heldAt (p : Nat) (oc : Outcome) (w : ShutterState := .releaseWait) : State :=
    alarmedLanding (braked .held fun x =>
    {x with clearSet := base.sills 0, zoneFlags := 1#16, pos := p, outcome := some oc, heldReason := some .zone}) w
def stateLandingReportsAndLamps4 : State := base.modLanding 0 3 fun x => {x with refresh := some 7000000}
def stepState1 : State := base.modLanding 0 3 fun x => {x with refresh := some 6999999}
def stateLandingReportsAndLamps5 : State := stepState1.modStation 0 fun x => {x with presence := .mismatch}
def beat (a : Nat) (b : Byte) (p : Nat := 0) := frameFrom a 0x02#8 [b, 3#8, 9#8] p
def mismatchStation (i : Nat) : State := base.modStation i fun x => {x with presence := .mismatch, missed := 2}
def pressFrame : Frame := {dest := 0x0100#16, src := 4#16, kind := 0x20#8, payload := [0,1]}
def stateGoodFramesActOnTheirPort1 : State := {base with exchange := {intake := List.replicate 16 (frameFrom 4 1#8 [])}}
def stateBadFramesAndSilenceTakeAPortDown1 : State := withPort 0 fun x => {x with badRun := 5, normal := [txFrame 3]}
def stateBadFramesAndSilenceTakeAPortDown2 : State := withPort 0 fun x => {x with state := .trial, trial := 2}
def stateBadFramesAndSilenceTakeAPortDown3 : State := withPort 0 fun x => {x with state := .down, trial := 2}
def stateGoodFramesActOnTheirPort2 : State := withPort 0 fun x => {x with state := .down}
def stateGoodFramesActOnTheirPort3 : State := withPort 0 fun x => {x with state := .trial, trial := 1}
def stateGoodFramesActOnTheirPort5 : Frame := {pressFrame with kind := 1, payload := []}
def stateGoodFramesActOnTheirPort4 : State := withPort 0 fun x => { x with
    state := .trial
    trial := 2
    normal := [txFrame 3]
    hand := none }
def stateBadFramesAndSilenceTakeAPortDown4 : State := withPort 0 fun x => { x with
    normal := [txFrame 3]
    safety := [txFrame 4]
    hand := some {source := .keep} }
def stateTheTransmitterTakesAndSends1 : State := withPort 0 fun x => {x with hand := some {source := .keep}}
def stateTheTransmitterTakesAndSends2 : State := withPort 0 fun x => { x with
    hand := some {source := .keep, phase := .sending}
    safety := [txFrame 3]
    stream := [txFrame 4]
    keepDue := true }
def stateClashesBackOffOrAbandon3 : State := withPort 0 fun x => { x with
    hand := some (sending .normal)
    normal := [txFrame 3 0x22#8 40, txFrame 4]
    safety := [txFrame 9] }
def stateClashesBackOffOrAbandon4 : State := withPort 0 fun x => { x with
    hand := some (sending .normal)
    normal := [txFrame 3 0x22#8 4, txFrame 4]
    safety := [txFrame 9] }
def stateClashesBackOffOrAbandon1 : State := withPort 0 fun x => { x with
    hand := some {source := .keep, phase := .sending}
    normal := [txFrame 3 0x22#8 40, txFrame 4]
    safety := [txFrame 9] }
def forwardedFrame (r : Received) : TxFrame := {
    dest := r.frame.dest
    src := r.frame.src
    kind := r.frame.kind
    payload := .raw r.frame.payload }
abbrev goesTo (s₁ : State) (r : Received) (p : Nat) : Prop := p < 5 ∧ p ≠ r.port ∧ (s₁.port p).state = .up ∧
    (r.frame.dest = 0xFFFF#16 ∨
    (s₁.tables.ports.getD p {}).filter.getLsbD (((r.frame.dest.extractLsb' 8 8).toNat + (r.frame.dest.extractLsb' 0
    8).toNat) % 64) = true)
def forwardFrame (d : Addr) (k : Byte := 0x60#8) (p : Nat := 0) : Received :=
    {port := p, frame := {dest := d, src := 2#16, kind := k, payload := [1]}}
def stateForwardingFollowsTheDestination1 : State := withPort 2 fun x => {x with state := .trial}
def stateForwardingFollowsTheDestination3 : State := (withHead base (forwardFrame 0xFFFF#16)).takeHead (forwardFrame 0xFFFF#16)
def stateForwardingFollowsTheDestination2 := withPort 2 fun x => {x with normal := List.replicate 16 (txFrame 3)}
def beatOf (a : Nat) (l : List Byte) := frameFrom a 0x02#8 l 0
def s10 : State := {base with tables := {baseTables with ports := Tab.replicate 5 {filter := 0}}}
def stateForwardingFollowsTheDestination4 : State := (withHead s10 (forwardFrame 0x8003#16)).takeHead (forwardFrame 0x8003#16)
def loadable : State := { base with
    inPlace := false
    tables := {}
    settings := {eeprom := {marker := true, body := [1,2,255], checksum := 258, tables := baseTables}} }
def stateSecondBoundariesRunTheClock2 : State :=
    {base with clock := {base.clock with seconds := 59, minutes := 59, hours := 23, weekday := 6, day := 65535, step := some 1, trimInterval := 3, trimCount := 2}}
def stateSecondBoundariesRunTheClock1 : State :=
    {base with clock := {base.clock with seconds := 20, step := some (-1), trimInterval := 3, trimCount := 1}}
def stateSecondBoundariesRunTheClock3 : State := {base with clock := {base.clock with running := false}}
def closeWaiting (f : Shaft → Shaft) : State :=
    {withShaft f with day := {mode := .lastCall, closePending := true, closeWait := some 7000100}}
def inState (x : Shaft) (s : ShaftState) : Shaft := {x with state := s, permit := true, brake := false}
def stateStoreModeAndCloseWait4 : State := closeWaiting fun x => inState x .running
def stateSecondBoundariesRunTheClock4 : State := {base with clock := {base.clock with running := false, valid := false}}
def stateStoreModeAndCloseWait5 := closeWaiting fun x => {inState x .homing with creep := true, homeTimer := some 9000000}
def stateStoreModeAndCloseWait6 : State :=
    {stateStoreModeAndCloseWait5 with tables := {baseTables with shafts := baseTables.shafts.modify 0 fun x => {x with sills := Tab.replicate 24 none}}}
def baseOrder := withHead base rOrder
def unplaced := withShaft fun x => {x with posValid := false}
def homingShaft := moving .homing fun x => {x with posValid := false, homeTimer := some 9}
def driveTrip := braked .tripped fun x => {x with standstill := 3, trip := some .drive}
def driveTripMoving := braked .tripped fun x => {x with standstill := 2, trip := some .drive}
def driveTripNotReady := braked .tripped fun x => {x with standstill := 2, ready := false, trip := some .drive}
def driveTripSill := driveTrip.modLanding 0 4 fun x => {x with sillTripped := true}
def afterHead (s : State) (r : Received) := (withHead s r).takeHead r
def alertZone :=
    (base.modZone 0 fun x => {x with state := .alert, knockPoint := some 1, knockTimer := some 99000000}).modPoint 1 fun
    x => {x with state := .alarm}
def alarmZone := (base.modZone 0 fun x => {x with state := .alarm, cause := some .manual, alarmPoint := some (.point 2)})
def rst := zoneIn 0 .resetting
def alertCalm := (alertZone.modPoint 1 fun x => {x with state := .normal})
def alertPrealarm := (alertCalm.modPoint 0 fun x => {x with state := .prealarm})
def driveReport (a : Nat) (p f : Byte) := frameFrom a 0x12#8 [p, f]
def stateDriveReportsUnderACommand4 : State := withHead (shutterIn .descending (some .release) .alarm) (driveReport 9 1 0)
def stateDriveReportsUnderACommand5 : State := afterHead (shutterIn .descending (some .release) .alarm) (driveReport 9 1 0)
def stateDriveReportsUnderACommand6 : State := withHead (shutterIn .descending (some .release) .alarm) (driveReport 9 2 0)
def stateDriveReportsUnderACommand7 : State := afterHead (shutterIn .descending (some .release) .alarm) (driveReport 9 2 0)
def stateDriveReportsUnderACommand10 : State :=
    (shutterIn .descending (some .release) .alarm).modShutter 1 fun x => {x with resend := none}
def stateDriveReportsUnderACommand11 : State := withHead (shutterIn .descending (some .release) .silenced) (driveReport 9 3 0)
def stateDriveReportsUnderACommand12 : State := afterHead (shutterIn .descending (some .release) .silenced) (driveReport 9 3 0)
def stateDriveReportsUnderACommand8 : State := withHead (shutterIn .closed (some .raise) .silenced) (driveReport 9 3 0)
def stateDriveReportsUnderACommand9 : State := afterHead (shutterIn .closed (some .raise) .silenced) (driveReport 9 3 0)
def stateDriveReportsUnderACommand1 : State := withHead (shutterIn .raising (some .raise) .silenced) (driveReport 9 0 0)
def stateDriveReportsUnderACommand2 : State := afterHead (shutterIn .raising (some .raise) .silenced) (driveReport 9 0 0)
def plainShutter : ShutterCfg := {drive := 8, zone := 0}
def landingShutter : ShutterCfg := {drive := 2, zone := 0, landing := some ⟨0, 3⟩}
def stateShutterTimersAct1 : State := (shutterIn .warning none .alarm 0).modShutter 0 fun x => {x with warning := some 8500000}
def stateDetectorsMoveTheZone2 := base.modZone 0 fun x => { x with
    state := .alert
    knockPoint := none
    knockTimer := some 99000000 }
def withoutKnock (s : State) : State :=
    {s with tables := {s.tables with zones := s.tables.zones.modify 0 fun x => {x with doubleKnock := false}}}
def stateDetectorsMoveTheZone1 := withoutKnock stateDetectorsMoveTheZone2
def stateDetectorsMoveTheZone3 := zoneIn 0 .isolated
def stateDetectorsMoveTheZone4 := (zoneIn 0 .silenced).modPoint 0 fun x => {x with state := .alarm}
def stateDriveReportsUnderACommand3 := (shutterIn .closed (some .raise) .resetting)
def stateDriveReportsUnderACommand17 := shutterIn .open none .normal
def stateDriveReportsUnderACommand18 := shutterIn .open none .alarm
def stateDriveReportsUnderACommand13 := shutterIn .unknown none .normal
def stateDriveReportsUnderACommand14 := shutterIn .descending none .alarm
def stateDriveReportsUnderACommand15 := shutterIn .descending none .resetting
def stateDriveReportsUnderACommand16 := shutterIn .isolated none .isolated
def stateShutterTimersAct2 :=
    (shutterIn .open none .normal 0).modShutter 0 fun x => {x with clearance := some 8500000, warning := some 8500000}
def statePressTakesMergesOrRefuses1 : State := {base with day := {mode := .closed}}
def statePressTakesMergesOrRefuses2 : State := withCalls ((List.range 48).map fun i => callRecord i (20+i) .cash)
def stateRecordsLeaveOrEscalate2 : State :=
    (withHead ringing (frameFrom 5 0x21#8 [0,14,0])).takeHead (frameFrom 5 0x21#8 [0,14,0])
def ring (c : RingClass) (o : RingOwner) (p : Pattern := .strokes 2 1) : Ring := {
    cls := c
    pattern := p
    owner := o
    arrival := 5 }
def withArbiter (f : Arbiter → Arbiter) (s : State := base) := s.modArbiter 5 f
def startingArbiter (p : List Ring) (phraseOne : RingPhase) : Arbiter := {
    pending := p
    inForce := .timed .cash .day (.strokes 2 2) 1 phraseOne
    preempt := some 8000000 }
def tollFrame : TxFrame := {txFrame 6 0x23#8 3 with report := .toll 5 1}
def startingSounder (p : List Ring) :=
    (withArbiter fun _ => startingArbiter p (.starting 8900000)).modPort 0 fun x =>
    {x with hand := some (sending .normal), normal := [tollFrame, txFrame 4]}
def stateSounderEventsServeTheChosenRing4 : State := withArbiter fun _ => startingArbiter [] (.sounding 8900000)
def stateSounderEventsServeTheChosenRing2 : Arbiter :=
    {startingArbiter [ring .service .day] (.sounding 8900000) with refresh := some 8000000}
def stateSounderEventsServeTheChosenRing1 : State := withArbiter fun _ => stateSounderEventsServeTheChosenRing2
def storedRequest (n : Nat) (u : Bool) : StoredRequest := {
    phrase := 3
    zones := 3#16
    gain := 256
    urgent := u
    origin := .order
    number := n }
def phraseThree : PhraseEntry := {start := 2048, count := 96, gain := 256}
def cursorAt (k : Nat) : Cursor := { entry := phraseThree, gain := 256, sample := k }
def storedPlay (k : Nat) : StoredPlay := {
    request := storedRequest 9 false
    taken := 3#16
    cursor := cursorAt k
    clock := some 7000500 }
def withStored (q : List StoredRequest) (f : Playback → Playback := id) : State := base.modPlayback fun p => f { p with
    queue := q
    stored := some (storedPlay 24)
    lastRequest := 65535
    zoneMap := (p.zoneMap.set 0 .stored).set 1 .stored }
def stateStoredRequestsQueue1 : State := withStored ((List.range 8).map fun i => storedRequest i (decide (i < 3)))
def evacPlay (k : Nat) : EvacPlay := {
    cursor := cursorAt k
    block := 255
    clock := some 7000500
    refresh := some 8000000 }
def evacuating (k : Nat) : State :=
    (base.modPlayback fun p => {p with evac := some (evacPlay k), zoneMap := (p.zoneMap.set 0 .evac)}).modZone 0 fun x =>
    {x with state := .alarm}
def stateBlockMomentsEmitAndAdvance1 : State := (withStored []).modPlayback fun p => {p with stored := some (storedPlay 72)}
def blockBytes : List Byte := List.replicate 36 0x12#8
def samples (b : Byte) : Received := frameFrom 8 0x30#8 (b :: blockBytes) 4
def paging (f : Page → Page) : State :=
    base.modPlayback fun p =>
    {p with page := f {phase := .playing, zones := 1#16, gain := 256, source := some 8#16, next := some 254, clock := some 7000500, idle := some 7100000, block := 3}, zoneMap := p.zoneMap.set 0 .page }
def blockSamples : List Sample := List.replicate 24 5#12
def statePageSamplesFillTheBuffer1 : State := paging fun p => {p with next := none, phase := .prefill, clock := none}
def soundBlock : JitterBlock := .real blockSamples
def statePagesPlayAndEnd1 : State := paging fun p => {p with ramped := 24, underrun := some 9}
def statePagesPlayAndEnd3 : State := paging fun p => {p with gain := 400, buffer := [.real (List.replicate 24 1500#12), .silence]}
def statePagesPlayAndEnd4 : State := paging fun p => {p with buffer := [.silence, soundBlock]}
def statePagesPlayAndEnd2 : State := paging fun p => {p with underrun := some 7000800}
def stateSetupPointAndShutterPutInUse1 : State := base.modZone 0 fun x => {x with state := .alert}
def tablesWithDrive : Tables := {baseTables with stations := baseTables.stations.set 30 (some (stationAs 300 1 .shutterDrive))}
def baseWithDrive := {base with tables := tablesWithDrive}
def stateSetupPointAndShutterPutInUse2 : State := {baseWithDrive with shafts := (moving .running).shafts}
def stateSetupsReplaceTheirEntry1 : State := base.modZone 0 fun x => {x with state := .resetting}
def stateZoneOrdersMoveTheZone1 : State := (zoneIn 0 .alarm).modShutter 0 fun x => {x with state := .closed}
def stateZoneOrdersMoveTheZone2 : State := (zoneIn 0 .resetting).modShutter 1 fun x => { x with
    state := .raising
    command := some .raise
    sends := 1 }
def stateZoneOrdersMoveTheZone3 : State :=
    (zoneIn 0 .isolated).modShutter 0 fun x => {x with state := .isolated, forced := true}
def inMode (m : StoreMode) (p : Bool := false) (s : State := base) : State :=
    {s with day := {mode := m, closePending := p, closeWait := if p then some 9000000 else none}}
def stateStoreModeAndCloseWait1 : State := moving .lastRun fun x => {x with advance := some 5}
def ringing3 := (withCalls [callRecord 1 3 .service,
    callRecord 2 13 .cash]).modArbiter 5 fun a =>
    {a with pending := [{cls := .service, pattern := .strokes 1 1, owner := .call 1, arrival := 9}, {cls := .cash, pattern := .strokes 1 1, owner := .call 2, arrival := 9}], inForce := .timed .service (.call 1) (.strokes 2 2) 1 (.sounding 9000000)}
def stateClearCountersClearsOnlyCounters1 : State := {ringing3 with mismatchDrop := 4}
def stateLineTestLoopsAndAnswers1 : State := withPort 0 fun x => {x with state := .down, hand := some {source := .keep}}
def lineTestOf (lim : Nat) : LineTest := {
    ticket := ⟨5,8⟩
    limit := lim
    frame := {dest := 0xFFFF#16, src := 0x0100#16, kind := 1#8, payload := testPayload} }
def inLoop (lim : Nat) := withPort 0 fun x => { x with
    state := .loop
    test := some (lineTestOf lim)
    hand := none
    keepTimer := none
    silence := none }
def testFrame : Frame := {dest := 0x0100#16, src := 0x0100#16, kind := 0#8, payload := testPayload}
def baseSaving : Saving := {ticket := ⟨5,8⟩, snapshot := baseTables}
def savingState := base.modSettings fun x => {x with saving := some baseSaving}
def phraseWrite : PhraseWrite := {ticket := ⟨5,8⟩, address := 1024, data := List.replicate 32 7#8}
def writingState := base.modSettings fun x => {x with writing := some phraseWrite}
def restarting := ((moving .running).modSettings fun x => {x with restart := some 7100000}).modPort 4 fun x => { x with
    state := .up
    hand := some {source := .queue .normal, phase := .sending}
    normal := [{txFrame 8 0x48#8 4 with report := .restart}] }
def withQuery (s : State) (k : Nat := 0) := withHead s (rQuery k)
def queryTaken (s : State) (k : Nat := 0) := (withQuery s k).takeHead (rQuery k)
/-- A call whose pattern sounds at sounder 5 and waits at sounder 10. -/
def queriedRecord : CallRecord :=
    { point := 3, cls := .cash, pressed := .cash, number := 7, target := .primary, timer := some 12000000 }
def queriedCall : State :=
    { base with
      calls := { records := [queriedRecord], lastNumber := 7 }
      arbiters := (base.arbiters.set 5 (some { inForce := .timed .cash (.call 7) (.strokes 1 2) 0 (.sounding 7003200) })).set 10
        (some { pending := [{ cls := .cash, pattern := .strokes 1 2, owner := .call 7, arrival := 6000000 }] }) }
def noticesOn : State :=
    {base with tables := {baseTables with notices := (baseTables.notices.set 8 {enable := true, mode := .level}).set 9 {enable := false}}}
def zoneFaultNotice :=
    (noticesOn.modZone 3 fun x => {x with fault := true}).modMgmt fun m =>
    {m with timers := [{key := {kind := .zoneFault, object := 3}, body := .zoneFault 3 true, due := 7000400}]}
def stateNoticesAreBuiltAndRepeated1 : State := zoneFaultNotice.modZone 3 fun x => {x with fault := false}
def longFrame : Frame := {dest := 0x0100#16, src := 4#16, kind := 0x20#8, payload := List.replicate 48 9#8}
def stateOffersFollowTheTable1 : State := withPort 0 fun x => {x with safety := List.replicate 8 (txFrame 1)}
def stateOffersFollowTheTable2 : State := withPort 0 fun x => {x with normal := List.replicate 16 (txFrame 1)}
def stateOffersFollowTheTable3 : State :=
    withPort 0 fun x => {x with stream := [txFrame 1, txFrame 2, txFrame 3, txFrame 4], hand := some {source := .queue .stream}}
def stateSetupStationWritesTheRecord3 : StationCfg := {stationOf 13 with address := 32769}
def stateSetupStationWritesTheRecord4 : StationCfg := {stationOf 3 with address := 77}
def stateSetupStationWritesTheRecord1 : StationCfg := {stationOf 10 with zone := none}
def stateSetupStationWritesTheRecord2 : StationCfg := {stationOf 10 with zone := some 0, address := 88}
def stateSetupStationWritesTheRecord5 : StationCfg := {stationOf 10 with role := .speaker, zone := some 0}
def stateSetupPointAndShutterPutInUse3 := base.modPoint 0 fun x => {x with state := .manual}
def stateSetupPointAndShutterPutInUse4 := (base.modZone 1 fun x => {x with state := .alarm})
def withDrive : State :=
    {base with tables := {baseTables with stations := baseTables.stations.set 30 (some (stationAs 300 1 .shutterDrive))}}
def stateSetupPointAndShutterPutInUse5 := withDrive.modShutter 1 fun x => {x with state := .closed}
def stateSetupPointAndShutterPutInUse6 := (withDrive.modZone 0 fun x => {x with state := .alarm})
def stateSetupPointAndShutterPutInUse7 : State := {withDrive with shafts := (moving .running).shafts}
def stateSetupPointAndShutterPutInUse8 := (withDrive.modZone 1 fun x => {x with state := .isolated})
def stateSetupPointAndShutterPutInUse9 :=
    (withDrive.modZone 0 fun x => {x with state := .isolated}).modShutter 1 fun x => {x with state := .isolated}
def stateSetupPointAndShutterPutInUse10 := stateSetupPointAndShutterPutInUse9.modShutter 1 fun x => {x with lastReport := none}
def stateSetupPointAndShutterPutInUse11 :=
    stateSetupPointAndShutterPutInUse9.modShutter 1 fun x =>
    {x with lastReport := some {position := .raising, localRelease := false}}
abbrev shaftFree (s : State) (k : Nat) : Prop := s.shaftEnabled k = false ∨ (s.shaft k).state ∈ [ShaftState.idle, .tripped]
def stateSetupShaftAndSillWriteTheGeometry1 := moving .running
def stateSetupShaftAndSillWriteTheGeometry2 : State :=
    {base with tables := {baseTables with shafts := baseTables.shafts.modify 0 fun x => {x with sills := x.sills.set 1 none}}}
def latchedTrip := braked .tripped fun x => {x with trip := some .drive, standstill := 3, ready := true}
def arbiterWith (f : Arbiter → Arbiter) (i : Nat := 5) (s : State := base) : State := s.modArbiter i fun _ => f {}
def startingWith (c : RingClass) (ps : List Ring) (svc : Service := .arbitrating) (ls : RingClass := .fallback) : Arbiter := {
    service := svc
    inForce := .timed c (.call 4) (.strokes 3 3) 77 (.starting 7000900)
    pending := ps
    lastServed := ls
    preempt := none }
def stateSounderEventsServeTheChosenRing3 : State := arbiterWith (fun _ => (startingWith .cash [])) 5 base
def statePressTakesMergesOrRefuses3 : State := (withHead base (frameFrom 4 0x20#8 [7#8,
    1#8] 2)).takeHead (frameFrom 4 0x20#8 [7#8, 1#8] 2)
def statePressTakesMergesOrRefuses4 : State := (withHead base (frameFrom 4 0x20#8 [1#8,
    4#8] 2)).takeHead (frameFrom 4 0x20#8 [1#8, 4#8] 2)
def reportOf (p : CurtainPos) (l : Bool := false) : Option DriveReport := some {position := p, localRelease := l}
def shutterIs (i : Nat) (st : ShutterState) (r : Option DriveReport) (s : State := base) : State :=
    s.modShutter i fun x => { x with
    state := st
    lastReport := r
    clearance := if st = .releaseWait then some 7900000 else none
    warning := if st = .warning then some 7900000 else none
    command := if st = .descending then some .release else none }
def clearingShaft (s : State) : State := s.modShaft 0 fun x => { x with
    state := .clearing
    permit := true
    creep := true
    brake := false
    remaining := some 40
    zoneFlags := 1
    clearSet := base.sills 0 }
def stateZoneOrdersMoveTheZone4 := zoneIn 0 .alarm (clearingShaft (shutterIs 0 .releaseWait (reportOf .openEnd)))
def stateZoneOrdersMoveTheZone5 := zoneIn 0 .alarm (clearingShaft (shutterIs 0 .releaseWait (reportOf .raising)))
def isolatedZone (r0 driveTrip : Option DriveReport) (s : State := base) : State :=
    zoneIn 0 .isolated (shutterIs 0 .isolated r0 (shutterIs 1 .isolated driveTrip s))
def pointIs (i : Nat) (st : PointState) (s : State) : State := s.modPoint i fun x => {x with state := st}
def runShaft0 (s : State) : State := s.modShaft 0 fun x => {x with state := .running, permit := true, brake := false}
def stateZoneOrdersMoveTheZone6 : State := isolatedZone (reportOf .openEnd) (reportOf .openEnd) (pointIs 0 .prealarm base)
def withEntry (i : Nat) (e : ScheduleEntry) (s : State) : State :=
    { s with tables := { s.tables with schedule := s.tables.schedule.set i (some e) } }
def firstEntryFree (s : State) : State := { s with tables := { s.tables with schedule := s.tables.schedule.set 0 none } }
def entryOf (a : DayAction) : ScheduleEntry := {hour := 9, minute := 0, action := a}
def requestNumber (n : Nat) (u : Bool := false) : StoredRequest := {
    phrase := 3
    zones := 3#16
    gain := 256
    urgent := u
    origin := .order
    number := n }
def playAt (k : Nat) (orderTaken : ZoneMask := 3#16) : StoredPlay := {
    request := requestNumber 9 false
    taken := orderTaken
    cursor := { entry := phraseThree, gain := 256, sample := k }
    clock := some 7000500 }
def storedPlaying (s : State) (q : List StoredRequest := []) (orderTaken : ZoneMask := 3#16) : State :=
    s.modPlayback fun p => { p with
    queue := q
    stored := some (playAt 24 orderTaken)
    lastRequest := 65535
    zoneMap := (if orderTaken.getLsbD 0 then p.zoneMap.set 0 .stored else p.zoneMap).set 1 (if orderTaken.getLsbD 1 then .stored else .none) }
def withStationZone (i : Nat) (z : Option Nat) (s : State := base) : State :=
    {s with tables := {s.tables with stations := s.tables.stations.modify i fun x => x.map fun c => {c with zone := z}}}
def stateMinuteEventStampsWhatFires2 : State := withEntry 5 (entryOf .beginClosing) (firstEntryFree (inMode .closing))
def stateMinuteEventStampsWhatFires1 : State :=
    withEntry 5 (entryOf .close) (firstEntryFree (inMode .open false (runShaft0 base)))
def stateStoreModeAndCloseWait2 : State := withOrder (storedPlaying (zoneIn 0 .silenced) [requestNumber 7] 2#16)
def stateStoreModeAndCloseWait3 : State := orderTaken (storedPlaying (zoneIn 0 .silenced) [requestNumber 7] 2#16)
def detectorRestores (n : Byte) := frameFrom 2 0x10#8 [n, 3#8] 0
def stateStoredRequestsQueue2 : State := (withHead (storedPlaying base) (detectorRestores 5#8)).takeHead (detectorRestores 5#8)
def stateStoredRequestsQueue3 : State :=
    (withHead (storedPlaying base [] 2#16) (detectorRestores 8#8)).takeHead (detectorRestores 8#8)
def twoMisses (i : Nat) (s : State) := s.modStation i fun x => {x with missed := 2}
def stationIn (s : State) (i : Nat) : StationCfg := (s.station i).getD (stationAs 1 1 .other)
def stateStoredRequestsQueue4 : State := twoMisses 12 (withStationZone 12 (some 0) (storedPlaying base [requestNumber 7] 1#16))
def shutterAwaitingOutcome (o : Outcome) (s : State) : State :=
    (s.modShaft 0 fun x =>
    {x with zoneFlags := 1#16, outcome := some o, clearSet := base.sills 0, standstill := 3}).modShutter 0 fun x =>
    {x with state := .releaseWait, clearance := some 9000000}
def storeWrite : PhraseWrite := { ticket := ⟨5, 8⟩, address := 64, data := List.replicate 32 7 }
def lockedStore : State := base.modSettings fun x => { x with locked := true, writing := some storeWrite }
def runningNext : State := { moving .running with pending := [.forwardCount 0] }
def slipTrip : State := withShaft fun x => { x with state := .tripped, trip := some .slip, windowCount := 7 }
def narrow : Geometry := { L := 96, Gb := 3, Ga := 3 }
def narrowSill : Sill := { position := 0, landing := 0, side := .up, station := 0 }
def hugeEntry : PhraseEntry := { start := 8388600, count := 24, gain := 256 }
def lastEntry : PhraseEntry := { start := 8388560, count := 24, gain := 256 }
def evacAt (x : PhraseEntry) (n : Nat) : State :=
    base.modPlayback fun p =>
    { p with evac := some { cursor := { entry := x, gain := 256, sample := n }, block := 0, clock := some 7000500, refresh := some 8000000 } }
def storedAt (x : PhraseEntry) : State :=
    base.modPlayback fun p =>
    { p with stored := some { request := storedRequest 9 false, taken := 3#16, cursor := { entry := x, gain := 256, sample := 0 }, clock := some 7000500 } }
def heldRef (s : State) (x : Option LandingRef) : Prop := ∃ l, x = some l ∧ s.shaftEnabled l.shaft = true ∧
    (s.shaft l.shaft).state ∉ [ShaftState.idle, .tripped]
def landingShutterWrite : State := withSetup (shutterAwaitingOutcome .unclear baseWithDrive) 31
def newLandingShutter : ShutterCfg := {drive := 30, zone := 0, landing := some ⟨0,4⟩}
def newLandingFields : ShutterFields := {
    drive := some 30
    zone := some 0
    landing := some (some ⟨0,4⟩)
    descentLimit := some 30
    raiseLimit := some 60 }
theorem witness_IdleStepIsOneBitTime :
  (base.pending = []) :=
  by decide

theorem witness_EveryCommandCompletes :
  (base.playback.evac = none ∧ base.playback.stored = none) ∧
  ((evacAt lastEntry 0).playback.evac.map EvacPlay.clock = some (some 7000500) ∧
    lastEntry.start + 2 * lastEntry.count ≤ 8388608) ∧
  ((evacAt hugeEntry 0).playback.evac.map EvacPlay.clock = some (some 7000500) ∧
    8388608 < hugeEntry.start + 2 * hugeEntry.count) ∧
  ((evacAt hugeEntry 24).playback.evac.map EvacPlay.clock = some (some 7000500) ∧
    (evacAt hugeEntry 24).evacPass.entry.start + 2 * (evacAt hugeEntry 24).evacPass.entry.count ≤ 8388608) ∧
  ((storedAt lastEntry).playback.stored.map StoredPlay.clock = some (some 7000500) ∧
    8388608 < hugeEntry.start + 2 * hugeEntry.count) ∧
  ((storedAt hugeEntry).playback.stored.map StoredPlay.clock = some (some 7000500)) :=
  ⟨⟨by decide, by decide⟩,
  ⟨by decide, by decide⟩,
  ⟨by decide, by decide⟩,
  ⟨by decide, by decide⟩,
  ⟨by decide, by decide⟩,
  by decide⟩

theorem witness_StepKeepsPhraseStoreForm :
  (runningNext.store.wf = true ∧ (∃ t, step runningNext = .next t)) :=
  ⟨by decide, ⟨_, rfl⟩⟩

theorem witness_PersistentStateHasOwners :
  ((∃ t, exec (.forwardCount 0) runningNext = .next t)) :=
  ⟨_, rfl⟩

theorem witness_ForwardCountsMoveTheChain :
  ((moving .running).shaftEnabled 0 = true ∧
    (((moving .running).shaft 0).state ∈ [ShaftState.idle, ShaftState.homing, ShaftState.running, ShaftState.stopping,
        ShaftState.tripped])) ∧
  (stateForwardCountsMoveTheChain1.shaftEnabled 0 = true ∧
    (stateForwardCountsMoveTheChain1.shaft 0).state = ShaftState.clearing ∧
    (stateForwardCountsMoveTheChain1.shaft 0).remaining = some 14) ∧
  (stateForwardCountsMoveTheChain2.shaftEnabled 0 = true ∧
    (stateForwardCountsMoveTheChain2.shaft 0).state = ShaftState.lastRun ∧
    (stateForwardCountsMoveTheChain2.shaft 0).advance = some 9598) :=
  ⟨⟨by decide, by decide⟩,
  ⟨by decide, by decide, by decide⟩,
  ⟨by decide, by decide, by decide⟩⟩

theorem witness_BackwardCountsSettleOrTrip :
  ((moving .running).shaftEnabled 0 = true ∧
    (((moving .running).shaft 0).state ∈ [ShaftState.homing, ShaftState.running, ShaftState.lastRun, ShaftState.clearing,
        ShaftState.stopping, ShaftState.held])) ∧
  (stateBackwardCountsSettleOrTrip1.shaftEnabled 0 = true ∧
    (stateBackwardCountsSettleOrTrip1.shaft 0).state = ShaftState.idle ∧
    4 ≤ (stateBackwardCountsSettleOrTrip1.shaft 0).settling) ∧
  (stateBackwardCountsSettleOrTrip2.shaftEnabled 0 = true ∧
    (stateBackwardCountsSettleOrTrip2.shaft 0).state = ShaftState.idle ∧
    (stateBackwardCountsSettleOrTrip2.shaft 0).settling < 4) ∧
  (stateBackwardCountsSettleOrTrip3.shaftEnabled 0 = true ∧
    (stateBackwardCountsSettleOrTrip3.shaft 0).state = ShaftState.tripped) :=
  ⟨⟨by decide, by decide⟩,
  ⟨by decide, by decide, by decide⟩,
  ⟨by decide, by decide, by decide⟩,
  ⟨by decide, by decide⟩⟩

theorem witness_HomeMarkSetsOrTripsSlip :
  (stateHomeMarkSetsOrTripsSlip1.shaftEnabled 0 = true ∧
    (stateHomeMarkSetsOrTripsSlip1.shaft 0).state = ShaftState.homing ∧
    (stateHomeMarkSetsOrTripsSlip1.shaft 0).posValid = false ∧
    stateHomeMarkSetsOrTripsSlip1.day.mode ≠ StoreMode.lastCall) ∧
  (stateHomeMarkSetsOrTripsSlip2.shaftEnabled 0 = true ∧
    (stateHomeMarkSetsOrTripsSlip2.shaft 0).state ≠ ShaftState.tripped ∧
    (stateHomeMarkSetsOrTripsSlip2.shaft 0).posValid = true ∧
    (stateHomeMarkSetsOrTripsSlip2.geometry 0).slip < min (subMod (stateHomeMarkSetsOrTripsSlip2.shaft 0).pos
        (stateHomeMarkSetsOrTripsSlip2.geometry 0).H (stateHomeMarkSetsOrTripsSlip2.geometry 0).L)
        ((stateHomeMarkSetsOrTripsSlip2.geometry 0).L - subMod (stateHomeMarkSetsOrTripsSlip2.shaft 0).pos
        (stateHomeMarkSetsOrTripsSlip2.geometry 0).H (stateHomeMarkSetsOrTripsSlip2.geometry 0).L)) ∧
  (stateHomeMarkSetsOrTripsSlip3.shaftEnabled 0 = true ∧
    ((stateHomeMarkSetsOrTripsSlip3.shaft 0).state ∈ [ShaftState.idle, ShaftState.running, ShaftState.lastRun,
        ShaftState.clearing, ShaftState.stopping, ShaftState.tripped]) ∧
    ((stateHomeMarkSetsOrTripsSlip3.shaft 0).posValid = false ∨
        min (subMod (stateHomeMarkSetsOrTripsSlip3.shaft 0).pos (stateHomeMarkSetsOrTripsSlip3.geometry 0).H
        (stateHomeMarkSetsOrTripsSlip3.geometry 0).L) ((stateHomeMarkSetsOrTripsSlip3.geometry 0).L - subMod
        (stateHomeMarkSetsOrTripsSlip3.shaft 0).pos (stateHomeMarkSetsOrTripsSlip3.geometry 0).H
        (stateHomeMarkSetsOrTripsSlip3.geometry 0).L) ≤ (stateHomeMarkSetsOrTripsSlip3.geometry 0).slip)) :=
  ⟨⟨by decide, by decide, by decide, by decide⟩,
  ⟨by decide, by decide, by decide, by decide⟩,
  ⟨by decide, by decide, by decide⟩⟩

theorem witness_SpeedWindowMeasuresAndGuards :
  ((stateSpeedWindowMeasuresAndGuards1.shaft 0).windowEnd = some 7050000 ∧
    stateSpeedWindowMeasuresAndGuards1.shaftEnabled 0 = true ∧
    (stateSpeedWindowMeasuresAndGuards1.shaft 0).state = ShaftState.tripped) ∧
  ((stateSpeedWindowMeasuresAndGuards2.shaft 0).windowEnd = some 7050000 ∧
    stateSpeedWindowMeasuresAndGuards2.shaftEnabled 0 = true ∧
    (stateSpeedWindowMeasuresAndGuards2.geometry 0).Vmax < (stateSpeedWindowMeasuresAndGuards2.shaft 0).windowCount * 10 ∧
    (stateSpeedWindowMeasuresAndGuards2.shaft 0).state ≠ ShaftState.tripped) ∧
  ((stateSpeedWindowMeasuresAndGuards3.shaft 0).windowEnd = some 7050000 ∧
    stateSpeedWindowMeasuresAndGuards3.shaftEnabled 0 = false) ∧
  ((alarmedLanding stateSpeedWindowMeasuresAndGuards4).shaftEnabled 0 = true ∧
    ((alarmedLanding stateSpeedWindowMeasuresAndGuards4).shaft 0).windowEnd = some 7050000 ∧
    ((alarmedLanding stateSpeedWindowMeasuresAndGuards4).shaft 0).windowMoved = false ∧
    ((alarmedLanding stateSpeedWindowMeasuresAndGuards4).shaft 0).windowCount = 0 ∧
    2 ≤ ((alarmedLanding stateSpeedWindowMeasuresAndGuards4).shaft 0).standstill ∧
    ((alarmedLanding stateSpeedWindowMeasuresAndGuards4).shaft 0).state = ShaftState.stopping) ∧
  ((heldAt 100 .clear).shaftEnabled 0 = true ∧ ((heldAt 100 .clear).shaft 0).state = ShaftState.held ∧
    ((countedForward (heldAt 100 .clear)) =
        (heldAt 100 .clear).modShaft 0 fun x => Shaft.mk x.state x.posValid (if x.posValid =
        true then (x.pos + 1) % ((heldAt 100 .clear).geometry 0).L else x.pos) x.permit x.creep x.brake x.ready x.fault
        (x.windowCount + 1) true x.windowEnd x.speed 0 x.settling x.trip x.degraded x.advance x.homeTimer x.zoneFlags
        x.park x.clearSet x.outcome x.heldReason x.stopReason x.answered x.reapproach x.bar x.remaining x.plan
        x.clearStops x.reapproaches x.unclearables x.heldUnclear x.landings x.unmatchedLandings) ∧
    ((heldAt 100 .clear).shaft 0).outcome ≠ some ((countedForward (heldAt 100 .clear)).standingEval 0)) ∧
  ((heldAt 500 .clear .descending).shaftEnabled 0 = true ∧
    ((heldAt 500 .clear .descending).shaft 0).state = ShaftState.held ∧
    ((countedForward (heldAt 500 .clear .descending)) =
        (heldAt 500 .clear .descending).modShaft 0 fun x => Shaft.mk x.state x.posValid (if x.posValid =
        true then (x.pos + 1) % ((heldAt 500 .clear .descending).geometry 0).L else x.pos) x.permit x.creep x.brake
        x.ready x.fault (x.windowCount + 1) true x.windowEnd x.speed 0 x.settling x.trip x.degraded x.advance x.homeTimer
        x.zoneFlags x.park x.clearSet x.outcome x.heldReason x.stopReason x.answered x.reapproach x.bar x.remaining
        x.plan x.clearStops x.reapproaches x.unclearables x.heldUnclear x.landings x.unmatchedLandings) ∧
    ((heldAt 500 .clear .descending).shaft 0).outcome =
        some ((countedForward (heldAt 500 .clear .descending)).standingEval 0)) ∧
  (((alarmedLanding (stoppingShaft fun x => {x with pos := 500})).shaftEnabled 0 = true) ∧
    (((alarmedLanding (stoppingShaft fun x => {x with pos := 500})).shaft 0).windowEnd = some 7050000) ∧
    (((alarmedLanding (stoppingShaft fun x => {x with pos := 500})).shaft 0).windowMoved = false) ∧
    (2 ≤ ((alarmedLanding (stoppingShaft fun x => {x with pos := 500})).shaft 0).standstill) ∧
    (((alarmedLanding (stoppingShaft fun x => {x with pos := 500})).shaft 0).state = .stopping) ∧
    (((alarmedLanding (stoppingShaft fun x => {x with pos := 500})).shaft 0).posValid = true) ∧
    (((alarmedLanding (stoppingShaft fun x => {x with pos := 500})).geometry 0).forbidden ((alarmedLanding (stoppingShaft
        fun x => {x with pos := 500})).shaft 0).clearSet (((alarmedLanding (stoppingShaft fun x =>
        {x with pos := 500})).shaft 0).pos % ((alarmedLanding (stoppingShaft fun x => {x with pos := 500})).geometry
        0).pitch) = false)) ∧
  (((alarmedLanding (stoppingShaft fun x => {x with posValid := false})).shaftEnabled 0 = true) ∧
    (((alarmedLanding (stoppingShaft fun x => {x with posValid := false})).shaft 0).windowEnd = some 7050000) ∧
    (((alarmedLanding (stoppingShaft fun x => {x with posValid := false})).shaft 0).windowMoved = false) ∧
    (2 ≤ ((alarmedLanding (stoppingShaft fun x => {x with posValid := false})).shaft 0).standstill) ∧
    (((alarmedLanding (stoppingShaft fun x => {x with posValid := false})).shaft 0).state = .stopping) ∧
    (((alarmedLanding (stoppingShaft fun x => {x with posValid := false})).shaft 0).clearSet ≠ []) ∧
    (((alarmedLanding (stoppingShaft fun x => {x with posValid := false})).shaft 0).posValid = false)) ∧
  (((alarmedLanding (stoppingShaft fun x => {x with pos := 100, reapproach := 2})).shaftEnabled 0 = true) ∧
    (((alarmedLanding (stoppingShaft fun x => {x with pos := 100, reapproach := 2})).shaft 0).windowEnd = some 7050000) ∧
    (((alarmedLanding (stoppingShaft fun x => {x with pos := 100, reapproach := 2})).shaft 0).windowMoved = false) ∧
    (2 ≤ ((alarmedLanding (stoppingShaft fun x => {x with pos := 100, reapproach := 2})).shaft 0).standstill) ∧
    (((alarmedLanding (stoppingShaft fun x => {x with pos := 100, reapproach := 2})).shaft 0).state = .stopping) ∧
    (((alarmedLanding (stoppingShaft fun x => {x with pos := 100, reapproach := 2})).shaft 0).posValid = true) ∧
    (((alarmedLanding (stoppingShaft fun x => {x with pos := 100, reapproach := 2})).geometry 0).forbidden
        ((alarmedLanding (stoppingShaft fun x => {x with pos := 100, reapproach := 2})).shaft 0).clearSet
        (((alarmedLanding (stoppingShaft fun x => {x with pos := 100, reapproach := 2})).shaft 0).pos % ((alarmedLanding
        (stoppingShaft fun x => {x with pos := 100, reapproach := 2})).geometry 0).pitch) = true) ∧
    (2 ≤ ((alarmedLanding (stoppingShaft fun x => {x with pos := 100, reapproach := 2})).shaft 0).reapproach)) ∧
  (((alarmedLanding (stoppingShaft fun x => {x with pos := 100}) .descending).shaftEnabled 0 = true) ∧
    (((alarmedLanding (stoppingShaft fun x => {x with pos := 100}) .descending).shaft 0).windowEnd = some 7050000) ∧
    (((alarmedLanding (stoppingShaft fun x => {x with pos := 100}) .descending).shaft 0).windowMoved = false) ∧
    (2 ≤ ((alarmedLanding (stoppingShaft fun x => {x with pos := 100}) .descending).shaft 0).standstill) ∧
    (((alarmedLanding (stoppingShaft fun x => {x with pos := 100}) .descending).shaft 0).state = .stopping) ∧
    (((alarmedLanding (stoppingShaft fun x => {x with pos := 100}) .descending).geometry 0).forbidden ((alarmedLanding
        (stoppingShaft fun x => {x with pos := 100}) .descending).shaft 0).clearSet (((alarmedLanding (stoppingShaft fun
        x => {x with pos := 100}) .descending).shaft 0).pos % ((alarmedLanding (stoppingShaft fun x =>
        {x with pos := 100}) .descending).geometry 0).pitch) = true) ∧
    (∃ i ∈ (alarmedLanding (stoppingShaft fun x => {x with pos := 100}) .descending).shaftShutters 0,
        ((alarmedLanding (stoppingShaft fun x => {x with pos := 100}) .descending).shutterLive i).state ∉
        [ShutterState.open, .releaseWait, .isolated])) ∧
  (((alarmedLanding (stoppingShaft fun x => {x with pos := 100})).shaftEnabled 0 = true) ∧
    (((alarmedLanding (stoppingShaft fun x => {x with pos := 100})).shaft 0).windowEnd = some 7050000) ∧
    (((alarmedLanding (stoppingShaft fun x => {x with pos := 100})).shaft 0).windowMoved = false) ∧
    (2 ≤ ((alarmedLanding (stoppingShaft fun x => {x with pos := 100})).shaft 0).standstill) ∧
    (((alarmedLanding (stoppingShaft fun x => {x with pos := 100})).shaft 0).state = .stopping) ∧
    (((alarmedLanding (stoppingShaft fun x => {x with pos := 100})).shaft 0).clearSet ≠ []) ∧
    (((alarmedLanding (stoppingShaft fun x => {x with pos := 100})).shaft 0).posValid = true) ∧
    (((alarmedLanding (stoppingShaft fun x => {x with pos := 100})).geometry 0).forbidden ((alarmedLanding (stoppingShaft
        fun x => {x with pos := 100})).shaft 0).clearSet (((alarmedLanding (stoppingShaft fun x =>
        {x with pos := 100})).shaft 0).pos % ((alarmedLanding (stoppingShaft fun x => {x with pos := 100})).geometry
        0).pitch) = true) ∧
    (((alarmedLanding (stoppingShaft fun x => {x with pos := 100})).shaft 0).reapproach < 2) ∧
    (((alarmedLanding (stoppingShaft fun x => {x with pos := 100})).shaft 0).bar = false) ∧
    ((alarmedLanding (stoppingShaft fun x => {x with pos := 100})).day.mode ≠ .closed) ∧
    (((alarmedLanding (stoppingShaft fun x => {x with pos := 100})).shaft 0).ready = true) ∧
    (((alarmedLanding (stoppingShaft fun x => {x with pos := 100})).shaft 0).fault = false) ∧
    (∀ i ∈ (alarmedLanding (stoppingShaft fun x => {x with pos := 100})).shaftShutters 0,
        ((alarmedLanding (stoppingShaft fun x => {x with pos := 100})).shutterLive i).state ∈ [ShutterState.open,
        .releaseWait, .isolated]) ∧
    (∃ p, (((alarmedLanding (stoppingShaft fun x => {x with pos := 100})).geometry 0).plan ((alarmedLanding
        (stoppingShaft fun x => {x with pos := 100})).shaft 0).clearSet ((alarmedLanding (stoppingShaft fun x =>
        {x with pos := 100})).shaft 0).pos 0).target = some p)) ∧
  ((heldAt 100 .clear).shutter 0 = some landingShutter ∧ (0 ∈ (heldAt 100 .clear).shaftShutters 0) ∧
    ((heldAt 100 .clear).shaft 0).zoneFlags.getLsbD 0 = true) :=
  ⟨⟨by decide, by decide, by decide⟩,
  ⟨by decide, by decide, by decide, by decide⟩,
  ⟨by decide, by decide⟩,
  ⟨by decide, by decide, by decide, by decide, by decide, by decide⟩,
  ⟨by decide, by decide, by decide, by decide⟩,
  ⟨by decide, by decide, by decide, by decide⟩,
  ⟨by decide, by decide, by decide, by decide, by decide, by decide, by decide⟩,
  ⟨by decide, by decide, by decide, by decide, by decide, by decide, by decide⟩,
  ⟨by decide, by decide, by decide, by decide, by decide, by decide, by decide, by decide⟩,
  ⟨by decide, by decide, by decide, by decide, by decide, by decide, by decide⟩,
  ⟨by decide, by decide, by decide, by decide, by decide, by decide, by decide, by decide, by decide, by decide,
      by decide, by decide, by decide, by decide, ⟨_, rfl⟩⟩,
  ⟨by decide, by decide, by decide⟩⟩

theorem witness_DriveInputsAndHomeTimerTrip :
  ((moving .running).shaftEnabled 0 = true ∧ ((moving .running).shaft 0).permit = true ∧
    ((moving .running).shaft 0).state ≠ ShaftState.tripped) ∧
  (stateDriveInputsAndHomeTimerTrip1.shaftEnabled 0 = true ∧
    (stateDriveInputsAndHomeTimerTrip1.shaft 0).permit = false ∧
    (stateDriveInputsAndHomeTimerTrip1.shaft 0).state ≠ ShaftState.tripped) ∧
  (stateDriveInputsAndHomeTimerTrip2.shaftEnabled 0 = true ∧
    (stateDriveInputsAndHomeTimerTrip2.shaft 0).state = ShaftState.homing ∧
    (stateDriveInputsAndHomeTimerTrip2.shaft 0).homeTimer = some 7000001) :=
  ⟨⟨by decide, by decide, by decide⟩,
  ⟨by decide, by decide, by decide⟩,
  ⟨by decide, by decide, by decide⟩⟩

theorem witness_TripIsLatched :
  (latchedTrip.shaftEnabled 0 = true ∧ (latchedTrip.shaft 0).state = ShaftState.tripped) ∧
  (slipTrip.shaftEnabled 0 = true ∧ (slipTrip.shaft 0).state = .tripped ∧
    (∃ t, exec (.forwardCount 0) slipTrip = .next t)) :=
  ⟨⟨by decide, by decide⟩,
  ⟨by decide, by decide, ⟨_, rfl⟩⟩⟩

theorem witness_PlanFindsTheFirstFreePhase :
  (((Geometry.mk true 120 4 9 0 3 5 2 10 100 4 500 3).plan [Sill.mk 2 0 Side.up 0, Sill.mk 47 1 Side.up 0] 7 60).target = none ∧
    0 < (Geometry.mk true 120 4 9 0 3 5 2 10 100 4 500 3).pitch) ∧
  ((∃ p, ((base.geometry 0).plan (base.sills 0) 77 200).target = some p) ∧
    (base.geometry 0).slowing 200 + (base.geometry 0).sc = 50 ∧
    (base.geometry 0).windowFree (base.sills 0) ((77 + 50) % (base.geometry 0).pitch) = false) ∧
  (((narrow).plan [narrowSill] 0 0).target = none) :=
  ⟨⟨by decide, by decide⟩,
  ⟨⟨_, rfl⟩, by decide, by decide⟩,
  by decide⟩

theorem witness_LandingReportsAndLamps :
  (Tapped (withHead runningShaft (landingFrame 1 1 0)) FrameStep.landing (landingFrame 1 1 0) ∧
    (landingFrame 1 1 0).frame.payload = [1, 0] ∧
    stateLandingReportsAndLamps1.findStation (landingFrame 1 1 0).frame.src = some 0 ∧
    stateLandingReportsAndLamps1.landingOf 0 = some (0, 3) ∧ stateLandingReportsAndLamps1.shaftEnabled 0 = true ∧
    0 = 0#8 ∧ 1 ≠ 0#8 ∧ (stateLandingReportsAndLamps1.shaft 0).state ≠ ShaftState.tripped) ∧
  (Tapped (withHead (braked .tripped) (frameFrom 9 0x18#8 [1,0])) FrameStep.landing (frameFrom 9 0x18#8 [1,0]) ∧
    (frameFrom 9 0x18#8 [1,0]).frame.payload = [1, 0] ∧
    (afterHead (braked .tripped) (frameFrom 9 0x18#8 [1,0])).findStation (frameFrom 9 0x18#8 [1,0]).frame.src = some 8 ∧
    (afterHead (braked .tripped) (frameFrom 9 0x18#8 [1,0])).landingOf 8 = none) ∧
  (Tapped (withHead runningShaft (landingFrame 1 0 1)) FrameStep.landing (landingFrame 1 0 1) ∧
    (landingFrame 1 0 1).frame.payload = [0, 1] ∧
    stateLandingReportsAndLamps2.findStation (landingFrame 1 0 1).frame.src = some 0 ∧
    stateLandingReportsAndLamps2.landingOf 0 = some (0, 3) ∧ stateLandingReportsAndLamps2.shaftEnabled 0 = true ∧
    1 ≠ 0#8 ∧ (stateLandingReportsAndLamps2.shaft 0).state ≠ ShaftState.tripped) ∧
  (Tapped (withHead trippedAtLanding (landingFrame 1 1 0)) FrameStep.landing (landingFrame 1 1 0) ∧
    (landingFrame 1 1 0).frame.payload = [1, 0] ∧
    stateLandingReportsAndLamps3.findStation (landingFrame 1 1 0).frame.src = some 0 ∧
    stateLandingReportsAndLamps3.landingOf 0 = some (0, 3) ∧ stateLandingReportsAndLamps3.shaftEnabled 0 = true ∧
    ((stateLandingReportsAndLamps3.shaft 0).state = ShaftState.tripped ∨ 1 = 0#8 ∧ 0 = 0#8)) ∧
  (stateLandingReportsAndLamps4.shaftEnabled 0 = true ∧
    (stateLandingReportsAndLamps4.landingLive 0 3).refresh = some 7000000 ∧
    stateLandingReportsAndLamps4.landingStation 0 3 = some 0 ∧
    stateLandingReportsAndLamps4.station 0 = some (stationOf 0) ∧
    (stateLandingReportsAndLamps4.stationLive 0).presence = Presence.present) ∧
  (stateLandingReportsAndLamps5.shaftEnabled 0 = true ∧
    (stateLandingReportsAndLamps5.landingLive 0 3).refresh = some 6999999 ∧
    stateLandingReportsAndLamps5.landingStation 0 3 = some 0 ∧
    stateLandingReportsAndLamps5.station 0 = some (stationOf 0) ∧
    (stateLandingReportsAndLamps5.stationLive 0).presence ≠ Presence.present) :=
  ⟨⟨tapped_of (by decide), by decide, by decide, by decide, by decide, by decide, by decide, by decide⟩,
  ⟨tapped_of (by decide), by decide, by decide, by decide⟩,
  ⟨tapped_of (by decide), by decide, by decide, by decide, by decide, by decide, by decide⟩,
  ⟨tapped_of (by decide), by decide, by decide, by decide, by decide, by decide⟩,
  ⟨by decide, by decide, by decide, by decide, by decide⟩,
  ⟨by decide, by decide, by decide, by decide, by decide⟩⟩

theorem witness_BeatDecidesPresence :
  ((withHead base (beat 1 5#8)).headFor FrameStep.beat = some (beat 1 5#8) ∧
    (withHead base (beat 1 5#8)).findStation (beat 1 5#8).frame.src = some 0 ∧
    (withHead base (beat 1 5#8)).station 0 = some (stationOf 0) ∧ (beat 1 5#8).frame.payload = [5#8, 3#8, 9#8]) ∧
  ((withHead base (beatOf 1 [1,2])).headFor FrameStep.beat = some (beatOf 1 [1,2]) ∧
    (beatOf 1 [1,2]).frame.payload.length ≠ 3) :=
  ⟨⟨by decide, by decide, by decide, by decide⟩,
  ⟨by decide, by decide⟩⟩

/-! ### Losses and regains (R13) -/

/-- The same store with a second sounder and a second annunciator, both on L4. -/
def officeStore : State := { base with
    tables := { baseTables with stations := setAll baseTables.stations [(20, stationAs 21 4 .sounder), (21, stationAs 22 4 .annunciator)] }
    arbiters := base.arbiters.set 20 (some {}) }
/-- A state in which a station has a presence. -/
def presenceIs (p : Presence) (i : Nat) (s : State := base) : State := s.modStation i fun x => { x with presence := p, lastStatus := some 7#8 }
/-- The BEAT of a station with its own role, and one with a code that is no role's. -/
def ownBeat (i : Nat) : Received :=
  frameFrom (i + 1) 0x02#8 [BitVec.ofNat 8 (((List.range 10).find? fun n => roleOfCode n = some (stationIn officeStore i).role).getD 0), 3#8, 9#8]
    (stationIn officeStore i).homePort
def otherBeat (i : Nat) : Received := frameFrom (i + 1) 0x02#8 [0xFF#8, 3#8, 9#8] (stationIn officeStore i).homePort
/-- A BEAT of a station's own role from a station whose presence is `p`. -/
def regains (i : Nat) (s : State := base) (p : Presence := .missing) : State := withHead (presenceIs p i s) (ownBeat i)
/-- A BEAT of another role from a station whose presence is `p`. -/
def loses (i : Nat) (s : State := base) (p : Presence := .present) : State := withHead (presenceIs p i s) (otherBeat i)
def roleByte (r : Received) : Nat := (r.frame.payload.getD 0 0#8).toNat

set_option maxRecDepth 20000 in
/-- A regain and a loss of one station of each role that a job reads, and the BEATs that are neither. -/
theorem witness_BeatDecidesPresence_changes :
  (∀ i ∈ [0, 1, 2, 3, 4, 5, 6, 7], (regains i).headFor .beat = some (ownBeat i) ∧
    (regains i).findStation (ownBeat i).frame.src = some i ∧ (regains i).station i = some (stationOf i) ∧
    roleOfCode (roleByte (ownBeat i)) = some (stationOf i).role ∧
    ((regains i).stationLive i).presence = .missing ∧ ((regains i).stationLive i).lastStatus = some 7#8) ∧
  (∀ i ∈ [0, 1, 2, 3, 4, 5, 6, 7], (loses i).headFor .beat = some (otherBeat i) ∧
    (loses i).findStation (otherBeat i).frame.src = some i ∧ (loses i).station i = some (stationOf i) ∧
    roleOfCode (roleByte (otherBeat i)) ≠ some (stationOf i).role ∧ ((loses i).stationLive i).presence = .present) ∧
  ((regains 2 base .present).headFor .beat = some (ownBeat 2) ∧ (regains 2 base .present).findStation (ownBeat 2).frame.src = some 2 ∧
    ((regains 2 base .present).stationLive 2).presence = .present) ∧
  ((loses 2 base .mismatch).headFor .beat = some (otherBeat 2) ∧
    ((loses 2 base .mismatch).stationLive 2).presence = .mismatch) := by
  refine ⟨?_, ?_, ?_, ?_⟩ <;> decide

/-- A command in force of the drive that comes back, its sends stopped. -/
def unansweredRelease : State := (shutterIn .descending (some .release) .alarm).modShutter 1 fun x => { x with resend := none }
def unansweredOutside : State := (shutterIn .descending (some .release) .resetting).modShutter 1 fun x => { x with resend := none }
def commsFault (i : Nat) (s : State := base) : State := s.modShutter i fun x => { x with faults := { comms := true } }
def linkFault : State := base.modPoint 0 fun _ => { state := .fault, source := some .link }
def noSills (s : State := base) : State := { s with tables := { s.tables with shafts := Tab.replicate 2 {} } }

set_option maxRecDepth 20000 in
/-- The premises of the hand-offs to the points, the drives, the landings and the sounders. -/
theorem witness_BeatDecidesPresence_jobs :
  ((regains 1 linkFault).point 0 = some { panel := 1, number := 5, zone := 0 } ∧ ((regains 1 linkFault).pointLive 0).source = some .link ∧
    (regains 1 linkFault).point 9 = none ∧ ((regains 1 linkFault).zone 0).fault ≠ ((after .beat (loses 1)).zone 0).fault) ∧
  ((loses 2).driveShutter 2 = some 0 ∧ ((loses 2).shutterLive 0).faults.comms ≠ true ∧
    (loses 2).shutter 0 = some landingShutter ∧ (loses 2).shaftEnabled 0 = true ∧ ((loses 2).landingStation 0 3).isSome = true ∧
    (loses 2).landingShutter 0 3 = some 0 ∧ (loses 2).driveShutter 2 ≠ some 1) ∧
  ((regains 2 (commsFault 0)).driveShutter 2 = some 0 ∧ ((regains 2 (commsFault 0)).shutterLive 0).faults.comms ≠ false) ∧
  ((regains 8 unansweredRelease).driveShutter 8 = some 1 ∧ (regains 8 unansweredRelease).shutter 1 = some plainShutter ∧
    ((regains 8 unansweredRelease).shutterLive 1).command = some .release ∧
    ((regains 8 unansweredRelease).shutterLive 1).resend = none ∧ ((regains 8 unansweredRelease).shutterLive 1).complied = false ∧
    ((regains 8 unansweredRelease).zone 0).state ∈ [ZoneState.alarm, .silenced] ∧ plainShutter.landing = none ∧
    (stationOf 8).homePort < 4 ∧ ((regains 8 unansweredRelease).port 1).accepts .safety = true) ∧
  (((regains 8 unansweredOutside).shutterLive 1).command = some .release ∧
    ((regains 8 unansweredOutside).zone 0).state ∉ [ZoneState.alarm, .silenced]) ∧
  (∀ st ∈ [ShaftState.running, .idle], (loses 0 (moving st)).landingOf 0 = some (0, 3) ∧ (loses 0 (moving st)).shaftEnabled 0 = true ∧
    (loses 0 (moving st)).landingStation 0 3 = some 0 ∧ ((loses 0 (moving st)).shaft 0).state = st ∧
    (regains 0 (moving st)).landingOf 0 = some (0, 3) ∧ (regains 0 (moving st)).landingStation 0 3 = some 0 ∧
    ((regains 0 (moving st)).shaft 0).state = st) ∧
  (((after .beat (loses 0 (moving .running))).shaft 0).degraded ≠ ((loses 0 (moving .running)).shaft 0).degraded ∧
    (loses 0 (noSills)).landingOf 0 = none) ∧
  (∀ e ∈ [Service.evacuating, .silent], (regains 5 (withArbiter fun a => { a with service := e })).arbiter 5 =
      some { service := e } ∧ (stationOf 5).homePort < 4 ∧
    ((regains 5 (withArbiter fun a => { a with service := e })).port 2).accepts .safety = true ∧
    ((regains 5 (withArbiter fun a => { a with service := e })).port 2).accepts .normal = true) := by
  refine ⟨?_, ?_, ?_, ?_, ?_, ?_, ?_, ?_⟩ <;> decide

/-- A call on its primary annunciator, its secondary absent: the loss of the primary sends it to OFFICE. -/
def callBeforeLoss : State := (withCalls [callRecord 1 3 .service] officeStore).modStation 9 fun x => { x with presence := .missing }
/-- Two zones that play an announcement, one of whose speakers is left alone. -/
def playingBothZones : State := storedPlaying base []

set_option maxRecDepth 20000 in
/-- The premises of the hand-offs to the call records and to the speakers. -/
theorem witness_BeatDecidesPresence_callsAndSpeakers :
  (((loses 4 callBeforeLoss).calls.records.map CallRecord.number).Nodup ∧ (loses 4 callBeforeLoss).calls.records = [callRecord 1 3 .service] ∧
    (after .beat (loses 4 callBeforeLoss)).targetWithout 4 (callRecord 1 3 .service) = .office ∧
    (loses 4 callBeforeLoss).onOffice 5 = false ∧ (loses 4 callBeforeLoss).station 20 = some (stationAs 21 4 .sounder) ∧
    (after .beat (loses 4 callBeforeLoss)).isPresent 20 = true ∧ (loses 4 callBeforeLoss).arbiter 20 = some {} ∧
    (loses 4 callBeforeLoss).ringPending 20 (.call 1) = false ∧ (loses 4 callBeforeLoss).ringInForce 20 (.call 1) = false) ∧
  ((after .beat (loses 4 oneCall)).targetWithout 4 (callRecord 1 3 .service) = .secondary ∧
    (∀ r ∈ (loses 4 oneCall).calls.records, r.held = false → (after .beat (loses 4 oneCall)).targetWithout 4 r = .office →
      r.target = .office) ∧ (after .beat (loses 4 oneCall)).isPresent 9 = true) ∧
  ((stationOf 4).homePort < 4 ∧ ((regains 4 oneCall).port 2).accepts .normal = true) ∧
  ((loses 6 playingBothZones).playback.stored = some (playAt 24) ∧
    (playAt 24).taken.zones.filter (fun z => (loses 6 playingBothZones).keepsZone z &&
      decide ((after .beat (loses 6 playingBothZones)).presentSpeakers z ≠ [])) = [1]) ∧
  ((loses 6 (storedPlaying base [] 1#16)).playback.stored = some (playAt 24 1#16) ∧ (loses 6 (storedPlaying base [] 1#16)).playback.queue = [] ∧
    (playAt 24 1#16).taken.zones.filter (fun z => (loses 6 (storedPlaying base [] 1#16)).keepsZone z &&
      decide ((after .beat (loses 6 (storedPlaying base [] 1#16))).presentSpeakers z ≠ [])) = []) ∧
  ((regains 6).playback.stored = none ∧ (∀ z < 16, (regains 6).zoneChan z = (regains 6).mapEntry z) ∧
    (stationOf 6).homePort < 4 ∧ ((regains 6).port 3).accepts .normal = true) := by
  refine ⟨?_, ?_, ?_, ?_, ?_, ?_⟩ <;> decide

theorem witness_FramesAreHeardOrDropped :
  ((withHead base (frameFrom 1 1#8 [])).headFor FrameStep.keep = some (frameFrom 1 1#8 []) ∧
    (withHead base (frameFrom 1 1#8 [])).findStation (frameFrom 1 1#8 []).frame.src = some 0 ∧
    (withHead base (frameFrom 1 1#8 [])).station 0 = some (stationOf 0)) ∧
  (((Instr.detect, FrameStep.detect) ∈ [(Instr.detect, FrameStep.detect), (Instr.shutstat, FrameStep.shutstat),
      (Instr.landing, FrameStep.landing), (Instr.callPress, FrameStep.press), (Instr.callCancel, FrameStep.cancel),
      (Instr.callAck, FrameStep.ack), (Instr.pageSamples, FrameStep.samples)]) ∧
    (withHead (mismatchStation 1) (frameFrom 2 0x10#8 [5,2])).headFor FrameStep.detect = some (frameFrom 2 0x10#8 [5,2]) ∧
    (withHead (mismatchStation 1) (frameFrom 2 0x10#8 [5,2])).findStation (frameFrom 2 0x10#8 [5,2]).frame.src = some 1 ∧
    ((withHead (mismatchStation 1) (frameFrom 2 0x10#8 [5,2])).stationLive 1).presence = Presence.mismatch) ∧
  ((withHead (mismatchStation 3) (frameFrom 99 1#8 [])).headFor FrameStep.keep = some (frameFrom 99 1#8 []) ∧
    (withHead (mismatchStation 3) (frameFrom 99 1#8 [])).findStation (frameFrom 99 1#8 []).frame.src = none) :=
  ⟨⟨by decide, by decide, by decide⟩,
  ⟨by decide, by decide, by decide, by decide⟩,
  ⟨by decide, by decide⟩⟩

/-- A KEEP of station `i`, from a presence. -/
def keepFrom (i : Nat) (p : Presence) : State := withHead (presenceIs p i) (frameFrom (i + 1) 1#8 [] (stationOf i).homePort)

theorem witness_FramesAreHeardOrDropped_changes :
  ∀ p ∈ [Presence.unknown, .missing, .present, .mismatch], ∀ i ∈ [0, 1, 2, 4, 5, 6],
    (keepFrom i p).headFor .keep = some (frameFrom (i + 1) 1#8 [] (stationOf i).homePort) ∧
    (keepFrom i p).findStation (frameFrom (i + 1) 1#8 [] (stationOf i).homePort).frame.src = some i ∧
    (keepFrom i p).station i = some (stationOf i) ∧ ((keepFrom i p).stationLive i).presence = p := by decide

theorem witness_ThirdMissedPeriodLosesTheStation :
  (base.station 0 = some (stationOf 0) ∧ (base.stationLive 0).supervision = some 9000000 ∧
    ((base.stationLive 0).missed < 2 ∨ (base.stationLive 0).presence = Presence.missing)) ∧
  (∀ i ∈ [0, 1, 2, 3, 4, 5, 6, 7], (twoMisses i base).station i = some (stationOf i) ∧
    ((twoMisses i base).stationLive i).supervision = some 9000000 ∧ 2 ≤ ((twoMisses i base).stationLive i).missed ∧
    ((twoMisses i base).stationLive i).presence = .present) ∧
  ((mismatchStation 2).station 2 = some (stationOf 2) ∧ ((mismatchStation 2).stationLive 2).supervision = some 9000000 ∧
    2 ≤ ((mismatchStation 2).stationLive 2).missed ∧ ((mismatchStation 2).stationLive 2).presence = .mismatch) :=
  ⟨⟨by decide, by decide, by decide⟩, by decide, by decide, by decide, by decide, by decide⟩

set_option maxRecDepth 20000 in
theorem witness_GoodFramesActOnTheirPort :
  (base.inPlace = true ∧ (base.port 0).state = PortState.up ∧ (base.port 0).judges = true ∧
    judgeLine (LineEvent.bytes pressFrame.bytes) = Except.ok pressFrame ∧ base.exchange.intake.length < 16) ∧
  (stateGoodFramesActOnTheirPort1.inPlace = true ∧ (stateGoodFramesActOnTheirPort1.port 0).state = PortState.up ∧
    (stateGoodFramesActOnTheirPort1.port 0).judges = true ∧
    judgeLine (LineEvent.bytes pressFrame.bytes) = Except.ok pressFrame ∧
    16 ≤ stateGoodFramesActOnTheirPort1.exchange.intake.length) ∧
  (stateGoodFramesActOnTheirPort2.inPlace = true ∧ (stateGoodFramesActOnTheirPort2.port 0).judges = true ∧
    judgeLine (LineEvent.bytes pressFrame.bytes) = Except.ok pressFrame ∧
    stateGoodFramesActOnTheirPort2.exchange.intake.length < 16 ∧
    ((stateGoodFramesActOnTheirPort2.port 0).state = PortState.down ∨ (stateGoodFramesActOnTheirPort2.port 0).state =
        PortState.trial) ∧
    (stateGoodFramesActOnTheirPort2.port 0).state = PortState.down) ∧
  (stateGoodFramesActOnTheirPort3.inPlace = true ∧ (stateGoodFramesActOnTheirPort3.port 0).judges = true ∧
    judgeLine (LineEvent.bytes pressFrame.bytes) = Except.ok pressFrame ∧
    stateGoodFramesActOnTheirPort3.exchange.intake.length < 16 ∧
    ((stateGoodFramesActOnTheirPort3.port 0).state = PortState.down ∨ (stateGoodFramesActOnTheirPort3.port 0).state =
        PortState.trial) ∧
    (stateGoodFramesActOnTheirPort3.port 0).state = PortState.trial ∧
    (stateGoodFramesActOnTheirPort3.port 0).trial < 2) ∧
  (stateGoodFramesActOnTheirPort4.inPlace = true ∧ (stateGoodFramesActOnTheirPort4.port 0).judges = true ∧
    judgeLine (LineEvent.bytes stateGoodFramesActOnTheirPort5.bytes) = Except.ok stateGoodFramesActOnTheirPort5 ∧
    stateGoodFramesActOnTheirPort4.exchange.intake.length < 16 ∧
    ((stateGoodFramesActOnTheirPort4.port 0).state = PortState.down ∨ (stateGoodFramesActOnTheirPort4.port 0).state =
        PortState.trial) ∧
    (stateGoodFramesActOnTheirPort4.port 0).state = PortState.trial ∧
    2 ≤ (stateGoodFramesActOnTheirPort4.port 0).trial) :=
  ⟨⟨by decide, by decide, by decide, by decide, by decide⟩,
  ⟨by decide, by decide, by decide, by decide, by decide⟩,
  ⟨by decide, by decide, by decide, by decide, by decide, by decide⟩,
  ⟨by decide, by decide, by decide, by decide, by decide, by decide, by decide⟩,
  ⟨by decide, by decide, by decide, by decide, by decide, by decide, by decide⟩⟩

set_option maxRecDepth 20000 in
theorem witness_BadFramesAndSilenceTakeAPortDown :
  (stateBadFramesAndSilenceTakeAPortDown1.inPlace = true ∧
    (stateBadFramesAndSilenceTakeAPortDown1.port 0).judges = true ∧
    judgeLine (LineEvent.bytes (pressFrame.bytes.set 9 1)) = Except.error LineCheck.check ∧
    (stateBadFramesAndSilenceTakeAPortDown1.port 0).state = PortState.up ∧
    5 ≤ (stateBadFramesAndSilenceTakeAPortDown1.port 0).badRun) ∧
  (base.inPlace = true ∧ (base.port 0).judges = true ∧
    judgeLine LineEvent.noMark = Except.error LineCheck.noise ∧ (base.port 0).state = PortState.up ∧
    (base.port 0).badRun < 5) ∧
  (stateBadFramesAndSilenceTakeAPortDown2.inPlace = true ∧
    (stateBadFramesAndSilenceTakeAPortDown2.port 0).judges = true ∧
    judgeLine (LineEvent.bytes pressFrame.bytes.dropLast) = Except.error LineCheck.length ∧
    (stateBadFramesAndSilenceTakeAPortDown2.port 0).state = PortState.trial) ∧
  (stateBadFramesAndSilenceTakeAPortDown3.inPlace = true ∧
    (stateBadFramesAndSilenceTakeAPortDown3.port 0).judges = true ∧
    judgeLine (LineEvent.bytes []) = Except.error LineCheck.runt ∧
    (stateBadFramesAndSilenceTakeAPortDown3.port 0).state = PortState.down) ∧
  ((stateBadFramesAndSilenceTakeAPortDown4.port 0).silence = some 30000) :=
  ⟨⟨by decide, by decide, by decide, by decide, by decide⟩,
  ⟨by decide, by decide, by decide, by decide, by decide⟩,
  ⟨by decide, by decide, by decide, by decide⟩,
  ⟨by decide, by decide, by decide, by decide⟩,
  by decide⟩

theorem witness_TheTransmitterTakesAndSends :
  ((base.port 0).keepTimer = some 10000 ∧ (base.port 0).state ≠ PortState.loop ∧ (base.port 0).hand = none) ∧
  ((stateTheTransmitterTakesAndSends1.port 0).hand = some (Hand.mk HandSource.keep 0 HandPhase.deferring) ∧
    (Hand.mk HandSource.keep 0 HandPhase.deferring).phase = HandPhase.deferring) ∧
  ((sendingNormal.port 0).state = PortState.up ∧ (sendingNormal.port 0).hand = some (sending QueueClass.normal) ∧
    (sending QueueClass.normal).phase = HandPhase.sending ∧ (txFrame 3).report = Report.none ∧
    (sending QueueClass.normal).source = HandSource.queue QueueClass.normal ∧
    (sendingNormal.port 0).headOf QueueClass.normal = some (txFrame 3)) ∧
  ((stateTheTransmitterTakesAndSends2.port 0).state = PortState.up ∧
    (stateTheTransmitterTakesAndSends2.port 0).hand = some (Hand.mk HandSource.keep 0 HandPhase.sending) ∧
    (Hand.mk HandSource.keep 0 HandPhase.sending).phase = HandPhase.sending ∧ (txFrame 3).report = Report.none ∧
    (Hand.mk HandSource.keep 0 HandPhase.sending).source = HandSource.keep) ∧
  ((((withPort 0 fun x => {x with hand := some {source := .queue .normal}, normal := [txFrame 3]}).port 0).keepTimer =
      some 10000) ∧
    (((withPort 0 fun x => {x with hand := some {source := .queue .normal}, normal := [txFrame 3]}).port 0).state = .up) ∧
    (((withPort 0 fun x => {x with hand := some {source := .queue .normal}, normal := [txFrame 3]}).port 0).hand =
        some {source := .queue .normal})) ∧
  ((backingOff.port 0).hand = some {source := .keep, phase := .backoff 1 7000009}) :=
  ⟨⟨by decide, by decide, by decide⟩,
  ⟨by decide, by decide⟩,
  ⟨by decide, by decide, by decide, by decide, by decide, by decide⟩,
  ⟨by decide, by decide, by decide, by decide, by decide⟩,
  ⟨by decide, by decide, by decide⟩,
  by decide⟩

theorem witness_ClashesBackOffOrAbandon :
  ((stateClashesBackOffOrAbandon1.port 0).hand = some (Hand.mk HandSource.keep 0 HandPhase.sending) ∧
    (Hand.mk HandSource.keep 0 HandPhase.sending).phase = HandPhase.sending ∧
    (Hand.mk HandSource.keep 0 HandPhase.sending).source = HandSource.keep) ∧
  ((sendingUrgently.port 0).hand = some stateClashesBackOffOrAbandon2 ∧
    stateClashesBackOffOrAbandon2.phase = HandPhase.sending ∧
    stateClashesBackOffOrAbandon2.source = HandSource.queue QueueClass.safety ∧
    11 ≤ stateClashesBackOffOrAbandon2.attempts) ∧
  ((stateClashesBackOffOrAbandon3.port 0).hand = some (sending QueueClass.normal) ∧
    (sending QueueClass.normal).phase = HandPhase.sending ∧
    (sending QueueClass.normal).source = HandSource.queue QueueClass.normal ∧
    (stateClashesBackOffOrAbandon3.port 0).headOf QueueClass.normal = some (txFrame 3 (34#8) 40) ∧
    (txFrame 3 (34#8) 40).short = false) ∧
  ((stateClashesBackOffOrAbandon4.port 0).hand = some (sending QueueClass.normal) ∧
    (sending QueueClass.normal).phase = HandPhase.sending ∧
    (sending QueueClass.normal).source = HandSource.queue QueueClass.normal ∧
    (stateClashesBackOffOrAbandon4.port 0).headOf QueueClass.normal = some (txFrame 3 (34#8) 4) ∧
    (txFrame 3 (34#8) 4).short = true) :=
  ⟨⟨by decide, by decide, by decide⟩,
  ⟨by decide, by decide, by decide, by decide⟩,
  ⟨by decide, by decide, by decide, by decide, by decide⟩,
  ⟨by decide, by decide, by decide, by decide, by decide⟩⟩

theorem witness_ForwardingFollowsTheDestination :
  ((withHead base (forwardFrame 4#16)).headFor FrameStep.forward = some (forwardFrame 4#16) ∧
    BitVec.msb (forwardFrame 4#16).frame.dest = false ∧
    forwardedFrame (forwardFrame 4#16) =
        TxFrame.mk (forwardFrame 4#16).frame.dest (forwardFrame 4#16).frame.src (forwardFrame 4#16).frame.kind
        (TxPayload.raw (forwardFrame 4#16).frame.payload) Report.none ∧
    (((withHead base (forwardFrame 4#16)).takeHead (forwardFrame 4#16)).findStation (forwardFrame 4#16).frame.dest).bind
        ((withHead base (forwardFrame 4#16)).takeHead (forwardFrame 4#16)).station = some (stationOf 3) ∧
    (stationOf 3).homePort ≠ (forwardFrame 4#16).port ∧ (stationOf 3).homePort < 5 ∧
    (((withHead base (forwardFrame 4#16)).takeHead (forwardFrame 4#16)).port (stationOf 3).homePort).state = PortState.up ∧
    ((forwardFrame 4#16).frame.kind ≠ 48#8 ∧
    (((withHead base (forwardFrame 4#16)).takeHead (forwardFrame 4#16)).port (stationOf 3).homePort).normal.length < 16 ∨
        (forwardFrame 4#16).frame.kind = 48#8 ∧
    (((withHead base (forwardFrame 4#16)).takeHead (forwardFrame 4#16)).port (stationOf 3).homePort).stream.length < 4)) ∧
  ((withHead base (forwardFrame 444#16)).headFor FrameStep.forward = some (forwardFrame 444#16) ∧
    BitVec.msb (forwardFrame 444#16).frame.dest = false ∧
    forwardedFrame (forwardFrame 444#16) =
        TxFrame.mk (forwardFrame 444#16).frame.dest (forwardFrame 444#16).frame.src (forwardFrame 444#16).frame.kind
        (TxPayload.raw (forwardFrame 444#16).frame.payload) Report.none ∧
    (((withHead base (forwardFrame 444#16)).takeHead (forwardFrame 444#16)).findStation (forwardFrame
        444#16).frame.dest).bind ((withHead base (forwardFrame 444#16)).takeHead (forwardFrame 444#16)).station = none) ∧
  ((withHead base (forwardFrame 1#16)).headFor FrameStep.forward = some (forwardFrame 1#16) ∧
    BitVec.msb (forwardFrame 1#16).frame.dest = false ∧
    forwardedFrame (forwardFrame 1#16) =
        TxFrame.mk (forwardFrame 1#16).frame.dest (forwardFrame 1#16).frame.src (forwardFrame 1#16).frame.kind
        (TxPayload.raw (forwardFrame 1#16).frame.payload) Report.none ∧
    (((withHead base (forwardFrame 1#16)).takeHead (forwardFrame 1#16)).findStation (forwardFrame 1#16).frame.dest).bind
        ((withHead base (forwardFrame 1#16)).takeHead (forwardFrame 1#16)).station = some (stationOf 0) ∧
    (stationOf 0).homePort = (forwardFrame 1#16).port) ∧
  ((withHead stateForwardingFollowsTheDestination1 (forwardFrame 4#16)).headFor FrameStep.forward = some (forwardFrame 4#16) ∧
    BitVec.msb (forwardFrame 4#16).frame.dest = false ∧
    forwardedFrame (forwardFrame 4#16) =
        TxFrame.mk (forwardFrame 4#16).frame.dest (forwardFrame 4#16).frame.src (forwardFrame 4#16).frame.kind
        (TxPayload.raw (forwardFrame 4#16).frame.payload) Report.none ∧
    (((withHead stateForwardingFollowsTheDestination1 (forwardFrame 4#16)).takeHead (forwardFrame 4#16)).findStation
        (forwardFrame 4#16).frame.dest).bind ((withHead stateForwardingFollowsTheDestination1 (forwardFrame
        4#16)).takeHead (forwardFrame 4#16)).station = some (stationOf 3) ∧
    (stationOf 3).homePort ≠ (forwardFrame 4#16).port ∧
    (((withHead stateForwardingFollowsTheDestination1 (forwardFrame 4#16)).takeHead (forwardFrame 4#16)).port (stationOf
        3).homePort).state ≠ PortState.up) ∧
  ((withHead stateForwardingFollowsTheDestination2 (forwardFrame 4#16)).headFor FrameStep.forward = some (forwardFrame 4#16) ∧
    BitVec.msb (forwardFrame 4#16).frame.dest = false ∧
    forwardedFrame (forwardFrame 4#16) =
        TxFrame.mk (forwardFrame 4#16).frame.dest (forwardFrame 4#16).frame.src (forwardFrame 4#16).frame.kind
        (TxPayload.raw (forwardFrame 4#16).frame.payload) Report.none ∧
    (((withHead stateForwardingFollowsTheDestination2 (forwardFrame 4#16)).takeHead (forwardFrame 4#16)).findStation
        (forwardFrame 4#16).frame.dest).bind ((withHead stateForwardingFollowsTheDestination2 (forwardFrame
        4#16)).takeHead (forwardFrame 4#16)).station = some (stationOf 3) ∧
    (stationOf 3).homePort ≠ (forwardFrame 4#16).port ∧ (stationOf 3).homePort < 5 ∧
    (((withHead stateForwardingFollowsTheDestination2 (forwardFrame 4#16)).takeHead (forwardFrame 4#16)).port (stationOf
        3).homePort).state = PortState.up ∧
    (forwardFrame 4#16).frame.kind ≠ 48#8 ∧
    16 ≤ (((withHead stateForwardingFollowsTheDestination2 (forwardFrame 4#16)).takeHead (forwardFrame 4#16)).port
        (stationOf 3).homePort).normal.length) ∧
  ((withHead base (forwardFrame 0xFFFF#16)).headFor FrameStep.forward = some (forwardFrame 0xFFFF#16) ∧
    BitVec.msb (forwardFrame 0xFFFF#16).frame.dest = true ∧
    forwardedFrame (forwardFrame 0xFFFF#16) =
        TxFrame.mk (forwardFrame 0xFFFF#16).frame.dest (forwardFrame 0xFFFF#16).frame.src (forwardFrame
        0xFFFF#16).frame.kind (TxPayload.raw (forwardFrame 0xFFFF#16).frame.payload) Report.none ∧
    (∀ (p : ℕ), goesTo stateForwardingFollowsTheDestination3 (forwardFrame 0xFFFF#16) p ↔ p < 5 ∧
    p ≠ (forwardFrame 0xFFFF#16).port ∧ (stateForwardingFollowsTheDestination3.port p).state = PortState.up ∧
    ((forwardFrame 0xFFFF#16).frame.dest = 65535#16 ∨
        (stateForwardingFollowsTheDestination3.tables.ports.getD p (PortCfg.mk (BitVec.allOnes 64) false)).filter.getLsbD
        (((BitVec.extractLsb' 8 8 (forwardFrame 0xFFFF#16).frame.dest).toNat + (BitVec.extractLsb' 0 8 (forwardFrame
        0xFFFF#16).frame.dest).toNat) % 64) = true)) ∧
    (∀ p < 5, if (forwardFrame 0xFFFF#16).frame.kind =
        48#8 then (stateForwardingFollowsTheDestination3.port p).stream.length < 4 else
        (stateForwardingFollowsTheDestination3.port p).normal.length < 16) ∧
    (∃ p < 5, goesTo stateForwardingFollowsTheDestination3 (forwardFrame 0xFFFF#16) p)) ∧
  ((withHead s10 (forwardFrame 0x8003#16)).headFor FrameStep.forward = some (forwardFrame 0x8003#16) ∧
    BitVec.msb (forwardFrame 0x8003#16).frame.dest = true ∧
    forwardedFrame (forwardFrame 0x8003#16) =
        TxFrame.mk (forwardFrame 0x8003#16).frame.dest (forwardFrame 0x8003#16).frame.src (forwardFrame
        0x8003#16).frame.kind (TxPayload.raw (forwardFrame 0x8003#16).frame.payload) Report.none ∧
    (∀ (p : ℕ), goesTo stateForwardingFollowsTheDestination4 (forwardFrame 0x8003#16) p ↔ p < 5 ∧
    p ≠ (forwardFrame 0x8003#16).port ∧ (stateForwardingFollowsTheDestination4.port p).state = PortState.up ∧
    ((forwardFrame 0x8003#16).frame.dest = 65535#16 ∨
        (stateForwardingFollowsTheDestination4.tables.ports.getD p (PortCfg.mk (BitVec.allOnes 64) false)).filter.getLsbD
        (((BitVec.extractLsb' 8 8 (forwardFrame 0x8003#16).frame.dest).toNat + (BitVec.extractLsb' 0 8 (forwardFrame
        0x8003#16).frame.dest).toNat) % 64) = true)) ∧
    (∀ p < 5, if (forwardFrame 0x8003#16).frame.kind =
        48#8 then (stateForwardingFollowsTheDestination4.port p).stream.length < 4 else
        (stateForwardingFollowsTheDestination4.port p).normal.length < 16) ∧
    (∀ p < 5, ¬goesTo stateForwardingFollowsTheDestination4 (forwardFrame 0x8003#16) p)) :=
  ⟨⟨by decide, by decide, by decide, by decide, by decide, by decide, by decide, by decide⟩,
  ⟨by decide, by decide, by decide, by decide⟩,
  ⟨by decide, by decide, by decide, by decide, by decide⟩,
  ⟨by decide, by decide, by decide, by decide, by decide, by decide⟩,
  ⟨by decide, by decide, by decide, by decide, by decide, by decide, by decide, by decide, by decide⟩,
  ⟨by decide, by decide, by decide, fun _ => Iff.rfl, by decide, by decide⟩,
  ⟨by decide, by decide, by decide, fun _ => Iff.rfl, by decide, by decide⟩⟩

theorem witness_ResetsKeepWhatTheyKeep :
  (base.settings.writing = none) ∧
  (restarting.settings.restart = some 7100000 ∧
    (∀ k < 2, (restarting.shaft k).fault = false ∨ restarting.shaftEnabled k = false)) ∧
  (Accepted (withOrder base) FrameStep.order none rOrder) ∧
  (restarting.settings.restart = some 7100000 ∧
    (restarting.port 4).hand = some {source := .queue .normal, phase := .sending} ∧
    (restarting.port 4).headOf .normal = some {txFrame 8 0x48#8 4 with report := .restart}) :=
  ⟨by decide,
  ⟨by decide, by decide⟩,
  accepted_of (by decide),
  ⟨by decide, by decide, by decide⟩⟩

theorem witness_AutoloadTakesOnlyAValidImage :
  (loadable.inPlace = false) :=
  by decide

theorem witness_SecondBoundariesRunTheClock :
  (stateSecondBoundariesRunTheClock1.clock.running = true ∧ stateSecondBoundariesRunTheClock1.clock.seconds < 60 ∧
    stateSecondBoundariesRunTheClock1.clock.minutes < 60 ∧ stateSecondBoundariesRunTheClock1.clock.hours < 24 ∧
    stateSecondBoundariesRunTheClock1.clock.weekday < 7 ∧ stateSecondBoundariesRunTheClock1.clock.day < 65536 ∧
    0 < stateSecondBoundariesRunTheClock1.clock.trimInterval ∧
    stateSecondBoundariesRunTheClock1.clock.trimCount + 1 < stateSecondBoundariesRunTheClock1.clock.trimInterval ∧
    stateSecondBoundariesRunTheClock1.clock.seconds < 58) ∧
  (stateSecondBoundariesRunTheClock2.clock.running = true ∧
    stateSecondBoundariesRunTheClock2.clock.seconds < 60 ∧ stateSecondBoundariesRunTheClock2.clock.minutes < 60 ∧
    stateSecondBoundariesRunTheClock2.clock.hours < 24 ∧ stateSecondBoundariesRunTheClock2.clock.weekday < 7 ∧
    stateSecondBoundariesRunTheClock2.clock.day < 65536 ∧
    0 < stateSecondBoundariesRunTheClock2.clock.trimInterval ∧
    stateSecondBoundariesRunTheClock2.clock.trimInterval ≤ stateSecondBoundariesRunTheClock2.clock.trimCount + 1) ∧
  (base.clock.running = true ∧ base.clock.seconds < 60 ∧ base.clock.minutes < 60 ∧ base.clock.hours < 24 ∧
    base.clock.weekday < 7 ∧ base.clock.day < 65536 ∧ base.clock.trimInterval = 0) ∧
  ((stateSecondBoundariesRunTheClock3.clock.running = true ∨ stateSecondBoundariesRunTheClock3.clock.valid = true) ∧
    stateSecondBoundariesRunTheClock3.clock.running = false) ∧
  (stateSecondBoundariesRunTheClock4.clock.running = false ∧ stateSecondBoundariesRunTheClock4.clock.valid = false) :=
  ⟨⟨by decide, by decide, by decide, by decide, by decide, by decide, by decide, by decide, by decide⟩,
  ⟨by decide, by decide, by decide, by decide, by decide, by decide, by decide, by decide⟩,
  ⟨by decide, by decide, by decide, by decide, by decide, by decide, by decide⟩,
  ⟨by decide, by decide⟩,
  ⟨by decide, by decide⟩⟩

theorem witness_MinuteEventStampsWhatFires :
  (base.clock.running = true ∧ base.clock.valid = true ∧ base.inPlace = true ∧ base.clock.seconds = 59 ∧
    base.clock.step = none) ∧
  (stateMinuteEventStampsWhatFires1.clock.running = true ∧ stateMinuteEventStampsWhatFires1.clock.valid = true ∧
    stateMinuteEventStampsWhatFires1.inPlace = true ∧ stateMinuteEventStampsWhatFires1.clock.seconds = 59 ∧
    stateMinuteEventStampsWhatFires1.clock.step = none ∧
    (firstEntryFree (inMode .open false (runShaft0 base))).clock.boundary = stateMinuteEventStampsWhatFires1.clock.boundary ∧
    stateMinuteEventStampsWhatFires1.entry 5 = some (entryOf DayAction.close) ∧
    ((entryOf DayAction.close).enabled = true ∧
    (entryOf DayAction.close).weekdays.getLsbD (firstEntryFree (inMode .open false (runShaft0
        base))).clock.boundary.weekday = true ∧
    (entryOf DayAction.close).hour = (firstEntryFree (inMode .open false (runShaft0 base))).clock.boundary.hours ∧
    (entryOf DayAction.close).minute = (firstEntryFree (inMode .open false (runShaft0 base))).clock.boundary.minutes ∧
    stateMinuteEventStampsWhatFires1.day.stamps.at? 5 ≠ some (firstEntryFree (inMode .open false (runShaft0
        base))).clock.boundary.day) ∧
    (∀ (j : ℕ) (d : ScheduleEntry), j ≠ 5 → stateMinuteEventStampsWhatFires1.entry j = some d → ¬(d.enabled = true ∧
    d.weekdays.getLsbD (firstEntryFree (inMode .open false (runShaft0 base))).clock.boundary.weekday = true ∧
    d.hour = (firstEntryFree (inMode .open false (runShaft0 base))).clock.boundary.hours ∧
    d.minute = (firstEntryFree (inMode .open false (runShaft0 base))).clock.boundary.minutes ∧
    stateMinuteEventStampsWhatFires1.day.stamps.at? j ≠ some (firstEntryFree (inMode .open false (runShaft0
        base))).clock.boundary.day)) ∧
    (entryOf DayAction.close).action = DayAction.close ∧
    stateMinuteEventStampsWhatFires1.day.mode ≠ StoreMode.closed ∧
    stateMinuteEventStampsWhatFires1.day.closePending = false ∧
    (stateMinuteEventStampsWhatFires1.shaftStands 0 = false ∨ stateMinuteEventStampsWhatFires1.shaftStands 1 = false)) ∧
  ((withEntry 5 (entryOf .announce) (firstEntryFree base)).clock.running = true ∧
    (withEntry 5 (entryOf .announce) (firstEntryFree base)).clock.valid = true ∧
    (withEntry 5 (entryOf .announce) (firstEntryFree base)).inPlace = true ∧
    (withEntry 5 (entryOf .announce) (firstEntryFree base)).clock.seconds = 59 ∧
    (withEntry 5 (entryOf .announce) (firstEntryFree base)).clock.step = none ∧
    (firstEntryFree base).clock.boundary = (withEntry 5 (entryOf .announce) (firstEntryFree base)).clock.boundary ∧
    (withEntry 5 (entryOf .announce) (firstEntryFree base)).entry 5 = some (entryOf DayAction.announce) ∧
    ((entryOf DayAction.announce).enabled = true ∧
    (entryOf DayAction.announce).weekdays.getLsbD (firstEntryFree base).clock.boundary.weekday = true ∧
    (entryOf DayAction.announce).hour = (firstEntryFree base).clock.boundary.hours ∧
    (entryOf DayAction.announce).minute = (firstEntryFree base).clock.boundary.minutes ∧
    (withEntry 5 (entryOf .announce) (firstEntryFree base)).day.stamps.at? 5 ≠ some (firstEntryFree base).clock.boundary.day) ∧
    (∀ (j : ℕ) (d : ScheduleEntry), j ≠ 5 → (withEntry 5 (entryOf .announce) (firstEntryFree base)).entry j =
        some d → ¬(d.enabled = true ∧
    d.weekdays.getLsbD (firstEntryFree base).clock.boundary.weekday = true ∧
    d.hour = (firstEntryFree base).clock.boundary.hours ∧
    d.minute = (firstEntryFree base).clock.boundary.minutes ∧
    (withEntry 5 (entryOf .announce) (firstEntryFree base)).day.stamps.at? j ≠ some (firstEntryFree base).clock.boundary.day)) ∧
    (entryOf DayAction.announce).action = DayAction.announce ∧
    ((entryOf DayAction.announce).phrase = none ∨
        (entryOf DayAction.announce).zones &&& ~~~(withEntry 5 (entryOf .announce) (firstEntryFree base)).overlayMask = 0#16)) ∧
  (stateMinuteEventStampsWhatFires2.clock.running = true ∧ stateMinuteEventStampsWhatFires2.clock.valid = true ∧
    stateMinuteEventStampsWhatFires2.inPlace = true ∧ stateMinuteEventStampsWhatFires2.clock.seconds = 59 ∧
    stateMinuteEventStampsWhatFires2.clock.step = none ∧
    (firstEntryFree (inMode .closing)).clock.boundary = stateMinuteEventStampsWhatFires2.clock.boundary ∧
    stateMinuteEventStampsWhatFires2.entry 5 = some (entryOf DayAction.beginClosing) ∧
    ((entryOf DayAction.beginClosing).enabled = true ∧
    (entryOf DayAction.beginClosing).weekdays.getLsbD (firstEntryFree (inMode .closing)).clock.boundary.weekday = true ∧
    (entryOf DayAction.beginClosing).hour = (firstEntryFree (inMode .closing)).clock.boundary.hours ∧
    (entryOf DayAction.beginClosing).minute = (firstEntryFree (inMode .closing)).clock.boundary.minutes ∧
    stateMinuteEventStampsWhatFires2.day.stamps.at? 5 ≠ some (firstEntryFree (inMode .closing)).clock.boundary.day) ∧
    (∀ (j : ℕ) (d : ScheduleEntry), j ≠ 5 → stateMinuteEventStampsWhatFires2.entry j = some d → ¬(d.enabled = true ∧
    d.weekdays.getLsbD (firstEntryFree (inMode .closing)).clock.boundary.weekday = true ∧
    d.hour = (firstEntryFree (inMode .closing)).clock.boundary.hours ∧
    d.minute = (firstEntryFree (inMode .closing)).clock.boundary.minutes ∧
    stateMinuteEventStampsWhatFires2.day.stamps.at? j ≠ some (firstEntryFree (inMode .closing)).clock.boundary.day)) ∧
    (((entryOf DayAction.beginClosing).action, stateMinuteEventStampsWhatFires2.day.mode) ∈ [(DayAction.beginClosing,
        StoreMode.closing), (DayAction.beginClosing, StoreMode.lastCall), (DayAction.beginClosing, StoreMode.closed),
        (DayAction.lastCall, StoreMode.lastCall), (DayAction.lastCall, StoreMode.closed), (DayAction.close,
        StoreMode.closed), (DayAction.open, StoreMode.open)] ∨ (entryOf DayAction.beginClosing).action = DayAction.close ∧
    stateMinuteEventStampsWhatFires2.day.mode = StoreMode.lastCall ∧
    stateMinuteEventStampsWhatFires2.day.closePending = true)) :=
  ⟨⟨by decide, by decide, by decide, by decide, by decide⟩,
  ⟨by decide, by decide, by decide, by decide, by decide, by decide, by decide, by decide, entries_all (by decide),
      by decide, by decide, by decide, by decide⟩,
  ⟨by decide, by decide, by decide, by decide, by decide, by decide, by decide, by decide, entries_all (by decide),
      by decide, by decide⟩,
  ⟨by decide, by decide, by decide, by decide, by decide, by decide, by decide, by decide, entries_all (by decide), by decide⟩⟩

theorem witness_StoreModeAndCloseWait :
  (Accepted (withOrder base) FrameStep.order none rOrder ∧ (orderTaken base).day.closePending = false ∧
    (orderTaken base).day.mode = StoreMode.open ∧
    ((orderTaken base).day.mode ∈ [StoreMode.open, StoreMode.closing]) ∧ (orderTaken base).day.overdue = false ∧
    (orderTaken base).shaftStands 0 = true ∧ (orderTaken base).shaftStands 1 = true) ∧
  (Accepted (withOrder (inMode .lastCall)) FrameStep.order none rOrder ∧
    (orderTaken (inMode .lastCall)).day.closePending = false ∧
    (orderTaken (inMode .lastCall)).day.mode = StoreMode.lastCall ∧
    (orderTaken (inMode .lastCall)).shaftStands 0 = true ∧ (orderTaken (inMode .lastCall)).shaftStands 1 = true ∧
    (orderTaken (inMode .lastCall)).day.mode ≠ StoreMode.open) ∧
  (Accepted (withOrder (inMode .lastCall false stateStoreModeAndCloseWait1)) FrameStep.order none rOrder ∧
    (orderTaken (inMode .lastCall false stateStoreModeAndCloseWait1)).day.closePending = false ∧
    (orderTaken (inMode .lastCall false stateStoreModeAndCloseWait1)).day.mode = StoreMode.lastCall ∧
    ((orderTaken (inMode .lastCall false stateStoreModeAndCloseWait1)).shaftStands 0 = false ∨
        (orderTaken (inMode .lastCall false stateStoreModeAndCloseWait1)).shaftStands 1 = false) ∧
    (orderTaken (inMode .lastCall false stateStoreModeAndCloseWait1)).day.mode ≠ StoreMode.open) ∧
  (Accepted (withOrder (inMode .closing false (moving .running))) FrameStep.order none rOrder ∧
    (orderTaken (inMode .closing false (moving .running))).day.closePending = false ∧
    ((orderTaken (inMode .closing false (moving .running))).day.mode ∈ [StoreMode.open, StoreMode.closing]) ∧
    (orderTaken (inMode .closing false (moving .running))).day.overdue = false ∧
    ((orderTaken (inMode .closing false (moving .running))).shaftStands 0 = false ∨
        (orderTaken (inMode .closing false (moving .running))).shaftStands 1 = false) ∧
    (orderTaken (inMode .closing false (moving .running))).day.mode ≠ StoreMode.open ∧
    (orderTaken (inMode .closing false (moving .running))).day.mode ≠ StoreMode.lastCall) ∧
  (Accepted stateStoreModeAndCloseWait2 FrameStep.order none rOrder ∧
    (ModeFields.mk (Given.val ModeAction.beginClosing) (some 3) (some 1#16) (some 511)).action =
        Given.val ModeAction.beginClosing ∧
    (ModeFields.mk (Given.val ModeAction.beginClosing) (some 3) (some 1#16) (some 511)).zones = some 1#16 ∧
    (ModeFields.mk (Given.val ModeAction.beginClosing) (some 3) (some 1#16) (some 511)).gain = some 511 ∧
    (Option.all (fun p => decide (p ≤ 127)) (ModeFields.mk (Given.val ModeAction.beginClosing) (some 3) (some 1#16) (some
        511)).phrase = true) ∧
    stateStoreModeAndCloseWait3.day.closePending = false ∧
    ((ModeAction.beginClosing, stateStoreModeAndCloseWait3.day.mode) ∈ [(ModeAction.beginClosing, StoreMode.open),
        (ModeAction.lastCall, StoreMode.open), (ModeAction.lastCall, StoreMode.closing), (ModeAction.close,
        StoreMode.open), (ModeAction.close, StoreMode.closing), (ModeAction.close, StoreMode.lastCall), (ModeAction.open,
        StoreMode.closed), (ModeAction.open, StoreMode.closing), (ModeAction.open, StoreMode.lastCall)]) ∧
    ((ModeFields.mk (Given.val ModeAction.beginClosing) (some 3) (some 1#16) (some 511)).phrase = none ∨
        1#16 &&& ~~~stateStoreModeAndCloseWait3.overlayMask = 0#16)) ∧
  ((closeWaiting id).day.closeWait = some 7000100 ∧ (closeWaiting id).day.closePending = true ∧
    (closeWaiting id).shaftStands 0 = true ∧ (closeWaiting id).shaftStands 1 = true) ∧
  (stateStoreModeAndCloseWait4.day.closeWait = some 7000100 ∧
    stateStoreModeAndCloseWait4.day.closePending = true ∧
    (∃ k < 2, stateStoreModeAndCloseWait4.shaftEnabled k = true ∧
    (stateStoreModeAndCloseWait4.shaft k).state ∈ [ShaftState.homing, ShaftState.running, ShaftState.lastRun,
        ShaftState.clearing, ShaftState.stopping])) ∧
  (((closeWaiting fun x => inState x .running).day.closeWait = some 7000100) ∧
    ((closeWaiting fun x => inState x .running).shaftEnabled 0 = true) ∧
    (((closeWaiting fun x => inState x .running).shaft 0).state = .running)) ∧
  (((closeWaiting fun x => {inState x .lastRun with advance := some 9}).day.closeWait = some 7000100) ∧
    ((closeWaiting fun x => {inState x .lastRun with advance := some 9}).shaftEnabled 0 = true) ∧
    (((closeWaiting fun x => {inState x .lastRun with advance := some 9}).shaft 0).state = .lastRun)) ∧
  (stateStoreModeAndCloseWait5.day.closeWait = some 7000100 ∧ stateStoreModeAndCloseWait5.shaftEnabled 0 = true ∧
    (stateStoreModeAndCloseWait5.shaft 0).state = .homing) ∧
  (stateStoreModeAndCloseWait6.day.closeWait = some 7000100 ∧ stateStoreModeAndCloseWait6.shaftEnabled 0 = true ∧
    (stateStoreModeAndCloseWait6.shaft 0).state = .homing) :=
  ⟨⟨accepted_of (by decide), by decide, by decide, by decide, by decide, by decide, by decide⟩,
  ⟨accepted_of (by decide), by decide, by decide, by decide, by decide, by decide⟩,
  ⟨accepted_of (by decide), by decide, by decide, by decide, by decide⟩,
  ⟨accepted_of (by decide), by decide, by decide, by decide, by decide, by decide, by decide⟩,
  ⟨accepted_of (by decide), by decide, by decide, by decide, by decide, by decide, by decide, by decide⟩,
  ⟨by decide, by decide, by decide, by decide⟩,
  ⟨by decide, by decide, by decide⟩,
  ⟨by decide, by decide, by decide⟩,
  ⟨by decide, by decide, by decide⟩,
  ⟨by decide, by decide, by decide⟩,
  ⟨by decide, by decide, by decide⟩⟩

theorem witness_RequestsAreJudgedInOrder :
  (requestStep (Instr.startShaft 0) = some FrameStep.order ∧
    base.requestFor FrameStep.order (requestObject (Instr.startShaft 0)) = none) ∧
  (requestStep (Instr.startShaft 0) = some FrameStep.order ∧
    (withOrder consoleMismatch).requestFor FrameStep.order (requestObject (Instr.startShaft 0)) = some rOrder ∧
    (orderTaken consoleMismatch).passes rOrder = false) ∧
  (requestStep (Instr.startShaft 0) = some FrameStep.order ∧
    (withHead base shortOrder).requestFor FrameStep.order (requestObject (Instr.startShaft 0)) = some shortOrder ∧
    ((withHead base shortOrder).takeHead shortOrder).passes shortOrder = true ∧ shortOrder.port = 4 ∧
    (withHead base shortOrder).fromConsole shortOrder.frame.src = true ∧ shortOrder.frame.payload.length < 4) ∧
  (requestStep (Instr.startShaft 0) = some FrameStep.order ∧
    (withHead base orderOnStoreLine).requestFor FrameStep.order (requestObject (Instr.startShaft 0)) = some orderOnStoreLine ∧
    ((withHead base orderOnStoreLine).takeHead orderOnStoreLine).passes orderOnStoreLine = true ∧
    (orderOnStoreLine.port ≠ 4 ∨ (withHead base orderOnStoreLine).fromConsole orderOnStoreLine.frame.src = false)) ∧
  (requestStep (Instr.startShaft 0) = some FrameStep.order ∧
    (withOrder restartPending).requestFor FrameStep.order (requestObject (Instr.startShaft 0)) = some rOrder ∧
    (orderTaken restartPending).passes rOrder = true ∧ rOrder.port = 4 ∧
    (withOrder restartPending).fromConsole rOrder.frame.src = true ∧ 4 ≤ rOrder.frame.payload.length ∧
    (withOrder restartPending).settings.restart ≠ none ∧ FrameStep.order ≠ FrameStep.query) ∧
  (requestStep (Instr.startShaft 1) = some FrameStep.order ∧ baseOrder.headFor FrameStep.order = some rOrder ∧
    requestObject (Instr.startShaft 1) = some 1 ∧ rOrder.frame.payload[3]? = some 0#8 ∧ (0#8).toNat ≠ 1) :=
  ⟨⟨by decide, by decide⟩,
  ⟨by decide, by decide, by decide⟩,
  ⟨by decide, by decide, by decide, by decide, by decide, by decide⟩,
  ⟨by decide, by decide, by decide, by decide⟩,
  ⟨by decide, by decide, by decide, by decide, by decide, by decide, by decide, by decide⟩,
  ⟨by decide, by decide, by decide, by decide, by decide⟩⟩

theorem witness_ClockOrdersSetStepAndTrim :
  (Accepted (withOrder base) FrameStep.order none rOrder ∧ ((ClockFields.mk 59 59 23 6 65535).seconds < 60 ∧
    (ClockFields.mk 59 59 23 6 65535).minutes < 60 ∧ (ClockFields.mk 59 59 23 6 65535).hours < 24 ∧
    (ClockFields.mk 59 59 23 6 65535).weekday < 7 ∧ (ClockFields.mk 59 59 23 6 65535).day < 65536)) ∧
  (Accepted (withOrder base) FrameStep.order none rOrder ∧ (¬((ClockFields.mk 60 0 9 6 0).seconds < 60 ∧
    (ClockFields.mk 60 0 9 6 0).minutes < 60 ∧ (ClockFields.mk 60 0 9 6 0).hours < 24 ∧
    (ClockFields.mk 60 0 9 6 0).weekday < 7 ∧ (ClockFields.mk 60 0 9 6 0).day < 65536))) :=
  ⟨⟨accepted_of (by decide), by decide⟩,
  ⟨accepted_of (by decide), by decide⟩⟩

theorem witness_StartShaftEntersService :
  (Accepted (withOrder unplaced) FrameStep.order (some 0) rOrder ∧ (orderTaken unplaced).shaftEnabled 0 = true ∧
    (((orderTaken unplaced).shaft 0).state ∈ [ShaftState.idle, ShaftState.held]) ∧
    (orderTaken unplaced).startBarred 0 = false ∧ (orderTaken unplaced).day.overdue = false ∧
    ((orderTaken unplaced).shaft 0).posValid = false) ∧
  (Accepted baseOrder FrameStep.order (some 0) rOrder ∧ (orderTaken base).shaftEnabled 0 = true ∧
    (((orderTaken base).shaft 0).state ∈ [ShaftState.idle, ShaftState.held]) ∧
    (orderTaken base).startBarred 0 = false ∧ (orderTaken base).day.overdue = false ∧
    ((orderTaken base).shaft 0).posValid = true) ∧
  (Accepted (withOrder base 2) FrameStep.order (some 2) (rOrder 2)) ∧
  (Accepted (withOrder base 1) FrameStep.order (some 1) (rOrder 1) ∧
    ((orderTaken base 1).shaftEnabled 1 = false ∨ ((orderTaken base 1).shaft 1).state ∉ [ShaftState.idle,
        ShaftState.held] ∨ (orderTaken base 1).day.mode = StoreMode.closed ∨ ((orderTaken base 1).shaft 1).ready = false ∨
        ((orderTaken base 1).shaft 1).fault = true ∨ ((orderTaken base 1).shaft 1).zoneFlags ≠ 0#16 ∨
        (∃ i ∈ (orderTaken base 1).shaftShutters 1, ((orderTaken base 1).shutterLive i).state ∉ [ShutterState.open,
        ShutterState.isolated]) ∨ ∃ l ∈ (orderTaken base 1).landings 1, ((orderTaken base 1).landingLive 1 l).stopPulled =
        true ∨ (orderTaken base 1).overlayOf ((orderTaken base 1).landingZone 1 l) = true)) :=
  ⟨⟨accepted_of (by decide), by decide, by decide, by decide, by decide, by decide⟩,
  ⟨accepted_of (by decide), by decide, by decide, by decide, by decide, by decide⟩,
  accepted_of (by decide),
  ⟨accepted_of (by decide), by decide⟩⟩

theorem witness_StopAndResetShaft :
  (Accepted (withOrder runningShaft) FrameStep.order (some 0) rOrder ∧
    (orderTaken runningShaft).shaftEnabled 0 = true ∧ ((orderTaken runningShaft).shaft 0).park = none ∧
    (orderTaken runningShaft).sills 0 ≠ [] ∧
    (((orderTaken runningShaft).shaft 0).state ∈ [ShaftState.running, ShaftState.lastRun])) ∧
  (Accepted (withOrder homingShaft) FrameStep.order (some 0) rOrder ∧
    (orderTaken homingShaft).shaftEnabled 0 = true ∧ ((orderTaken homingShaft).shaft 0).park = none ∧
    (orderTaken homingShaft).sills 0 ≠ [] ∧ ((orderTaken homingShaft).shaft 0).state = ShaftState.homing) ∧
  (Accepted (withOrder base 2) FrameStep.order (some 2) (rOrder 2)) ∧
  (Accepted (withOrder base) FrameStep.order (some 0) rOrder ∧ (orderTaken base).shaftEnabled 0 = true ∧
    (((orderTaken base).shaft 0).state ∈ [ShaftState.idle, ShaftState.stopping, ShaftState.tripped])) ∧
  (Accepted (withOrder driveTrip) FrameStep.order (some 0) rOrder ∧
    (orderTaken driveTrip).shaftEnabled 0 = true ∧ ((orderTaken driveTrip).shaft 0).state = ShaftState.tripped ∧
    ((orderTaken driveTrip).shaft 0).ready = true ∧ ((orderTaken driveTrip).shaft 0).fault = false ∧
    (∀ l ∈ (orderTaken driveTrip).landings 0, ((orderTaken driveTrip).landingLive 0 l).stopPulled = false ∧
    ((orderTaken driveTrip).landingLive 0 l).sillTripped = false) ∧
    ((orderTaken driveTrip).shaft 0).standstill = 3 ∧ (orderTaken driveTrip).day.closePending = false ∧
    ((orderTaken driveTrip).shaft 0).clearSet = []) ∧
  (Accepted (withOrder base 2) FrameStep.order (some 2) (rOrder 2)) ∧
  (Accepted (withOrder driveTripMoving) FrameStep.order (some 0) rOrder ∧
    (orderTaken driveTripMoving).shaftEnabled 0 = true ∧
    ((orderTaken driveTripMoving).shaft 0).state = ShaftState.tripped ∧
    ((orderTaken driveTripMoving).shaft 0).ready = true ∧ ((orderTaken driveTripMoving).shaft 0).fault = false ∧
    (∀ l ∈ (orderTaken driveTripMoving).landings 0, ((orderTaken driveTripMoving).landingLive 0 l).stopPulled = false ∧
    ((orderTaken driveTripMoving).landingLive 0 l).sillTripped = false) ∧
    ((orderTaken driveTripMoving).shaft 0).standstill ≠ 3) ∧
  (Accepted (withOrder driveTripNotReady) FrameStep.order (some 0) rOrder ∧
    (orderTaken driveTripNotReady).shaftEnabled 0 = true ∧
    ((orderTaken driveTripNotReady).shaft 0).state = ShaftState.tripped ∧
    (((orderTaken driveTripNotReady).shaft 0).ready = false ∨ ((orderTaken driveTripNotReady).shaft 0).fault = true)) ∧
  (Accepted (withOrder driveTripSill) FrameStep.order (some 0) rOrder ∧
    (orderTaken driveTripSill).shaftEnabled 0 = true ∧
    ((orderTaken driveTripSill).shaft 0).state = ShaftState.tripped ∧
    ((orderTaken driveTripSill).shaft 0).ready = true ∧ ((orderTaken driveTripSill).shaft 0).fault = false ∧
    (∃ l ∈ (orderTaken driveTripSill).landings 0, ((orderTaken driveTripSill).landingLive 0 l).stopPulled = true ∨
        ((orderTaken driveTripSill).landingLive 0 l).sillTripped = true)) ∧
  (Accepted (withOrder driveTripSill 1) FrameStep.order (some 1) (rOrder 1) ∧
    ((orderTaken driveTripSill 1).shaftEnabled 1 = false ∨
        ((orderTaken driveTripSill 1).shaft 1).state ≠ ShaftState.tripped)) :=
  ⟨⟨accepted_of (by decide), by decide, by decide, by decide, by decide⟩,
  ⟨accepted_of (by decide), by decide, by decide, by decide, by decide⟩,
  accepted_of (by decide),
  ⟨accepted_of (by decide), by decide, by decide⟩,
  ⟨accepted_of (by decide), by decide, by decide, by decide, by decide, by decide, by decide, by decide, by decide⟩,
  accepted_of (by decide),
  ⟨accepted_of (by decide), by decide, by decide, by decide, by decide, by decide, by decide⟩,
  ⟨accepted_of (by decide), by decide, by decide, by decide⟩,
  ⟨accepted_of (by decide), by decide, by decide, by decide, by decide, by decide⟩,
  ⟨accepted_of (by decide), by decide⟩⟩

set_option maxRecDepth 20000 in
theorem witness_DetectorsMoveTheZone :
  (Tapped (withHead base (detector 7 3)) FrameStep.detect (detector 7 3) ∧ (detector 7 3).frame.payload = [7, 3] ∧
    (afterHead base (detector 7 3)).findStation (detector 7 3).frame.src = some 1 ∧
    (afterHead base (detector 7 3)).findPoint 1 ((7#8 : Byte).toNat) = some 2 ∧
    (afterHead base (detector 7 3)).point 2 = some (PointCfg.mk 1 7 0 PointKind.manual) ∧
    (PointCfg.mk 1 7 0 PointKind.manual).zone < 16 ∧ PointState.ofByte 3 = some PointState.manual ∧
    (((afterHead base (detector 7 3)).zone (PointCfg.mk 1 7 0 PointKind.manual).zone).state ∈ [ZoneState.normal,
        ZoneState.alert]) ∧
    reportClass (PointCfg.mk 1 7 0 PointKind.manual).kind PointState.manual = ReportClass.manual ∧
    ((afterHead base (detector 7 3)).zone (PointCfg.mk 1 7 0 PointKind.manual).zone).state ≠ ZoneState.alarm) ∧
  (Tapped (withHead base (detector 5 2)) FrameStep.detect (detector 5 2) ∧
    (detector 5 2).frame.payload = [5, 2] ∧
    (afterHead base (detector 5 2)).findStation (detector 5 2).frame.src = some 1 ∧
    (afterHead base (detector 5 2)).findPoint 1 ((5#8 : Byte).toNat) = some 0 ∧
    (afterHead base (detector 5 2)).point 0 = some (PointCfg.mk 1 5 0 PointKind.automatic) ∧
    (PointCfg.mk 1 5 0 PointKind.automatic).zone < 16 ∧ PointState.ofByte 2 = some PointState.alarm ∧
    ((afterHead base (detector 5 2)).zone (PointCfg.mk 1 5 0 PointKind.automatic).zone).state = ZoneState.normal ∧
    reportClass (PointCfg.mk 1 5 0 PointKind.automatic).kind PointState.alarm = ReportClass.automatic ∧
    ((withHead base (detector 5 2)).zoneCfg (PointCfg.mk 1 5 0 PointKind.automatic).zone).doubleKnock = true) ∧
  (Tapped (withHead base (detector 5 1)) FrameStep.detect (detector 5 1) ∧
    (detector 5 1).frame.payload = [5, 1] ∧
    (afterHead base (detector 5 1)).findStation (detector 5 1).frame.src = some 1 ∧
    (afterHead base (detector 5 1)).findPoint 1 ((5#8 : Byte).toNat) = some 0 ∧
    (afterHead base (detector 5 1)).point 0 = some (PointCfg.mk 1 5 0 PointKind.automatic) ∧
    (PointCfg.mk 1 5 0 PointKind.automatic).zone < 16 ∧ PointState.ofByte 1 = some PointState.prealarm ∧
    ((afterHead base (detector 5 1)).zone (PointCfg.mk 1 5 0 PointKind.automatic).zone).state = ZoneState.normal ∧
    reportClass (PointCfg.mk 1 5 0 PointKind.automatic).kind PointState.prealarm = ReportClass.prealarm) ∧
  (Tapped (withHead base (detector 8 2)) FrameStep.detect (detector 8 2) ∧
    (detector 8 2).frame.payload = [8, 2] ∧
    (afterHead base (detector 8 2)).findStation (detector 8 2).frame.src = some 1 ∧
    (afterHead base (detector 8 2)).findPoint 1 ((8#8 : Byte).toNat) = some 3 ∧
    (afterHead base (detector 8 2)).point 3 = some (PointCfg.mk 1 8 1 PointKind.automatic) ∧
    (PointCfg.mk 1 8 1 PointKind.automatic).zone < 16 ∧ PointState.ofByte 2 = some PointState.alarm ∧
    ((afterHead base (detector 8 2)).zone (PointCfg.mk 1 8 1 PointKind.automatic).zone).state = ZoneState.normal ∧
    reportClass (PointCfg.mk 1 8 1 PointKind.automatic).kind PointState.alarm = ReportClass.automatic ∧
    ((withHead base (detector 8 2)).zoneCfg (PointCfg.mk 1 8 1 PointKind.automatic).zone).doubleKnock = false ∧
    ((afterHead base (detector 8 2)).zone (PointCfg.mk 1 8 1 PointKind.automatic).zone).state ≠ ZoneState.alarm) ∧
  (Tapped (withHead rst (detector 5 2)) FrameStep.detect (detector 5 2) ∧ (detector 5 2).frame.payload = [5, 2] ∧
    (afterHead rst (detector 5 2)).findStation (detector 5 2).frame.src = some 1 ∧
    (afterHead rst (detector 5 2)).findPoint 1 ((5#8 : Byte).toNat) = some 0 ∧
    (afterHead rst (detector 5 2)).point 0 = some (PointCfg.mk 1 5 0 PointKind.automatic) ∧
    (PointCfg.mk 1 5 0 PointKind.automatic).zone < 16 ∧ PointState.ofByte 2 = some PointState.alarm ∧
    (((afterHead rst (detector 5 2)).zone (PointCfg.mk 1 5 0 PointKind.automatic).zone).state ∈ [ZoneState.silenced,
        ZoneState.resetting]) ∧
    (reportClass (PointCfg.mk 1 5 0 PointKind.automatic).kind PointState.alarm ∈ [ReportClass.automatic, ReportClass.manual]) ∧
    (((afterHead rst (detector 5 2)).pointLive 0).state ∉ [PointState.alarm, PointState.manual]) ∧
    ((afterHead rst (detector 5 2)).zone (PointCfg.mk 1 5 0 PointKind.automatic).zone).state ≠ ZoneState.alarm) ∧
  (Tapped (withHead stateDetectorsMoveTheZone1 (detector 5 2)) FrameStep.detect (detector 5 2) ∧
    (detector 5 2).frame.payload = [5, 2] ∧
    (afterHead stateDetectorsMoveTheZone1 (detector 5 2)).findStation (detector 5 2).frame.src = some 1 ∧
    (afterHead stateDetectorsMoveTheZone1 (detector 5 2)).findPoint 1 ((5#8 : Byte).toNat) = some 0 ∧
    (afterHead stateDetectorsMoveTheZone1 (detector 5 2)).point 0 = some (PointCfg.mk 1 5 0 PointKind.automatic) ∧
    (PointCfg.mk 1 5 0 PointKind.automatic).zone < 16 ∧ PointState.ofByte 2 = some PointState.alarm ∧
    ((afterHead stateDetectorsMoveTheZone1 (detector 5 2)).zone (PointCfg.mk 1 5 0 PointKind.automatic).zone).state =
        ZoneState.alert ∧
    reportClass (PointCfg.mk 1 5 0 PointKind.automatic).kind PointState.alarm = ReportClass.automatic ∧
    ((withHead stateDetectorsMoveTheZone1 (detector 5 2)).zoneCfg (PointCfg.mk 1 5 0
        PointKind.automatic).zone).doubleKnock = false ∧
    ((afterHead stateDetectorsMoveTheZone1 (detector 5 2)).zone (PointCfg.mk 1 5 0 PointKind.automatic).zone).state ≠
        ZoneState.alarm) ∧
  (Tapped (withHead alarmZone (detector 6 2)) FrameStep.detect (detector 6 2) ∧
    (detector 6 2).frame.payload = [6, 2] ∧
    (afterHead alarmZone (detector 6 2)).findStation (detector 6 2).frame.src = some 1 ∧
    (afterHead alarmZone (detector 6 2)).findPoint 1 ((6#8 : Byte).toNat) = some 1 ∧
    (afterHead alarmZone (detector 6 2)).point 1 = some (PointCfg.mk 1 6 0 PointKind.automatic) ∧
    (PointCfg.mk 1 6 0 PointKind.automatic).zone < 16 ∧ PointState.ofByte 2 = some PointState.alarm ∧
    ((afterHead alarmZone (detector 6 2)).zone (PointCfg.mk 1 6 0 PointKind.automatic).zone).state = ZoneState.alarm ∧
    (reportClass (PointCfg.mk 1 6 0 PointKind.automatic).kind PointState.alarm ∈ [ReportClass.automatic, ReportClass.manual]) ∧
    (((afterHead alarmZone (detector 6 2)).pointLive 1).state ∉ [PointState.alarm, PointState.manual])) ∧
  (Tapped (withHead base (detector 5 0)) FrameStep.detect (detector 5 0) ∧
    (detector 5 0).frame.payload = [5, 0] ∧
    ((withHead base (detector 5 0)).takeHead (detector 5 0)).findStation (detector 5 0).frame.src = some 1 ∧
    ((withHead base (detector 5 0)).takeHead (detector 5 0)).findPoint 1 ((5#8 : Byte).toNat) = some 0 ∧
    ((withHead base (detector 5 0)).takeHead (detector 5 0)).point 0 = some (PointCfg.mk 1 5 0 PointKind.automatic) ∧
    (PointCfg.mk 1 5 0 PointKind.automatic).zone < 16 ∧ PointState.ofByte 0 = some PointState.normal ∧
    (((withHead base (detector 5 0)).takeHead (detector 5 0)).zone (PointCfg.mk 1 5 0 PointKind.automatic).zone).state =
        ZoneState.normal ∧
    reportClass (PointCfg.mk 1 5 0 PointKind.automatic).kind PointState.normal = ReportClass.clearing) ∧
  (Tapped (withHead alertZone (detector 6 2)) FrameStep.detect (detector 6 2) ∧
    (detector 6 2).frame.payload = [6, 2] ∧
    (afterHead alertZone (detector 6 2)).findStation (detector 6 2).frame.src = some 1 ∧
    (afterHead alertZone (detector 6 2)).findPoint 1 ((6#8 : Byte).toNat) = some 1 ∧
    (afterHead alertZone (detector 6 2)).point 1 = some (PointCfg.mk 1 6 0 PointKind.automatic) ∧
    (PointCfg.mk 1 6 0 PointKind.automatic).zone < 16 ∧ PointState.ofByte 2 = some PointState.alarm ∧
    ((afterHead alertZone (detector 6 2)).zone (PointCfg.mk 1 6 0 PointKind.automatic).zone).state = ZoneState.alert ∧
    (reportClass (PointCfg.mk 1 6 0 PointKind.automatic).kind PointState.alarm ∈ [ReportClass.clearing,
        ReportClass.prealarm] ∨ reportClass (PointCfg.mk 1 6 0 PointKind.automatic).kind PointState.alarm =
        ReportClass.automatic ∧
    ((withHead alertZone (detector 6 2)).zoneCfg (PointCfg.mk 1 6 0 PointKind.automatic).zone).doubleKnock = true ∧
    ((afterHead alertZone (detector 6 2)).zone (PointCfg.mk 1 6 0 PointKind.automatic).zone).knockPoint = some 1)) ∧
  (Tapped (withHead alarmZone (detector 7 4)) FrameStep.detect (detector 7 4) ∧
    (detector 7 4).frame.payload = [7, 4] ∧
    (afterHead alarmZone (detector 7 4)).findStation (detector 7 4).frame.src = some 1 ∧
    (afterHead alarmZone (detector 7 4)).findPoint 1 ((7#8 : Byte).toNat) = some 2 ∧
    (afterHead alarmZone (detector 7 4)).point 2 = some (PointCfg.mk 1 7 0 PointKind.manual) ∧
    (PointCfg.mk 1 7 0 PointKind.manual).zone < 16 ∧ PointState.ofByte 4 = some PointState.fault ∧
    ((afterHead alarmZone (detector 7 4)).zone (PointCfg.mk 1 7 0 PointKind.manual).zone).state = ZoneState.alarm ∧
    (reportClass (PointCfg.mk 1 7 0 PointKind.manual).kind PointState.fault ∈ [ReportClass.clearing,
        ReportClass.prealarm] ∨ ((afterHead alarmZone (detector 7 4)).pointLive 2).state ∈ [PointState.alarm,
        PointState.manual])) ∧
  (Tapped (withHead stateDetectorsMoveTheZone2 (detector 5 2)) FrameStep.detect (detector 5 2) ∧
    (detector 5 2).frame.payload = [5, 2] ∧
    (afterHead stateDetectorsMoveTheZone2 (detector 5 2)).findStation (detector 5 2).frame.src = some 1 ∧
    (afterHead stateDetectorsMoveTheZone2 (detector 5 2)).findPoint 1 ((5#8 : Byte).toNat) = some 0 ∧
    (afterHead stateDetectorsMoveTheZone2 (detector 5 2)).point 0 = some (PointCfg.mk 1 5 0 PointKind.automatic) ∧
    (PointCfg.mk 1 5 0 PointKind.automatic).zone < 16 ∧ PointState.ofByte 2 = some PointState.alarm ∧
    ((afterHead stateDetectorsMoveTheZone2 (detector 5 2)).zone (PointCfg.mk 1 5 0 PointKind.automatic).zone).state =
        ZoneState.alert ∧
    reportClass (PointCfg.mk 1 5 0 PointKind.automatic).kind PointState.alarm = ReportClass.automatic ∧
    ((withHead stateDetectorsMoveTheZone2 (detector 5 2)).zoneCfg (PointCfg.mk 1 5 0
        PointKind.automatic).zone).doubleKnock = true ∧
    ((afterHead stateDetectorsMoveTheZone2 (detector 5 2)).zone (PointCfg.mk 1 5 0 PointKind.automatic).zone).knockPoint =
        none) ∧
  (Tapped (withHead stateDetectorsMoveTheZone3 (detector 5 2)) FrameStep.detect (detector 5 2) ∧
    (detector 5 2).frame.payload = [5, 2] ∧
    (afterHead stateDetectorsMoveTheZone3 (detector 5 2)).findStation (detector 5 2).frame.src = some 1 ∧
    (afterHead stateDetectorsMoveTheZone3 (detector 5 2)).findPoint 1 ((5#8 : Byte).toNat) = some 0 ∧
    (afterHead stateDetectorsMoveTheZone3 (detector 5 2)).point 0 = some (PointCfg.mk 1 5 0 PointKind.automatic) ∧
    (PointCfg.mk 1 5 0 PointKind.automatic).zone < 16 ∧ PointState.ofByte 2 = some PointState.alarm ∧
    ((afterHead stateDetectorsMoveTheZone3 (detector 5 2)).zone (PointCfg.mk 1 5 0 PointKind.automatic).zone).state =
        ZoneState.isolated) ∧
  (Tapped (withHead stateDetectorsMoveTheZone4 (detector 5 2)) FrameStep.detect (detector 5 2) ∧
    (detector 5 2).frame.payload = [5, 2] ∧
    (afterHead stateDetectorsMoveTheZone4 (detector 5 2)).findStation (detector 5 2).frame.src = some 1 ∧
    (afterHead stateDetectorsMoveTheZone4 (detector 5 2)).findPoint 1 ((5#8 : Byte).toNat) = some 0 ∧
    (afterHead stateDetectorsMoveTheZone4 (detector 5 2)).point 0 = some (PointCfg.mk 1 5 0 PointKind.automatic) ∧
    (PointCfg.mk 1 5 0 PointKind.automatic).zone < 16 ∧ PointState.ofByte 2 = some PointState.alarm ∧
    (((afterHead stateDetectorsMoveTheZone4 (detector 5 2)).zone (PointCfg.mk 1 5 0 PointKind.automatic).zone).state ∈
        [ZoneState.silenced, ZoneState.resetting]) ∧
    (reportClass (PointCfg.mk 1 5 0 PointKind.automatic).kind PointState.alarm ∈ [ReportClass.clearing,
        ReportClass.prealarm] ∨
        ((afterHead stateDetectorsMoveTheZone4 (detector 5 2)).pointLive 0).state ∈ [PointState.alarm, PointState.manual])) ∧
  ((alertCalm.zone 0).state = ZoneState.alert ∧ (alertCalm.zone 0).knockTimer = some 99000000 ∧
    (∀ (n : ℕ), (alertCalm.zone 0).knockPoint = some n → (alertCalm.pointLive n).state ≠ PointState.alarm) ∧
    (∀ (i : ℕ) (c : PointCfg), alertCalm.point i = some c → c.zone =
        0 → (alertCalm.pointLive i).state ∈ [PointState.normal, PointState.fault])) ∧
  ((alertZone.zone 0).state = ZoneState.alert ∧ (alertZone.zone 0).knockTimer = some 99000000 ∧
    (∃ n, (alertZone.zone 0).knockPoint = some n ∧ (alertZone.pointLive n).state = PointState.alarm)) ∧
  ((alertPrealarm.zone 0).state = ZoneState.alert ∧ (alertPrealarm.zone 0).knockTimer = some 99000000 ∧
    (∀ (n : ℕ), (alertPrealarm.zone 0).knockPoint = some n → (alertPrealarm.pointLive n).state ≠ PointState.alarm) ∧
    (∃ i c, alertPrealarm.point i = some c ∧ c.zone = 0 ∧
    (alertPrealarm.pointLive i).state ∈ [PointState.prealarm, PointState.alarm, PointState.manual])) :=
  ⟨⟨tapped_of (by decide), by decide, by decide, by decide, by decide, by decide, by decide, by decide, by decide, by decide⟩,
  ⟨tapped_of (by decide), by decide, by decide, by decide, by decide, by decide, by decide, by decide, by decide, by decide⟩,
  ⟨tapped_of (by decide), by decide, by decide, by decide, by decide, by decide, by decide, by decide, by decide⟩,
  ⟨tapped_of (by decide), by decide, by decide, by decide, by decide, by decide, by decide, by decide, by decide,
      by decide, by decide⟩,
  ⟨tapped_of (by decide), by decide, by decide, by decide, by decide, by decide, by decide, by decide, by decide,
      by decide, by decide⟩,
  ⟨tapped_of (by decide), by decide, by decide, by decide, by decide, by decide, by decide, by decide, by decide,
      by decide, by decide⟩,
  ⟨tapped_of (by decide), by decide, by decide, by decide, by decide, by decide, by decide, by decide, by decide, by decide⟩,
  ⟨tapped_of (by decide), by decide, by decide, by decide, by decide, by decide, by decide, by decide, by decide⟩,
  ⟨tapped_of (by decide), by decide, by decide, by decide, by decide, by decide, by decide, by decide, by decide⟩,
  ⟨tapped_of (by decide), by decide, by decide, by decide, by decide, by decide, by decide, by decide, by decide⟩,
  ⟨tapped_of (by decide), by decide, by decide, by decide, by decide, by decide, by decide, by decide, by decide,
      by decide, by decide⟩,
  ⟨tapped_of (by decide), by decide, by decide, by decide, by decide, by decide, by decide, by decide⟩,
  ⟨tapped_of (by decide), by decide, by decide, by decide, by decide, by decide, by decide, by decide, by decide⟩,
  ⟨by decide, by decide, by decide, points_all (by decide)⟩,
  ⟨by decide, by decide, by decide⟩,
  ⟨by decide, by decide, by decide, points_any (by decide)⟩⟩

theorem witness_DriveReportsUnderACommand :
  (Tapped stateDriveReportsUnderACommand1 FrameStep.shutstat (driveReport 9 0 0) ∧
    (driveReport 9 0 0).frame.payload = [0, 0] ∧
    stateDriveReportsUnderACommand2.findStation (driveReport 9 0 0).frame.src = some 8 ∧
    stateDriveReportsUnderACommand2.driveShutter 8 = some 1 ∧
    stateDriveReportsUnderACommand2.shutter 1 = some (ShutterCfg.mk 8 0 none 30 60) ∧
    CurtainPos.ofByte 0 = some CurtainPos.openEnd ∧
    (stateDriveReportsUnderACommand2.shutterLive 1).state ≠ ShutterState.isolated ∧
    stateDriveReportsUnderACommand2.isUncommanded 1 (ShutterCfg.mk 8 0 none 30 60) (DriveReport.mk CurtainPos.openEnd
        ((0#8 : Byte).getLsbD 0)) = false ∧
    (stateDriveReportsUnderACommand2.shutterLive 1).command = some ShutCommand.raise ∧
    (stateDriveReportsUnderACommand2.shutterLive 1).command ≠ none ∧
    (stateDriveReportsUnderACommand2.zone (ShutterCfg.mk 8 0 none 30 60).zone).state ≠ ZoneState.resetting) ∧
  (Tapped (withHead stateDriveReportsUnderACommand3 (driveReport 9 4 0)) FrameStep.shutstat (driveReport 9 4 0) ∧
    (driveReport 9 4 0).frame.payload = [4, 0] ∧
    (afterHead stateDriveReportsUnderACommand3 (driveReport 9 4 0)).findStation (driveReport 9 4 0).frame.src = some 8 ∧
    (afterHead stateDriveReportsUnderACommand3 (driveReport 9 4 0)).driveShutter 8 = some 1 ∧
    (afterHead stateDriveReportsUnderACommand3 (driveReport 9 4 0)).shutter 1 = some (ShutterCfg.mk 8 0 none 30 60) ∧
    CurtainPos.ofByte 4 = some CurtainPos.stoppedMid ∧
    ((afterHead stateDriveReportsUnderACommand3 (driveReport 9 4 0)).shutterLive 1).state ≠ ShutterState.isolated ∧
    (afterHead stateDriveReportsUnderACommand3 (driveReport 9 4 0)).isUncommanded 1 (ShutterCfg.mk 8 0 none 30 60)
        (DriveReport.mk CurtainPos.stoppedMid ((0#8 : Byte).getLsbD 0)) = false ∧
    ((afterHead stateDriveReportsUnderACommand3 (driveReport 9 4 0)).shutterLive 1).command = some ShutCommand.raise ∧
    ((afterHead stateDriveReportsUnderACommand3 (driveReport 9 4 0)).shutterLive 1).command ≠ none ∧
    (CurtainPos.stoppedMid ∈ [CurtainPos.stoppedMid, CurtainPos.jammed]) ∧
    ((afterHead stateDriveReportsUnderACommand3 (driveReport 9 4 0)).zone (ShutterCfg.mk 8 0 none 30 60).zone).state =
        ZoneState.resetting) ∧
  (Tapped stateDriveReportsUnderACommand4 FrameStep.shutstat (driveReport 9 1 0) ∧
    (driveReport 9 1 0).frame.payload = [1, 0] ∧
    stateDriveReportsUnderACommand5.findStation (driveReport 9 1 0).frame.src = some 8 ∧
    stateDriveReportsUnderACommand5.driveShutter 8 = some 1 ∧
    stateDriveReportsUnderACommand5.shutter 1 = some (ShutterCfg.mk 8 0 none 30 60) ∧
    CurtainPos.ofByte 1 = some CurtainPos.descending ∧
    (stateDriveReportsUnderACommand5.shutterLive 1).state ≠ ShutterState.isolated ∧
    stateDriveReportsUnderACommand5.isUncommanded 1 (ShutterCfg.mk 8 0 none 30 60) (DriveReport.mk CurtainPos.descending
        ((0#8 : Byte).getLsbD 0)) = false ∧
    (stateDriveReportsUnderACommand5.shutterLive 1).command = some ShutCommand.release ∧
    (stateDriveReportsUnderACommand5.shutterLive 1).command ≠ none ∧
    (stateDriveReportsUnderACommand5.zone (ShutterCfg.mk 8 0 none 30 60).zone).state ≠ ZoneState.resetting) ∧
  (Tapped stateDriveReportsUnderACommand6 FrameStep.shutstat (driveReport 9 2 0) ∧
    (driveReport 9 2 0).frame.payload = [2, 0] ∧
    stateDriveReportsUnderACommand7.findStation (driveReport 9 2 0).frame.src = some 8 ∧
    stateDriveReportsUnderACommand7.driveShutter 8 = some 1 ∧
    stateDriveReportsUnderACommand7.shutter 1 = some (ShutterCfg.mk 8 0 none 30 60) ∧
    CurtainPos.ofByte 2 = some CurtainPos.closedEnd ∧
    (stateDriveReportsUnderACommand7.shutterLive 1).state ≠ ShutterState.isolated ∧
    stateDriveReportsUnderACommand7.isUncommanded 1 (ShutterCfg.mk 8 0 none 30 60) (DriveReport.mk CurtainPos.closedEnd
        ((0#8 : Byte).getLsbD 0)) = false ∧
    (stateDriveReportsUnderACommand7.shutterLive 1).command = some ShutCommand.release ∧
    (stateDriveReportsUnderACommand7.shutterLive 1).command ≠ none ∧
    (stateDriveReportsUnderACommand7.zone (ShutterCfg.mk 8 0 none 30 60).zone).state ≠ ZoneState.resetting) ∧
  (Tapped stateDriveReportsUnderACommand8 FrameStep.shutstat (driveReport 9 3 0) ∧
    (driveReport 9 3 0).frame.payload = [3, 0] ∧
    stateDriveReportsUnderACommand9.findStation (driveReport 9 3 0).frame.src = some 8 ∧
    stateDriveReportsUnderACommand9.driveShutter 8 = some 1 ∧
    stateDriveReportsUnderACommand9.shutter 1 = some (ShutterCfg.mk 8 0 none 30 60) ∧
    CurtainPos.ofByte 3 = some CurtainPos.raising ∧
    (stateDriveReportsUnderACommand9.shutterLive 1).state ≠ ShutterState.isolated ∧
    stateDriveReportsUnderACommand9.isUncommanded 1 (ShutterCfg.mk 8 0 none 30 60) (DriveReport.mk CurtainPos.raising
        ((0#8 : Byte).getLsbD 0)) = false ∧
    (stateDriveReportsUnderACommand9.shutterLive 1).command = some ShutCommand.raise ∧
    (stateDriveReportsUnderACommand9.shutterLive 1).command ≠ none ∧
    (stateDriveReportsUnderACommand9.zone (ShutterCfg.mk 8 0 none 30 60).zone).state ≠ ZoneState.resetting) ∧
  (Tapped (withHead stateDriveReportsUnderACommand10 (driveReport 9 0 0)) FrameStep.shutstat (driveReport 9 0 0) ∧
    (driveReport 9 0 0).frame.payload = [0, 0] ∧
    (afterHead stateDriveReportsUnderACommand10 (driveReport 9 0 0)).findStation (driveReport 9 0 0).frame.src = some 8 ∧
    (afterHead stateDriveReportsUnderACommand10 (driveReport 9 0 0)).driveShutter 8 = some 1 ∧
    (afterHead stateDriveReportsUnderACommand10 (driveReport 9 0 0)).shutter 1 = some (ShutterCfg.mk 8 0 none 30 60) ∧
    CurtainPos.ofByte 0 = some CurtainPos.openEnd ∧
    ((afterHead stateDriveReportsUnderACommand10 (driveReport 9 0 0)).shutterLive 1).state ≠ ShutterState.isolated ∧
    (afterHead stateDriveReportsUnderACommand10 (driveReport 9 0 0)).isUncommanded 1 (ShutterCfg.mk 8 0 none 30 60)
        (DriveReport.mk CurtainPos.openEnd ((0#8 : Byte).getLsbD 0)) = false ∧
    ((afterHead stateDriveReportsUnderACommand10 (driveReport 9 0 0)).shutterLive 1).command = some ShutCommand.release ∧
    ((afterHead stateDriveReportsUnderACommand10 (driveReport 9 0 0)).shutterLive 1).resend = none ∧
    (((afterHead stateDriveReportsUnderACommand10 (driveReport 9 0 0)).zone (ShutterCfg.mk 8 0 none 30 60).zone).state ∈
        [ZoneState.alarm, ZoneState.silenced]) ∧
    ((afterHead stateDriveReportsUnderACommand10 (driveReport 9 0 0)).shutterLive 1).command ≠ none ∧
    ((afterHead stateDriveReportsUnderACommand10 (driveReport 9 0 0)).zone (ShutterCfg.mk 8 0 none 30 60).zone).state ≠
        ZoneState.resetting) ∧
  (Tapped stateDriveReportsUnderACommand11 FrameStep.shutstat (driveReport 9 3 0) ∧
    (driveReport 9 3 0).frame.payload = [3, 0] ∧
    stateDriveReportsUnderACommand12.findStation (driveReport 9 3 0).frame.src = some 8 ∧
    stateDriveReportsUnderACommand12.driveShutter 8 = some 1 ∧
    stateDriveReportsUnderACommand12.shutter 1 = some (ShutterCfg.mk 8 0 none 30 60) ∧
    CurtainPos.ofByte 3 = some CurtainPos.raising ∧
    (stateDriveReportsUnderACommand12.shutterLive 1).state ≠ ShutterState.isolated ∧
    stateDriveReportsUnderACommand12.isUncommanded 1 (ShutterCfg.mk 8 0 none 30 60) (DriveReport.mk CurtainPos.raising
        ((0#8 : Byte).getLsbD 0)) = false ∧
    (stateDriveReportsUnderACommand12.shutterLive 1).command = some ShutCommand.release ∧
    (stateDriveReportsUnderACommand12.shutterLive 1).command ≠ none ∧
    (stateDriveReportsUnderACommand12.zone (ShutterCfg.mk 8 0 none 30 60).zone).state ≠ ZoneState.resetting) ∧
  (Tapped (withHead stateDriveReportsUnderACommand13 (driveReport 9 2 0)) FrameStep.shutstat (driveReport 9 2 0) ∧
    (driveReport 9 2 0).frame.payload = [2, 0] ∧
    (afterHead stateDriveReportsUnderACommand13 (driveReport 9 2 0)).findStation (driveReport 9 2 0).frame.src = some 8 ∧
    (afterHead stateDriveReportsUnderACommand13 (driveReport 9 2 0)).driveShutter 8 = some 1 ∧
    (afterHead stateDriveReportsUnderACommand13 (driveReport 9 2 0)).shutter 1 = some (ShutterCfg.mk 8 0 none 30 60) ∧
    (ShutterCfg.mk 8 0 none 30 60).zone < 16 ∧ CurtainPos.ofByte 2 = some CurtainPos.closedEnd ∧
    DriveReport.mk CurtainPos.closedEnd ((0#8).getLsbD 0) = DriveReport.mk CurtainPos.closedEnd ((0#8 : Byte).getLsbD 0) ∧
    ((afterHead stateDriveReportsUnderACommand13 (driveReport 9 2 0)).shutterLive 1).command = none ∧
    (((afterHead stateDriveReportsUnderACommand13 (driveReport 9 2 0)).shutterLive 1).state ∈ [ShutterState.open,
        ShutterState.releaseWait, ShutterState.warning] ∨
        ((afterHead stateDriveReportsUnderACommand13 (driveReport 9 2 0)).shutterLive 1).state ∈ [ShutterState.unknown,
        ShutterState.raising] ∧
    ((afterHead stateDriveReportsUnderACommand13 (driveReport 9 2 0)).zone (ShutterCfg.mk 8 0 none 30 60).zone).state ∈
        [ZoneState.normal, ZoneState.alert]) ∧
    ((DriveReport.mk CurtainPos.closedEnd ((0#8).getLsbD 0)).localRelease = true ∨
        CurtainPos.closedEnd ∈ [CurtainPos.descending, CurtainPos.closedEnd, CurtainPos.stoppedMid, CurtainPos.jammed]) ∧
    (((afterHead stateDriveReportsUnderACommand13 (driveReport 9 2 0)).zone (ShutterCfg.mk 8 0 none 30 60).zone).state ∉
        [ZoneState.alarm, ZoneState.isolated]) ∧
    (((afterHead stateDriveReportsUnderACommand13 (driveReport 9 2 0)).shutterLive 1).state ∈ [ShutterState.unknown,
        ShutterState.raising])) ∧
  (Tapped (withHead stateDriveReportsUnderACommand14 (driveReport 9 0 0)) FrameStep.shutstat (driveReport 9 0 0) ∧
    (driveReport 9 0 0).frame.payload = [0, 0] ∧
    (afterHead stateDriveReportsUnderACommand14 (driveReport 9 0 0)).findStation (driveReport 9 0 0).frame.src = some 8 ∧
    (afterHead stateDriveReportsUnderACommand14 (driveReport 9 0 0)).driveShutter 8 = some 1 ∧
    (afterHead stateDriveReportsUnderACommand14 (driveReport 9 0 0)).shutter 1 = some (ShutterCfg.mk 8 0 none 30 60) ∧
    (ShutterCfg.mk 8 0 none 30 60).zone < 16 ∧ CurtainPos.ofByte 0 = some CurtainPos.openEnd ∧
    DriveReport.mk CurtainPos.openEnd ((0#8).getLsbD 0) = DriveReport.mk CurtainPos.openEnd ((0#8 : Byte).getLsbD 0) ∧
    ((afterHead stateDriveReportsUnderACommand14 (driveReport 9 0 0)).shutterLive 1).command = none ∧
    (((afterHead stateDriveReportsUnderACommand14 (driveReport 9 0 0)).shutterLive 1).state ∈ [ShutterState.descending,
        ShutterState.closed, ShutterState.stalled]) ∧
    (CurtainPos.openEnd ∈ [CurtainPos.openEnd, CurtainPos.raising]) ∧
    (((afterHead stateDriveReportsUnderACommand14 (driveReport 9 0 0)).zone (ShutterCfg.mk 8 0 none 30 60).zone).state ∈
        [ZoneState.alarm, ZoneState.silenced])) ∧
  (Tapped (withHead stateDriveReportsUnderACommand13 (driveReport 9 0 0)) FrameStep.shutstat (driveReport 9 0 0) ∧
    (driveReport 9 0 0).frame.payload = [0, 0] ∧
    (afterHead stateDriveReportsUnderACommand13 (driveReport 9 0 0)).findStation (driveReport 9 0 0).frame.src = some 8 ∧
    (afterHead stateDriveReportsUnderACommand13 (driveReport 9 0 0)).driveShutter 8 = some 1 ∧
    (afterHead stateDriveReportsUnderACommand13 (driveReport 9 0 0)).shutter 1 = some (ShutterCfg.mk 8 0 none 30 60) ∧
    (ShutterCfg.mk 8 0 none 30 60).zone < 16 ∧ CurtainPos.ofByte 0 = some CurtainPos.openEnd ∧
    DriveReport.mk CurtainPos.openEnd ((0#8).getLsbD 0) = DriveReport.mk CurtainPos.openEnd ((0#8 : Byte).getLsbD 0) ∧
    ((afterHead stateDriveReportsUnderACommand13 (driveReport 9 0 0)).shutterLive 1).command = none ∧
    (((afterHead stateDriveReportsUnderACommand13 (driveReport 9 0 0)).shutterLive 1).state ∈ [ShutterState.unknown,
        ShutterState.raising]) ∧
    (DriveReport.mk CurtainPos.openEnd ((0#8).getLsbD 0)).localRelease = false) ∧
  (Tapped (withHead stateDriveReportsUnderACommand14 (driveReport 9 2 0)) FrameStep.shutstat (driveReport 9 2 0) ∧
    (driveReport 9 2 0).frame.payload = [2, 0] ∧
    (afterHead stateDriveReportsUnderACommand14 (driveReport 9 2 0)).findStation (driveReport 9 2 0).frame.src = some 8 ∧
    (afterHead stateDriveReportsUnderACommand14 (driveReport 9 2 0)).driveShutter 8 = some 1 ∧
    (afterHead stateDriveReportsUnderACommand14 (driveReport 9 2 0)).shutter 1 = some (ShutterCfg.mk 8 0 none 30 60) ∧
    (ShutterCfg.mk 8 0 none 30 60).zone < 16 ∧ CurtainPos.ofByte 2 = some CurtainPos.closedEnd ∧
    DriveReport.mk CurtainPos.closedEnd ((0#8).getLsbD 0) = DriveReport.mk CurtainPos.closedEnd ((0#8 : Byte).getLsbD 0) ∧
    ((afterHead stateDriveReportsUnderACommand14 (driveReport 9 2 0)).shutterLive 1).command = none ∧
    (((afterHead stateDriveReportsUnderACommand14 (driveReport 9 2 0)).shutterLive 1).state ∈ [ShutterState.descending,
        ShutterState.closed, ShutterState.stalled])) ∧
  (Tapped (withHead stateDriveReportsUnderACommand14 (driveReport 9 4 0)) FrameStep.shutstat (driveReport 9 4 0) ∧
    (driveReport 9 4 0).frame.payload = [4, 0] ∧
    (afterHead stateDriveReportsUnderACommand14 (driveReport 9 4 0)).findStation (driveReport 9 4 0).frame.src = some 8 ∧
    (afterHead stateDriveReportsUnderACommand14 (driveReport 9 4 0)).driveShutter 8 = some 1 ∧
    (afterHead stateDriveReportsUnderACommand14 (driveReport 9 4 0)).shutter 1 = some (ShutterCfg.mk 8 0 none 30 60) ∧
    (ShutterCfg.mk 8 0 none 30 60).zone < 16 ∧ CurtainPos.ofByte 4 = some CurtainPos.stoppedMid ∧
    DriveReport.mk CurtainPos.stoppedMid ((0#8).getLsbD 0) = DriveReport.mk CurtainPos.stoppedMid ((0#8 : Byte).getLsbD 0) ∧
    ((afterHead stateDriveReportsUnderACommand14 (driveReport 9 4 0)).shutterLive 1).command = none ∧
    (((afterHead stateDriveReportsUnderACommand14 (driveReport 9 4 0)).shutterLive 1).state ∈ [ShutterState.descending,
        ShutterState.closed, ShutterState.stalled]) ∧
    (CurtainPos.stoppedMid ∈ [CurtainPos.stoppedMid, CurtainPos.jammed])) ∧
  (Tapped (withHead stateDriveReportsUnderACommand15 (driveReport 9 0 0)) FrameStep.shutstat (driveReport 9 0 0) ∧
    (driveReport 9 0 0).frame.payload = [0, 0] ∧
    (afterHead stateDriveReportsUnderACommand15 (driveReport 9 0 0)).findStation (driveReport 9 0 0).frame.src = some 8 ∧
    (afterHead stateDriveReportsUnderACommand15 (driveReport 9 0 0)).driveShutter 8 = some 1 ∧
    (afterHead stateDriveReportsUnderACommand15 (driveReport 9 0 0)).shutter 1 = some (ShutterCfg.mk 8 0 none 30 60) ∧
    (ShutterCfg.mk 8 0 none 30 60).zone < 16 ∧ CurtainPos.ofByte 0 = some CurtainPos.openEnd ∧
    DriveReport.mk CurtainPos.openEnd ((0#8).getLsbD 0) = DriveReport.mk CurtainPos.openEnd ((0#8 : Byte).getLsbD 0) ∧
    ((afterHead stateDriveReportsUnderACommand15 (driveReport 9 0 0)).shutterLive 1).command = none ∧
    (((afterHead stateDriveReportsUnderACommand15 (driveReport 9 0 0)).shutterLive 1).state ∈ [ShutterState.descending,
        ShutterState.closed, ShutterState.stalled]) ∧
    (((afterHead stateDriveReportsUnderACommand15 (driveReport 9 0 0)).zone (ShutterCfg.mk 8 0 none 30 60).zone).state ∉
        [ZoneState.alarm, ZoneState.silenced])) ∧
  (Tapped (withHead stateDriveReportsUnderACommand16 (driveReport 9 0 0)) FrameStep.shutstat (driveReport 9 0 0) ∧
    (driveReport 9 0 0).frame.payload = [0, 0] ∧
    (afterHead stateDriveReportsUnderACommand16 (driveReport 9 0 0)).findStation (driveReport 9 0 0).frame.src = some 8 ∧
    (afterHead stateDriveReportsUnderACommand16 (driveReport 9 0 0)).driveShutter 8 = some 1 ∧
    (afterHead stateDriveReportsUnderACommand16 (driveReport 9 0 0)).shutter 1 = some (ShutterCfg.mk 8 0 none 30 60) ∧
    (ShutterCfg.mk 8 0 none 30 60).zone < 16 ∧ CurtainPos.ofByte 0 = some CurtainPos.openEnd ∧
    DriveReport.mk CurtainPos.openEnd ((0#8).getLsbD 0) = DriveReport.mk CurtainPos.openEnd ((0#8 : Byte).getLsbD 0) ∧
    ((afterHead stateDriveReportsUnderACommand16 (driveReport 9 0 0)).shutterLive 1).command = none ∧
    ((afterHead stateDriveReportsUnderACommand16 (driveReport 9 0 0)).shutterLive 1).state = ShutterState.isolated ∧
    ((afterHead stateDriveReportsUnderACommand16 (driveReport 9 0 0)).zone (ShutterCfg.mk 8 0 none 30 60).zone).state =
        ZoneState.isolated) ∧
  (Tapped (withHead stateDriveReportsUnderACommand17 (driveReport 9 0 0)) FrameStep.shutstat (driveReport 9 0 0) ∧
    (driveReport 9 0 0).frame.payload = [0, 0] ∧
    (afterHead stateDriveReportsUnderACommand17 (driveReport 9 0 0)).findStation (driveReport 9 0 0).frame.src = some 8 ∧
    (afterHead stateDriveReportsUnderACommand17 (driveReport 9 0 0)).driveShutter 8 = some 1 ∧
    (afterHead stateDriveReportsUnderACommand17 (driveReport 9 0 0)).shutter 1 = some (ShutterCfg.mk 8 0 none 30 60) ∧
    (ShutterCfg.mk 8 0 none 30 60).zone < 16 ∧ CurtainPos.ofByte 0 = some CurtainPos.openEnd ∧
    DriveReport.mk CurtainPos.openEnd ((0#8).getLsbD 0) = DriveReport.mk CurtainPos.openEnd ((0#8 : Byte).getLsbD 0) ∧
    ((afterHead stateDriveReportsUnderACommand17 (driveReport 9 0 0)).shutterLive 1).command = none ∧
    (((afterHead stateDriveReportsUnderACommand17 (driveReport 9 0 0)).shutterLive 1).state ∈ [ShutterState.open,
        ShutterState.releaseWait, ShutterState.warning]) ∧
    (DriveReport.mk CurtainPos.openEnd ((0#8).getLsbD 0)).localRelease = false) ∧
  (Tapped (withHead stateDriveReportsUnderACommand17 (driveReport 9 3 0)) FrameStep.shutstat (driveReport 9 3 0) ∧
    (driveReport 9 3 0).frame.payload = [3, 0] ∧
    (afterHead stateDriveReportsUnderACommand17 (driveReport 9 3 0)).findStation (driveReport 9 3 0).frame.src = some 8 ∧
    (afterHead stateDriveReportsUnderACommand17 (driveReport 9 3 0)).driveShutter 8 = some 1 ∧
    (afterHead stateDriveReportsUnderACommand17 (driveReport 9 3 0)).shutter 1 = some (ShutterCfg.mk 8 0 none 30 60) ∧
    (ShutterCfg.mk 8 0 none 30 60).zone < 16 ∧ CurtainPos.ofByte 3 = some CurtainPos.raising ∧
    DriveReport.mk CurtainPos.raising ((0#8).getLsbD 0) = DriveReport.mk CurtainPos.raising ((0#8 : Byte).getLsbD 0) ∧
    ((afterHead stateDriveReportsUnderACommand17 (driveReport 9 3 0)).shutterLive 1).command = none ∧
    (((afterHead stateDriveReportsUnderACommand17 (driveReport 9 3 0)).shutterLive 1).state ∈ [ShutterState.open,
        ShutterState.releaseWait, ShutterState.warning]) ∧
    (DriveReport.mk CurtainPos.raising ((0#8).getLsbD 0)).localRelease = false) ∧
  (Tapped (withHead stateDriveReportsUnderACommand18 (driveReport 9 1 0)) FrameStep.shutstat (driveReport 9 1 0) ∧
    (driveReport 9 1 0).frame.payload = [1, 0] ∧
    (afterHead stateDriveReportsUnderACommand18 (driveReport 9 1 0)).findStation (driveReport 9 1 0).frame.src = some 8 ∧
    (afterHead stateDriveReportsUnderACommand18 (driveReport 9 1 0)).driveShutter 8 = some 1 ∧
    (afterHead stateDriveReportsUnderACommand18 (driveReport 9 1 0)).shutter 1 = some (ShutterCfg.mk 8 0 none 30 60) ∧
    (ShutterCfg.mk 8 0 none 30 60).zone < 16 ∧ CurtainPos.ofByte 1 = some CurtainPos.descending ∧
    DriveReport.mk CurtainPos.descending ((0#8).getLsbD 0) = DriveReport.mk CurtainPos.descending ((0#8 : Byte).getLsbD 0) ∧
    ((afterHead stateDriveReportsUnderACommand18 (driveReport 9 1 0)).shutterLive 1).command = none ∧
    (((afterHead stateDriveReportsUnderACommand18 (driveReport 9 1 0)).shutterLive 1).state ∈ [ShutterState.open,
        ShutterState.releaseWait, ShutterState.warning] ∨
        ((afterHead stateDriveReportsUnderACommand18 (driveReport 9 1 0)).shutterLive 1).state ∈ [ShutterState.unknown,
        ShutterState.raising] ∧
    ((afterHead stateDriveReportsUnderACommand18 (driveReport 9 1 0)).zone (ShutterCfg.mk 8 0 none 30 60).zone).state ∈
        [ZoneState.normal, ZoneState.alert]) ∧
    ((DriveReport.mk CurtainPos.descending ((0#8).getLsbD 0)).localRelease = true ∨
        CurtainPos.descending ∈ [CurtainPos.descending, CurtainPos.closedEnd, CurtainPos.stoppedMid, CurtainPos.jammed]) ∧
    ((afterHead stateDriveReportsUnderACommand18 (driveReport 9 1 0)).zone (ShutterCfg.mk 8 0 none 30 60).zone).state =
        ZoneState.alarm) ∧
  (Tapped (withHead stateDriveReportsUnderACommand13 (driveReport 9 3 0)) FrameStep.shutstat (driveReport 9 3 0) ∧
    (driveReport 9 3 0).frame.payload = [3, 0] ∧
    (afterHead stateDriveReportsUnderACommand13 (driveReport 9 3 0)).findStation (driveReport 9 3 0).frame.src = some 8 ∧
    (afterHead stateDriveReportsUnderACommand13 (driveReport 9 3 0)).driveShutter 8 = some 1 ∧
    (afterHead stateDriveReportsUnderACommand13 (driveReport 9 3 0)).shutter 1 = some (ShutterCfg.mk 8 0 none 30 60) ∧
    (ShutterCfg.mk 8 0 none 30 60).zone < 16 ∧ CurtainPos.ofByte 3 = some CurtainPos.raising ∧
    DriveReport.mk CurtainPos.raising ((0#8).getLsbD 0) = DriveReport.mk CurtainPos.raising ((0#8 : Byte).getLsbD 0) ∧
    ((afterHead stateDriveReportsUnderACommand13 (driveReport 9 3 0)).shutterLive 1).command = none ∧
    (((afterHead stateDriveReportsUnderACommand13 (driveReport 9 3 0)).shutterLive 1).state ∈ [ShutterState.unknown,
        ShutterState.raising]) ∧
    (DriveReport.mk CurtainPos.raising ((0#8).getLsbD 0)).localRelease = false) ∧
  (Tapped (withHead stateDriveReportsUnderACommand14 (driveReport 9 1 0)) FrameStep.shutstat (driveReport 9 1 0) ∧
    (driveReport 9 1 0).frame.payload = [1, 0] ∧
    (afterHead stateDriveReportsUnderACommand14 (driveReport 9 1 0)).findStation (driveReport 9 1 0).frame.src = some 8 ∧
    (afterHead stateDriveReportsUnderACommand14 (driveReport 9 1 0)).driveShutter 8 = some 1 ∧
    (afterHead stateDriveReportsUnderACommand14 (driveReport 9 1 0)).shutter 1 = some (ShutterCfg.mk 8 0 none 30 60) ∧
    (ShutterCfg.mk 8 0 none 30 60).zone < 16 ∧ CurtainPos.ofByte 1 = some CurtainPos.descending ∧
    DriveReport.mk CurtainPos.descending ((0#8).getLsbD 0) = DriveReport.mk CurtainPos.descending ((0#8 : Byte).getLsbD 0) ∧
    ((afterHead stateDriveReportsUnderACommand14 (driveReport 9 1 0)).shutterLive 1).command = none ∧
    (((afterHead stateDriveReportsUnderACommand14 (driveReport 9 1 0)).shutterLive 1).state ∈ [ShutterState.descending,
        ShutterState.closed, ShutterState.stalled])) ∧
  (Tapped (withHead stateDriveReportsUnderACommand15 (driveReport 9 3 0)) FrameStep.shutstat (driveReport 9 3 0) ∧
    (driveReport 9 3 0).frame.payload = [3, 0] ∧
    (afterHead stateDriveReportsUnderACommand15 (driveReport 9 3 0)).findStation (driveReport 9 3 0).frame.src = some 8 ∧
    (afterHead stateDriveReportsUnderACommand15 (driveReport 9 3 0)).driveShutter 8 = some 1 ∧
    (afterHead stateDriveReportsUnderACommand15 (driveReport 9 3 0)).shutter 1 = some (ShutterCfg.mk 8 0 none 30 60) ∧
    (ShutterCfg.mk 8 0 none 30 60).zone < 16 ∧ CurtainPos.ofByte 3 = some CurtainPos.raising ∧
    DriveReport.mk CurtainPos.raising ((0#8).getLsbD 0) = DriveReport.mk CurtainPos.raising ((0#8 : Byte).getLsbD 0) ∧
    ((afterHead stateDriveReportsUnderACommand15 (driveReport 9 3 0)).shutterLive 1).command = none ∧
    (((afterHead stateDriveReportsUnderACommand15 (driveReport 9 3 0)).shutterLive 1).state ∈ [ShutterState.descending,
        ShutterState.closed, ShutterState.stalled]) ∧
    (((afterHead stateDriveReportsUnderACommand15 (driveReport 9 3 0)).zone (ShutterCfg.mk 8 0 none 30 60).zone).state ∉
        [ZoneState.alarm, ZoneState.silenced])) :=
  ⟨⟨tapped_of (by decide), by decide, by decide, by decide, by decide, by decide, by decide, by decide, by decide,
      by decide, by decide⟩,
  ⟨tapped_of (by decide), by decide, by decide, by decide, by decide, by decide, by decide, by decide, by decide,
      by decide, by decide, by decide⟩,
  ⟨tapped_of (by decide), by decide, by decide, by decide, by decide, by decide, by decide, by decide, by decide,
      by decide, by decide⟩,
  ⟨tapped_of (by decide), by decide, by decide, by decide, by decide, by decide, by decide, by decide, by decide,
      by decide, by decide⟩,
  ⟨tapped_of (by decide), by decide, by decide, by decide, by decide, by decide, by decide, by decide, by decide,
      by decide, by decide⟩,
  ⟨tapped_of (by decide), by decide, by decide, by decide, by decide, by decide, by decide, by decide, by decide,
      by decide, by decide, by decide, by decide⟩,
  ⟨tapped_of (by decide), by decide, by decide, by decide, by decide, by decide, by decide, by decide, by decide,
      by decide, by decide⟩,
  ⟨tapped_of (by decide), by decide, by decide, by decide, by decide, by decide, by decide, by decide, by decide,
      by decide, by decide, by decide, by decide⟩,
  ⟨tapped_of (by decide), by decide, by decide, by decide, by decide, by decide, by decide, by decide, by decide,
      by decide, by decide, by decide⟩,
  ⟨tapped_of (by decide), by decide, by decide, by decide, by decide, by decide, by decide, by decide, by decide,
      by decide, by decide⟩,
  ⟨tapped_of (by decide), by decide, by decide, by decide, by decide, by decide, by decide, by decide, by decide, by decide⟩,
  ⟨tapped_of (by decide), by decide, by decide, by decide, by decide, by decide, by decide, by decide, by decide,
      by decide, by decide⟩,
  ⟨tapped_of (by decide), by decide, by decide, by decide, by decide, by decide, by decide, by decide, by decide,
      by decide, by decide⟩,
  ⟨tapped_of (by decide), by decide, by decide, by decide, by decide, by decide, by decide, by decide, by decide,
      by decide, by decide⟩,
  ⟨tapped_of (by decide), by decide, by decide, by decide, by decide, by decide, by decide, by decide, by decide,
      by decide, by decide⟩,
  ⟨tapped_of (by decide), by decide, by decide, by decide, by decide, by decide, by decide, by decide, by decide,
      by decide, by decide⟩,
  ⟨tapped_of (by decide), by decide, by decide, by decide, by decide, by decide, by decide, by decide, by decide,
      by decide, by decide, by decide⟩,
  ⟨tapped_of (by decide), by decide, by decide, by decide, by decide, by decide, by decide, by decide, by decide,
      by decide, by decide⟩,
  ⟨tapped_of (by decide), by decide, by decide, by decide, by decide, by decide, by decide, by decide, by decide, by decide⟩,
  ⟨tapped_of (by decide), by decide, by decide, by decide, by decide, by decide, by decide, by decide, by decide,
      by decide, by decide⟩⟩

theorem witness_ShutterTimersAct :
  (waitingShutter.shutter 0 = some (ShutterCfg.mk 2 0 (some (LandingRef.mk 0 3)) 30 60) ∧
    (waitingShutter.shutterLive 0).clearance = some 8500000 ∧
    (ShutterCfg.mk 2 0 (some (LandingRef.mk 0 3)) 30 60).landing = some (LandingRef.mk 0 3) ∧
    (LandingRef.mk 0 3).shaft < 2 ∧ (waitingShutter.shutterLive 0).state = ShutterState.releaseWait ∧
    waitingShutter.shaftEnabled (LandingRef.mk 0 3).shaft = true ∧
    (waitingShutter.shaft (LandingRef.mk 0 3).shaft).state ≠ ShaftState.tripped) ∧
  (stateShutterTimersAct1.shutter 0 = some landingShutter ∧
    (stateShutterTimersAct1.shutterLive 0).warning = some 8500000 ∧
    (stateShutterTimersAct1.shutterLive 0).state = ShutterState.warning) ∧
  (descendingShutter.shutter 1 = some (ShutterCfg.mk 8 0 none 30 60) ∧
    (descendingShutter.shutterLive 1).resend = some 7500000 ∧
    (descendingShutter.shutterLive 1).command = some ShutCommand.release ∧
    ((descendingShutter.zone (ShutterCfg.mk 8 0 none 30 60).zone).state ∈ [ZoneState.alarm, ZoneState.silenced]) ∧
    (descendingShutter.shutterLive 1).sends < 3) ∧
  ((shutterIn .raising (some .raise) .alarm 0).shutter 0 = some landingShutter ∧
    ((shutterIn .raising (some .raise) .alarm 0).shutterLive 0).motion = some 9000000) ∧
  (stalledShutter.shutter 1 = some (ShutterCfg.mk 8 0 none 30 60) ∧
    (stalledShutter.shutterLive 1).resend = some 7500000 ∧
    (stalledShutter.shutterLive 1).command = some ShutCommand.raise ∧
    ((stalledShutter.zone (ShutterCfg.mk 8 0 none 30 60).zone).state ∈ [ZoneState.resetting]) ∧
    3 ≤ (stalledShutter.shutterLive 1).sends) ∧
  (trippedUnderShutter.shutter 0 = some (ShutterCfg.mk 2 0 (some (LandingRef.mk 0 3)) 30 60) ∧
    (trippedUnderShutter.shutterLive 0).clearance = some 8500000 ∧
    (ShutterCfg.mk 2 0 (some (LandingRef.mk 0 3)) 30 60).landing = some (LandingRef.mk 0 3) ∧
    (LandingRef.mk 0 3).shaft < 2 ∧ (trippedUnderShutter.shutterLive 0).state = ShutterState.releaseWait ∧
    (trippedUnderShutter.shaft (LandingRef.mk 0 3).shaft).state = ShaftState.tripped) ∧
  (stateShutterTimersAct2.shutter 0 = some landingShutter ∧
    (stateShutterTimersAct2.shutterLive 0).clearance = some 8500000 ∧
    (stateShutterTimersAct2.shutterLive 0).state ≠ .releaseWait ∧
    (stateShutterTimersAct2.shutterLive 0).warning = some 8500000 ∧
    (stateShutterTimersAct2.shutterLive 0).state ≠ .warning) :=
  ⟨⟨by decide, by decide, by decide, by decide, by decide, by decide, by decide⟩,
  ⟨by decide, by decide, by decide⟩,
  ⟨by decide, by decide, by decide, by decide, by decide⟩,
  ⟨by decide, by decide⟩,
  ⟨by decide, by decide, by decide, by decide, by decide⟩,
  ⟨by decide, by decide, by decide, by decide, by decide, by decide⟩,
  ⟨by decide, by decide, by decide, by decide, by decide⟩⟩

theorem witness_PressTakesMergesOrRefuses :
  (Tapped (withHead oneCall (press 4 0)) FrameStep.press (press 4 0) ∧ (press 4 0).frame.payload = [0#8, 0] ∧
    ((withHead oneCall (press 4 0)).takeHead (press 4 0)).findStation (press 4 0).frame.src = some 3 ∧
    ((withHead oneCall (press 4 0)).takeHead (press 4 0)).station 3 = some (stationOf 3) ∧
    (stationOf 3).role = Role.callPoint ∧ CallClass.ofByte 0 = some CallClass.service ∧
    (¬(((withHead oneCall (press 4 0)).takeHead (press 4 0)).day.mode = StoreMode.closed ∧
    CallClass.service ∈ [CallClass.service, CallClass.cash])) ∧
    ((withHead oneCall (press 4 0)).takeHead (press 4 0)).answering 3 CallClass.service =
        some (callRecord 1 3 CallClass.service)) ∧
  (Tapped (withHead base (press 4 0)) FrameStep.press (press 4 0) ∧ (press 4 0).frame.payload = [0#8, 0] ∧
    ((withHead base (press 4 0)).takeHead (press 4 0)).findStation (press 4 0).frame.src = some 3 ∧
    ((withHead base (press 4 0)).takeHead (press 4 0)).station 3 = some (stationOf 3) ∧
    (stationOf 3).role = Role.callPoint ∧ CallClass.ofByte 0 = some CallClass.service ∧
    (¬(((withHead base (press 4 0)).takeHead (press 4 0)).day.mode = StoreMode.closed ∧
    CallClass.service ∈ [CallClass.service, CallClass.cash])) ∧
    ((withHead base (press 4 0)).takeHead (press 4 0)).answering 3 CallClass.service = none ∧
    ((withHead base (press 4 0)).takeHead (press 4 0)).calls.records.length < 48) ∧
  (Tapped (withHead statePressTakesMergesOrRefuses1 (press 4 1)) FrameStep.press (press 4 1) ∧
    (press 4 1).frame.payload = [0#8, 1] ∧
    ((withHead statePressTakesMergesOrRefuses1 (press 4 1)).takeHead (press 4 1)).findStation (press 4 1).frame.src = some 3 ∧
    ((withHead statePressTakesMergesOrRefuses1 (press 4 1)).takeHead (press 4 1)).station 3 = some (stationOf 3) ∧
    (stationOf 3).role = Role.callPoint ∧ CallClass.ofByte 1 = some CallClass.cash ∧
    ((withHead statePressTakesMergesOrRefuses1 (press 4 1)).takeHead (press 4 1)).day.mode = StoreMode.closed ∧
    (CallClass.cash ∈ [CallClass.service, CallClass.cash])) ∧
  (Tapped (withHead statePressTakesMergesOrRefuses2 (press 4 0)) FrameStep.press (press 4 0) ∧
    (press 4 0).frame.payload = [0#8, 0] ∧
    ((withHead statePressTakesMergesOrRefuses2 (press 4 0)).takeHead (press 4 0)).findStation (press 4 0).frame.src = some 3 ∧
    ((withHead statePressTakesMergesOrRefuses2 (press 4 0)).takeHead (press 4 0)).station 3 = some (stationOf 3) ∧
    (stationOf 3).role = Role.callPoint ∧ CallClass.ofByte 0 = some CallClass.service ∧
    (¬(((withHead statePressTakesMergesOrRefuses2 (press 4 0)).takeHead (press 4 0)).day.mode = StoreMode.closed ∧
    CallClass.service ∈ [CallClass.service, CallClass.cash])) ∧
    ((withHead statePressTakesMergesOrRefuses2 (press 4 0)).takeHead (press 4 0)).answering 3 CallClass.service = none ∧
    48 ≤ ((withHead statePressTakesMergesOrRefuses2 (press 4 0)).takeHead (press 4 0)).calls.records.length ∧
    (CallClass.service ≠ CallClass.urgent ∨
        ∀ y ∈ ((withHead statePressTakesMergesOrRefuses2 (press 4 0)).takeHead (press 4 0)).calls.records,
        y.cls ≠ CallClass.service)) ∧
  (Tapped (withHead base (frameFrom 4 0x20#8 [7#8, 1#8] 2)) FrameStep.press (frameFrom 4 0x20#8 [7#8, 1#8] 2) ∧
    (frameFrom 4 0x20#8 [7#8, 1#8] 2).frame.payload = [7#8, 1#8] ∧
    (7#8 ≠ 0#8 ∨ CallClass.ofByte 1#8 = none ∨ ∀ (p : ℕ) (c : StationCfg),
        statePressTakesMergesOrRefuses3.findStation (frameFrom 4 0x20#8 [7#8, 1#8] 2).frame.src =
        some p → statePressTakesMergesOrRefuses3.station p = some c → c.role ≠ Role.callPoint)) ∧
  (Tapped (withHead base (frameFrom 4 0x20#8 [1#8, 4#8] 2)) FrameStep.cancel (frameFrom 4 0x20#8 [1#8, 4#8] 2) ∧
    (frameFrom 4 0x20#8 [1#8, 4#8] 2).frame.payload = [1#8, 4#8] ∧
    (CallClass.ofByte 4#8 = none ∨ ∀ (p : ℕ) (c : StationCfg),
        statePressTakesMergesOrRefuses4.findStation (frameFrom 4 0x20#8 [1#8, 4#8] 2).frame.src =
        some p → statePressTakesMergesOrRefuses4.station p = some c → c.role ≠ Role.callPoint)) ∧
  (Tapped (withHead base (frameFrom 4 0x20#8 [0#8, 4#8] 2)) .press (frameFrom 4 0x20#8 [0#8, 4#8] 2) ∧
    (frameFrom 4 0x20#8 [0#8, 4#8] 2).frame.payload = [0#8, 4#8] ∧
    (0#8 ≠ 0#8 ∨ CallClass.ofByte 4#8 = none ∨ ∀ (p : ℕ) (c : StationCfg), ((withHead base (frameFrom 4 0x20#8 [0#8,
        4#8] 2)).takeHead (frameFrom 4 0x20#8 [0#8, 4#8] 2)).findStation (frameFrom 4 0x20#8 [0#8, 4#8] 2).frame.src =
        some p → ((withHead base (frameFrom 4 0x20#8 [0#8, 4#8] 2)).takeHead (frameFrom 4 0x20#8 [0#8, 4#8] 2)).station p =
        some c → c.role ≠ Role.callPoint)) ∧
  (Tapped (withHead base (frameFrom 5 0x20#8 [0#8, 1#8] 2)) .press (frameFrom 5 0x20#8 [0#8, 1#8] 2) ∧
    (frameFrom 5 0x20#8 [0#8, 1#8] 2).frame.payload = [0#8, 1#8] ∧
    (0#8 ≠ 0#8 ∨ CallClass.ofByte 1#8 = none ∨ ∀ (p : ℕ) (c : StationCfg), ((withHead base (frameFrom 5 0x20#8 [0#8,
        1#8] 2)).takeHead (frameFrom 5 0x20#8 [0#8, 1#8] 2)).findStation (frameFrom 5 0x20#8 [0#8, 1#8] 2).frame.src =
        some p → ((withHead base (frameFrom 5 0x20#8 [0#8, 1#8] 2)).takeHead (frameFrom 5 0x20#8 [0#8, 1#8] 2)).station p =
        some c → c.role ≠ Role.callPoint)) ∧
  (Tapped (withHead base (frameFrom 5 0x20#8 [1#8, 1#8] 2)) .cancel (frameFrom 5 0x20#8 [1#8, 1#8] 2) ∧
    (frameFrom 5 0x20#8 [1#8, 1#8] 2).frame.payload = [1#8, 1#8] ∧
    (CallClass.ofByte 1#8 = none ∨ ∀ (p : ℕ) (c : StationCfg), ((withHead base (frameFrom 5 0x20#8 [1#8,
        1#8] 2)).takeHead (frameFrom 5 0x20#8 [1#8, 1#8] 2)).findStation (frameFrom 5 0x20#8 [1#8, 1#8] 2).frame.src =
        some p → ((withHead base (frameFrom 5 0x20#8 [1#8, 1#8] 2)).takeHead (frameFrom 5 0x20#8 [1#8, 1#8] 2)).station p =
        some c → c.role ≠ Role.callPoint)) :=
  ⟨⟨tapped_of (by decide), by decide, by decide, by decide, by decide, by decide, by decide, by decide⟩,
  ⟨tapped_of (by decide), by decide, by decide, by decide, by decide, by decide, by decide, by decide, by decide⟩,
  ⟨tapped_of (by decide), by decide, by decide, by decide, by decide, by decide, by decide, by decide⟩,
  ⟨tapped_of (by decide), by decide, by decide, by decide, by decide, by decide, by decide, by decide, by decide, by decide⟩,
  ⟨tapped_of (by decide), by decide, .inl (by decide)⟩,
  ⟨tapped_of (by decide), by decide, .inl (by decide)⟩,
  ⟨tapped_of (by decide), by decide, .inr (.inl (by decide))⟩,
  ⟨tapped_of (by decide), by decide, .inr (.inr (found_all (by decide)))⟩,
  ⟨tapped_of (by decide), by decide, .inr (found_all (by decide))⟩⟩

theorem witness_RecordsLeaveOrEscalate :
  (Tapped (withHead ringing (ackFrame 4 0)) FrameStep.ack (ackFrame 4 0) ∧
    (ackFrame 4 0).frame.payload = [0, 4, 0] ∧
    stateRecordsLeaveOrEscalate1.findStation (ackFrame 4 0).frame.src = some 4 ∧
    stateRecordsLeaveOrEscalate1.station 4 = some (stationOf 4) ∧ (stationOf 4).role = Role.annunciator ∧
    stateRecordsLeaveOrEscalate1.findStation (word16 0 4) = some 3 ∧
    stateRecordsLeaveOrEscalate1.station 3 = some (stationOf 3) ∧ (stationOf 3).role = Role.callPoint ∧
    CallClass.ofByte 0 = some CallClass.service ∧
    stateRecordsLeaveOrEscalate1.answering 3 CallClass.service = some (callRecord 1 3 CallClass.service) ∧
    stateRecordsLeaveOrEscalate1.isPresent 3 = true) ∧
  (Tapped (withHead ringing (cancel 4 0)) FrameStep.cancel (cancel 4 0) ∧ (cancel 4 0).frame.payload = [1#8, 0] ∧
    ((withHead ringing (cancel 4 0)).takeHead (cancel 4 0)).findStation (cancel 4 0).frame.src = some 3 ∧
    ((withHead ringing (cancel 4 0)).takeHead (cancel 4 0)).station 3 = some (stationOf 3) ∧
    (stationOf 3).role = Role.callPoint ∧ CallClass.ofByte 0 = some CallClass.service ∧
    ((withHead ringing (cancel 4 0)).takeHead (cancel 4 0)).answering 3 CallClass.service =
        some (callRecord 1 3 CallClass.service)) ∧
  (Tapped (withHead base (cancel 4 0)) FrameStep.cancel (cancel 4 0) ∧ (cancel 4 0).frame.payload = [1#8, 0] ∧
    ((withHead base (cancel 4 0)).takeHead (cancel 4 0)).findStation (cancel 4 0).frame.src = some 3 ∧
    ((withHead base (cancel 4 0)).takeHead (cancel 4 0)).station 3 = some (stationOf 3) ∧
    (stationOf 3).role = Role.callPoint ∧ CallClass.ofByte 0 = some CallClass.service ∧
    ((withHead base (cancel 4 0)).takeHead (cancel 4 0)).answering 3 CallClass.service = none) ∧
  (Tapped (withHead ringing (frameFrom 5 0x21#8 [0,14,0])) FrameStep.ack (frameFrom 5 0x21#8 [0,14,0]) ∧
    (frameFrom 5 0x21#8 [0,14,0]).frame.payload = [0, 14, 0] ∧
    stateRecordsLeaveOrEscalate2.findStation (frameFrom 5 0x21#8 [0,14,0]).frame.src = some 4 ∧
    stateRecordsLeaveOrEscalate2.station 4 = some (stationOf 4) ∧ (stationOf 4).role = Role.annunciator ∧
    stateRecordsLeaveOrEscalate2.findStation (word16 0 14) = some 13 ∧
    stateRecordsLeaveOrEscalate2.station 13 = some (stationOf 13) ∧ (stationOf 13).role = Role.callPoint ∧
    CallClass.ofByte 0 = some CallClass.service ∧
    stateRecordsLeaveOrEscalate2.answering 13 CallClass.service = none) ∧
  ((withCalls [stateRecordsLeaveOrEscalate3]).record 7 = some stateRecordsLeaveOrEscalate3 ∧
    stateRecordsLeaveOrEscalate3.timer = some 9000000 ∧ stateRecordsLeaveOrEscalate3.step = 1 ∧
    (∀ x ∈ (withCalls [stateRecordsLeaveOrEscalate3]).calls.records, x.point = stateRecordsLeaveOrEscalate3.point → x.cls =
        CallClass.urgent → x.number = 7)) ∧
  (twoCalls.record 7 = some stateRecordsLeaveOrEscalate3 ∧ stateRecordsLeaveOrEscalate3.timer = some 9000000 ∧
    stateRecordsLeaveOrEscalate3.step = 1 ∧
    (List.find? (fun x => decide (x.point = stateRecordsLeaveOrEscalate3.point ∧ x.cls = CallClass.urgent ∧
    x.number ≠ 7)) twoCalls.calls.records = some (callRecord 2 3 CallClass.urgent))) ∧
  ((withCalls [callRecord 1 13 .cash, callRecord 7 3 .service]).record 7 = some (callRecord 7 3 CallClass.service) ∧
    (callRecord 7 3 CallClass.service).timer = some 9000000 ∧ (callRecord 7 3 CallClass.service).step = 0) :=
  ⟨⟨tapped_of (by decide), by decide, by decide, by decide, by decide, by decide, by decide, by decide, by decide,
      by decide, by decide⟩,
  ⟨tapped_of (by decide), by decide, by decide, by decide, by decide, by decide, by decide⟩,
  ⟨tapped_of (by decide), by decide, by decide, by decide, by decide, by decide, by decide⟩,
  ⟨tapped_of (by decide), by decide, by decide, by decide, by decide, by decide, by decide, by decide, by decide, by decide⟩,
  ⟨by decide, by decide, by decide, by decide⟩,
  ⟨by decide, by decide, by decide, by decide⟩,
  ⟨by decide, by decide, by decide⟩⟩

theorem witness_SounderEventsServeTheChosenRing :
  (stateSounderEventsServeTheChosenRing1.arbiter 5 = some stateSounderEventsServeTheChosenRing2 ∧
    stateSounderEventsServeTheChosenRing2.refresh = some 8000000) ∧
  ((startingSounder []).arbiter 5 = some (startingArbiter [] (RingPhase.starting 8900000)) ∧
    ((startingSounder []).port 0).hand = some (sending QueueClass.normal) ∧
    (sending QueueClass.normal).phase = HandPhase.sending ∧
    (sending QueueClass.normal).source = HandSource.queue QueueClass.normal ∧
    ((startingSounder []).port 0).headOf QueueClass.normal = some tollFrame ∧
    tollFrame.report = Report.toll 5 1 ∧
    (startingArbiter [] (RingPhase.starting 8900000)).inForce =
        InForce.timed RingClass.cash RingOwner.day (Pattern.strokes 2 2) 1 (RingPhase.starting 8900000)) ∧
  (stateSounderEventsServeTheChosenRing3.arbiter 5 = some (startingWith RingClass.cash []) ∧
    (startingWith RingClass.cash []).inForce =
        InForce.timed RingClass.cash (RingOwner.call 4) (Pattern.strokes 3 3) 77 (RingPhase.starting 7000900) ∧
    (startingWith RingClass.cash []).service = Service.arbitrating ∧ (startingWith RingClass.cash []).pending = []) ∧
  (stateSounderEventsServeTheChosenRing4.arbiter 5 = some (startingArbiter [] (RingPhase.sounding 8900000)) ∧
    (startingArbiter [] (RingPhase.sounding 8900000)).inForce =
        InForce.timed RingClass.cash RingOwner.day (Pattern.strokes 2 2) 1 (RingPhase.sounding 8900000) ∧
    (startingArbiter [] (RingPhase.sounding 8900000)).service = Service.arbitrating ∧
    (startingArbiter [] (RingPhase.sounding 8900000)).pending = []) :=
  ⟨⟨by decide, by decide⟩,
  ⟨by decide, by decide, by decide, by decide, by decide, by decide, by decide⟩,
  ⟨by decide, by decide, by decide, by decide⟩,
  ⟨by decide, by decide, by decide, by decide⟩⟩

set_option maxRecDepth 20000 in
theorem witness_StoredRequestsQueue :
  ((withStored []).phraseValid 3 = true ∧ 1#16 ≠ 0#16 ∧ (withStored []).playback.stored.isSome = true ∧
    StoredRequest.mk 3 (1#16) 4 false RequestOrigin.order (((withStored []).playback.lastRequest + 1) % 65536) =
        StoredRequest.mk 3 (1#16) 4 false RequestOrigin.order (((withStored []).playback.lastRequest + 1) % 65536) ∧
    (withStored []).playback.queue.length < 8) ∧
  ((withStored [storedRequest 1 true, storedRequest 2 false]).phraseValid 3 = true ∧ 1#16 ≠ 0#16 ∧
    (withStored [storedRequest 1 true, storedRequest 2 false]).playback.stored.isSome = true ∧
    StoredRequest.mk 3 (1#16) 4 true RequestOrigin.order (((withStored [storedRequest 1 true,
        storedRequest 2 false]).playback.lastRequest + 1) % 65536) =
        StoredRequest.mk 3 (1#16) 4 true RequestOrigin.order (((withStored [storedRequest 1 true,
        storedRequest 2 false]).playback.lastRequest + 1) % 65536) ∧
    (withStored [storedRequest 1 true, storedRequest 2 false]).playback.queue.length < 8) ∧
  (stateStoredRequestsQueue1.phraseValid 3 = true ∧ 1#16 ≠ 0#16 ∧
    stateStoredRequestsQueue1.playback.stored.isSome = true ∧
    (StoredRequest.mk 3 (1#16) 4 true RequestOrigin.order (((withStored (List.map (fun i => storedRequest i (decide (i <
        3))) (List.range 8))).playback.lastRequest + 1) % 65536) =
        StoredRequest.mk 3 (1#16) 4 true RequestOrigin.order ((stateStoredRequestsQueue1.playback.lastRequest + 1) % 65536)) ∧
    8 ≤ stateStoredRequestsQueue1.playback.queue.length ∧
    (∃ x ∈ stateStoredRequestsQueue1.playback.queue, x.urgent = false)) ∧
  (stateStoredRequestsQueue1.phraseValid 3 = true ∧ 1#16 ≠ 0#16 ∧
    stateStoredRequestsQueue1.playback.stored.isSome = true ∧
    (StoredRequest.mk 3 (1#16) 4 false RequestOrigin.order (((withStored (List.map (fun i => storedRequest i (decide (i <
        3))) (List.range 8))).playback.lastRequest + 1) % 65536) =
        StoredRequest.mk 3 (1#16) 4 false RequestOrigin.order ((stateStoredRequestsQueue1.playback.lastRequest + 1) % 65536)) ∧
    8 ≤ stateStoredRequestsQueue1.playback.queue.length ∧
    (false = false ∨ ∀ x ∈ stateStoredRequestsQueue1.playback.queue, x.urgent = true)) ∧
  (Accepted (withOrder base) FrameStep.order none rOrder ∧ (PlayFields.mk 3 (3#16) 600 false).phrase ≤ 127 ∧
    ((orderTaken base).phrase (PlayFields.mk 3 (3#16) 600 false).phrase).validity = PhraseValidity.valid ∧
    (PlayFields.mk 3 (3#16) 600 false).zones ≠ 0#16 ∧ (orderTaken base).playback.stored = none ∧
    (orderTaken base).playback.queue = [] ∧
    (∀ z < 16, (3#16).getLsbD z = true ↔ BitVec.getLsbD (PlayFields.mk 3 (3#16) 600 false).zones z = true ∧
    (orderTaken base).takesEvac z = false ∧ (orderTaken base).takesPage z = false ∧
    (orderTaken base).overlay z = false) ∧ (∀ z < 16, (3#16).getLsbD z = true ↔ (3#16).getLsbD z = true ∧
    ∃ i c, (orderTaken base).station i = some c ∧ c.role = Role.speaker ∧ c.zone = some z ∧
    (orderTaken base).isPresent i = true) ∧ 3#16 ≠ 0#16) ∧
  (Accepted (withOrder (withStationZone 12 none)) FrameStep.order none rOrder ∧
    (PlayFields.mk 3 (2#16) 600 false).phrase ≤ 127 ∧
    ((orderTaken (withStationZone 12 none)).phrase (PlayFields.mk 3 (2#16) 600 false).phrase).validity = PhraseValidity.valid ∧
    (PlayFields.mk 3 (2#16) 600 false).zones ≠ 0#16 ∧
    (orderTaken (withStationZone 12 none)).playback.stored = none ∧
    (orderTaken (withStationZone 12 none)).playback.queue = [] ∧
    (∀ z < 16, (2#16).getLsbD z = true ↔ BitVec.getLsbD (PlayFields.mk 3 (2#16) 600 false).zones z = true ∧
    (orderTaken (withStationZone 12 none)).takesEvac z = false ∧
    (orderTaken (withStationZone 12 none)).takesPage z = false ∧
    (orderTaken (withStationZone 12 none)).overlay z = false) ∧
    (∀ z < 16, (0#16).getLsbD z = true ↔ (2#16).getLsbD z = true ∧
    ∃ i c, (orderTaken (withStationZone 12 none)).station i = some c ∧ c.role = Role.speaker ∧ c.zone = some z ∧
    (orderTaken (withStationZone 12 none)).isPresent i = true) ∧
    (∃ i c, (orderTaken (withStationZone 12 none)).station i = some c ∧ c.role = Role.sounder ∧
    Option.any (2#16).getLsbD c.zone = true)) ∧
  (Accepted (withOrder base) FrameStep.order none rOrder ∧ (PlayFields.mk 3 (4#16) 256 false).phrase ≤ 127 ∧
    ((orderTaken base).phrase (PlayFields.mk 3 (4#16) 256 false).phrase).validity = PhraseValidity.valid ∧
    (PlayFields.mk 3 (4#16) 256 false).zones ≠ 0#16 ∧ (orderTaken base).playback.stored = none ∧
    (orderTaken base).playback.queue = [] ∧
    (∀ z < 16, (4#16).getLsbD z = true ↔ BitVec.getLsbD (PlayFields.mk 3 (4#16) 256 false).zones z = true ∧
    (orderTaken base).takesEvac z = false ∧ (orderTaken base).takesPage z = false ∧
    (orderTaken base).overlay z = false) ∧ (∀ z < 16, (0#16).getLsbD z = true ↔ (4#16).getLsbD z = true ∧
    ∃ i c, (orderTaken base).station i = some c ∧ c.role = Role.speaker ∧ c.zone = some z ∧
    (orderTaken base).isPresent i = true) ∧
    (∀ (i : ℕ) (c : StationCfg), (orderTaken base).station i = some c → c.role =
        Role.sounder → Option.any (4#16).getLsbD c.zone = false)) ∧
  (Accepted (withOrder (storedPlaying base)) FrameStep.order none rOrder ∧
    (PageFields.mk (1#16) 512).zones ≠ 0#16 ∧
    (orderTaken (storedPlaying base)).playback.page.phase = PagePhase.idle ∧
    (orderTaken (storedPlaying base)).playback.stored = some ((storedPlaying base).playback.stored.getD (playAt 24)) ∧
    ((storedPlaying base).playback.stored.getD (playAt 24)).cursor.sample ≠ 0 ∧
    (∀ z < 16, BitVec.getLsbD ((storedPlaying base).playback.stored.getD (playAt 24)).taken z =
        true → (orderTaken (storedPlaying base)).keepsZone z = true ∧
    (orderTaken (storedPlaying base)).presentSpeakers z ≠ []) ∧
    ((storedPlaying base).playback.stored.getD (playAt 24)).taken &&& ~~~(PageFields.mk (1#16) 512).zones ≠ 0#16) ∧
  (Tapped (withHead (storedPlaying base) (detectorRestores 5#8)) FrameStep.detect (detectorRestores 5#8) ∧
    (detectorRestores 5#8).frame.payload = [5#8, 3#8] ∧
    stateStoredRequestsQueue2.findStation (detectorRestores 5#8).frame.src = some 1 ∧
    stateStoredRequestsQueue2.findPoint 1 (5#8).toNat = some 0 ∧
    stateStoredRequestsQueue2.point 0 = some (PointCfg.mk 1 5 0 PointKind.automatic) ∧
    (PointCfg.mk 1 5 0 PointKind.automatic).zone < 16 ∧ PointState.ofByte 3#8 = some PointState.manual ∧
    ((stateStoredRequestsQueue2.zone (PointCfg.mk 1 5 0 PointKind.automatic).zone).state ∈ [ZoneState.normal,
        ZoneState.alert]) ∧
    (withHead (storedPlaying base) (detectorRestores 5#8)).globals.standbyPhrase = none ∧
    stateStoredRequestsQueue2.playback.stored = some ((storedPlaying base).playback.stored.getD (playAt 24)) ∧
    ((storedPlaying base).playback.stored.getD (playAt 24)).cursor.sample ≠ 0 ∧
    BitVec.getLsbD ((storedPlaying base).playback.stored.getD (playAt 24)).taken (PointCfg.mk 1 5 0
        PointKind.automatic).zone = true ∧
    (∀ z < 16, BitVec.getLsbD ((storedPlaying base).playback.stored.getD (playAt 24)).taken z =
        true → stateStoredRequestsQueue2.keepsZone z = true ∧
    stateStoredRequestsQueue2.presentSpeakers z ≠ []) ∧
    ((storedPlaying base).playback.stored.getD (playAt 24)).taken &&& ~~~ZoneMask.single (PointCfg.mk 1 5 0
        PointKind.automatic).zone ≠ 0#16) ∧
  ((twoMisses 12 (storedPlaying base [] 2#16)).station 12 = some (stationIn (storedPlaying base [] 2#16) 12) ∧
    (stationIn (storedPlaying base [] 2#16) 12).role = Role.speaker ∧
    (stationIn (storedPlaying base [] 2#16) 12).zone = some 1 ∧
    ((twoMisses 12 (storedPlaying base [] 2#16)).stationLive 12).presence = Presence.present ∧
    ((twoMisses 12 (storedPlaying base [] 2#16)).stationLive 12).missed = 2 ∧
    ((twoMisses 12 (storedPlaying base [] 2#16)).stationLive 12).supervision = some 9000000 ∧
    (twoMisses 12 (storedPlaying base [] 2#16)).playback.stored =
        some ((storedPlaying base [] 2#16).playback.stored.getD (playAt 24)) ∧
    ((storedPlaying base [] 2#16).playback.stored.getD (playAt 24)).cursor.sample ≠ 0 ∧
    BitVec.getLsbD ((storedPlaying base [] 2#16).playback.stored.getD (playAt 24)).taken 1 = true ∧
    (∀ y < 16, BitVec.getLsbD ((storedPlaying base [] 2#16).playback.stored.getD (playAt 24)).taken y =
        true → (twoMisses 12 (storedPlaying base [] 2#16)).keepsZone y = true ∧
    (twoMisses 12 (storedPlaying base [] 2#16)).presentSpeakers y ≠ []) ∧
    (∀ (j : ℕ) (d : StationCfg), j ≠ 12 → (twoMisses 12 (storedPlaying base [] 2#16)).station j = some d → d.role =
        Role.speaker → d.zone = some 1 → (twoMisses 12 (storedPlaying base [] 2#16)).isPresent j = false) ∧
    ((storedPlaying base [] 2#16).playback.stored.getD (playAt 24)).taken &&& ~~~ZoneMask.single 1 = 0#16 ∧
    (twoMisses 12 (storedPlaying base [] 2#16)).playback.queue = []) ∧
  (Accepted (withOrder (storedPlaying base)) FrameStep.order none rOrder ∧
    (PageFields.mk (3#16) 512).zones ≠ 0#16 ∧
    (orderTaken (storedPlaying base)).playback.page.phase = PagePhase.idle ∧
    (orderTaken (storedPlaying base)).playback.stored = some ((storedPlaying base).playback.stored.getD (playAt 24)) ∧
    ((storedPlaying base).playback.stored.getD (playAt 24)).cursor.sample ≠ 0 ∧
    (∀ z < 16, BitVec.getLsbD ((storedPlaying base).playback.stored.getD (playAt 24)).taken z =
        true → (orderTaken (storedPlaying base)).keepsZone z = true ∧
    (orderTaken (storedPlaying base)).presentSpeakers z ≠ []) ∧
    ((storedPlaying base).playback.stored.getD (playAt 24)).taken &&& ~~~(PageFields.mk (3#16) 512).zones = 0#16 ∧
    (orderTaken (storedPlaying base)).playback.queue = []) ∧
  (Tapped (withHead (storedPlaying base [] 2#16) (detectorRestores 8#8)) FrameStep.detect (detectorRestores 8#8) ∧
    (detectorRestores 8#8).frame.payload = [8#8, 3#8] ∧
    stateStoredRequestsQueue3.findStation (detectorRestores 8#8).frame.src = some 1 ∧
    stateStoredRequestsQueue3.findPoint 1 (8#8).toNat = some 3 ∧
    stateStoredRequestsQueue3.point 3 = some (PointCfg.mk 1 8 1 PointKind.automatic) ∧
    (PointCfg.mk 1 8 1 PointKind.automatic).zone < 16 ∧ PointState.ofByte 3#8 = some PointState.manual ∧
    ((stateStoredRequestsQueue3.zone (PointCfg.mk 1 8 1 PointKind.automatic).zone).state ∈ [ZoneState.normal,
        ZoneState.alert]) ∧
    (withHead (storedPlaying base [] 2#16) (detectorRestores 8#8)).globals.standbyPhrase = none ∧
    stateStoredRequestsQueue3.playback.stored = some ((storedPlaying base [] 2#16).playback.stored.getD (playAt 24)) ∧
    ((storedPlaying base [] 2#16).playback.stored.getD (playAt 24)).cursor.sample ≠ 0 ∧
    BitVec.getLsbD ((storedPlaying base [] 2#16).playback.stored.getD (playAt 24)).taken (PointCfg.mk 1 8 1
        PointKind.automatic).zone = true ∧
    (∀ z < 16, BitVec.getLsbD ((storedPlaying base [] 2#16).playback.stored.getD (playAt 24)).taken z =
        true → stateStoredRequestsQueue3.keepsZone z = true ∧
    stateStoredRequestsQueue3.presentSpeakers z ≠ []) ∧
    ((storedPlaying base [] 2#16).playback.stored.getD (playAt 24)).taken &&& ~~~ZoneMask.single (PointCfg.mk 1 8 1
        PointKind.automatic).zone = 0#16 ∧
    stateStoredRequestsQueue3.playback.queue = []) ∧
  (stateStoredRequestsQueue4.station 12 =
      some (stationIn (withStationZone 12 (some 0) (storedPlaying base [requestNumber 7] 1#16)) 12) ∧
    (stationIn (withStationZone 12 (some 0) (storedPlaying base [requestNumber 7] 1#16)) 12).role = Role.speaker ∧
    (stationIn (withStationZone 12 (some 0) (storedPlaying base [requestNumber 7] 1#16)) 12).zone = some 0 ∧
    (stateStoredRequestsQueue4.stationLive 12).presence = Presence.present ∧
    (stateStoredRequestsQueue4.stationLive 12).missed = 2 ∧
    (stateStoredRequestsQueue4.stationLive 12).supervision = some 9000000 ∧
    stateStoredRequestsQueue4.playback.stored =
        some ((withStationZone 12 (some 0) (storedPlaying base [requestNumber 7] 1#16)).playback.stored.getD (playAt 24)) ∧
    ((withStationZone 12 (some 0) (storedPlaying base [requestNumber 7] 1#16)).playback.stored.getD (playAt
        24)).cursor.sample ≠ 0 ∧
    BitVec.getLsbD ((withStationZone 12 (some 0) (storedPlaying base [requestNumber 7] 1#16)).playback.stored.getD
        (playAt 24)).taken 0 = true ∧
    (∀ y < 16,
        BitVec.getLsbD ((withStationZone 12 (some 0) (storedPlaying base [requestNumber 7] 1#16)).playback.stored.getD
        (playAt 24)).taken y = true → stateStoredRequestsQueue4.keepsZone y = true ∧
    stateStoredRequestsQueue4.presentSpeakers y ≠ []) ∧ (∃ j d, j ≠ 12 ∧
    stateStoredRequestsQueue4.station j = some d ∧ d.role = Role.speaker ∧ d.zone = some 0 ∧
    stateStoredRequestsQueue4.isPresent j = true)) ∧
  ((twoMisses 6 (storedPlaying base)).station 6 = some (stationIn (storedPlaying base) 6) ∧
    (stationIn (storedPlaying base) 6).role = Role.speaker ∧ (stationIn (storedPlaying base) 6).zone = some 0 ∧
    ((twoMisses 6 (storedPlaying base)).stationLive 6).presence = Presence.present ∧
    ((twoMisses 6 (storedPlaying base)).stationLive 6).missed = 2 ∧
    ((twoMisses 6 (storedPlaying base)).stationLive 6).supervision = some 9000000 ∧
    (twoMisses 6 (storedPlaying base)).playback.stored = some ((storedPlaying base).playback.stored.getD (playAt 24)) ∧
    ((storedPlaying base).playback.stored.getD (playAt 24)).cursor.sample ≠ 0 ∧
    BitVec.getLsbD ((storedPlaying base).playback.stored.getD (playAt 24)).taken 0 = true ∧
    (∀ y < 16, BitVec.getLsbD ((storedPlaying base).playback.stored.getD (playAt 24)).taken y =
        true → (twoMisses 6 (storedPlaying base)).keepsZone y = true ∧
    (twoMisses 6 (storedPlaying base)).presentSpeakers y ≠ []) ∧
    (∀ (j : ℕ) (d : StationCfg), j ≠ 6 → (twoMisses 6 (storedPlaying base)).station j = some d → d.role =
        Role.speaker → d.zone = some 0 → (twoMisses 6 (storedPlaying base)).isPresent j = false) ∧
    ((storedPlaying base).playback.stored.getD (playAt 24)).taken &&& ~~~ZoneMask.single 0 ≠ 0#16) :=
  ⟨⟨by decide, by decide, by decide, by decide, by decide⟩,
  ⟨by decide, by decide, by decide, by decide, by decide⟩,
  ⟨by decide, by decide, by decide, by decide, by decide, by decide⟩,
  ⟨by decide, by decide, by decide, by decide, by decide, by decide⟩,
  ⟨accepted_of (by decide), by decide, by decide, by decide, by decide, by decide, by decide,
      by simp only [stations_iff]; decide, by decide⟩,
  ⟨accepted_of (by decide), by decide, by decide, by decide, by decide, by decide, by decide,
      by simp only [stations_iff]; decide, stations_any (by decide)⟩,
  ⟨accepted_of (by decide), by decide, by decide, by decide, by decide, by decide, by decide,
      by simp only [stations_iff]; decide, stations_all (by decide)⟩,
  ⟨accepted_of (by decide), by decide, by decide, by decide, by decide, by decide, by decide⟩,
  ⟨tapped_of (by decide), by decide, by decide, by decide, by decide, by decide, by decide, by decide, by decide,
      by decide, by decide, by decide, by decide, by decide⟩,
  ⟨by decide, by decide, by decide, by decide, by decide, by decide, by decide, by decide, by decide, by decide,
      others_all (by decide), by decide, by decide⟩,
  ⟨accepted_of (by decide), by decide, by decide, by decide, by decide, by decide, by decide, by decide⟩,
  ⟨tapped_of (by decide), by decide, by decide, by decide, by decide, by decide, by decide, by decide, by decide,
      by decide, by decide, by decide, by decide, by decide, by decide⟩,
  ⟨by decide, by decide, by decide, by decide, by decide, by decide, by decide, by decide, by decide, by decide,
      others_any (by decide)⟩,
  ⟨by decide, by decide, by decide, by decide, by decide, by decide, by decide, by decide, by decide, by decide,
      others_all (by decide), by decide⟩⟩

theorem witness_PlayIsCheckedAndPlaced :
  (Accepted (withHead base rOrder) FrameStep.order none rOrder ∧ (PlayFields.mk 3 (1#16) 600 false).phrase ≤ 127 ∧
    (((withHead base rOrder).takeHead rOrder).phrase (PlayFields.mk 3 (1#16) 600 false).phrase).validity =
        PhraseValidity.valid ∧
    (PlayFields.mk 3 (1#16) 600 false).zones ≠ 0#16 ∧
    (((withHead base rOrder).takeHead rOrder).placeStored (PlayFields.mk 3 (1#16) 600 false).phrase (PlayFields.mk 3
        (1#16) 600 false).zones (min 511 (PlayFields.mk 3 (1#16) 600 false).gain) (PlayFields.mk 3 (1#16) 600
        false).urgent RequestOrigin.order).2 = true) ∧
  (Accepted (withHead base rOrder) FrameStep.order none rOrder ∧ 127 < (PlayFields.mk 128 (1#16) 600 false).phrase) ∧
  (Accepted (withHead base rOrder) FrameStep.order none rOrder ∧
    (PlayFields.mk 2 (1#16) 600 false).phrase ≤ 127 ∧
    ((((withHead base rOrder).takeHead rOrder).phrase (PlayFields.mk 2 (1#16) 600 false).phrase).validity ≠
        PhraseValidity.valid ∨ (PlayFields.mk 2 (1#16) 600 false).zones = 0#16)) ∧
  (Accepted (withHead stateStoredRequestsQueue1 rOrder) FrameStep.order none rOrder ∧
    (PlayFields.mk 3 (1#16) 60 false).phrase ≤ 127 ∧
    (((withHead stateStoredRequestsQueue1 rOrder).takeHead rOrder).phrase (PlayFields.mk 3 (1#16) 60
        false).phrase).validity = PhraseValidity.valid ∧
    (PlayFields.mk 3 (1#16) 60 false).zones ≠ 0#16 ∧
    (((withHead stateStoredRequestsQueue1 rOrder).takeHead rOrder).placeStored (PlayFields.mk 3 (1#16) 60 false).phrase
        (PlayFields.mk 3 (1#16) 60 false).zones (min 511 (PlayFields.mk 3 (1#16) 60 false).gain) (PlayFields.mk 3 (1#16)
        60 false).urgent RequestOrigin.order).2 = false) :=
  ⟨⟨accepted_of (by decide), by decide, by decide, by decide, by decide⟩,
  ⟨accepted_of (by decide), by decide⟩,
  ⟨accepted_of (by decide), by decide, by decide⟩,
  ⟨accepted_of (by decide), by decide, by decide, by decide, by decide⟩⟩

theorem witness_BlockMomentsEmitAndAdvance :
  ((evacuating 24).playback.evac = some (evacPlay 24) ∧ (evacPlay 24).refresh = some 8000000) ∧
  ((evacuating 24).playback.evac = some (evacPlay 24) ∧ (evacPlay 24).clock = some 7000500 ∧
    (evacPlay 24).cursor.entry.start + 2 * (evacPlay 24).cursor.entry.count ≤ 8388608 ∧
    (evacPlay 24).cursor.sample < (evacPlay 24).cursor.entry.count) ∧
  ((withStored []).playback.stored = some (storedPlay 24) ∧ (storedPlay 24).clock = some 7000500 ∧
    (storedPlay 24).cursor.entry.start + 2 * (storedPlay 24).cursor.entry.count ≤ 8388608 ∧
    (storedPlay 24).cursor.sample + 24 < (storedPlay 24).cursor.entry.count) ∧
  ((evacuating 96).playback.evac = some (evacPlay 96) ∧ (evacPlay 96).clock = some 7000500 ∧
    (evacPlay 96).cursor.entry.count ≤ (evacPlay 96).cursor.sample ∧
    (evacuating 96).globals.evacPhrase = some 1 ∧
    ((evacuating 96).phrase 1).start + 2 * ((evacuating 96).phrase 1).count ≤ 8388608) ∧
  (stateBlockMomentsEmitAndAdvance1.playback.stored = some (storedPlay 72) ∧
    (storedPlay 72).clock = some 7000500 ∧
    (storedPlay 72).cursor.entry.start + 2 * (storedPlay 72).cursor.entry.count ≤ 8388608 ∧
    (storedPlay 72).cursor.entry.count ≤ (storedPlay 72).cursor.sample + 24 ∧
    stateBlockMomentsEmitAndAdvance1.playback.queue = []) :=
  ⟨⟨by decide, by decide⟩,
  ⟨by decide, by decide, by decide, by decide⟩,
  ⟨by decide, by decide, by decide, by decide⟩,
  ⟨by decide, by decide, by decide, by decide, by decide⟩,
  ⟨by decide, by decide, by decide, by decide, by decide⟩⟩

theorem witness_PageSamplesFillTheBuffer :
  (Tapped (withHead statePageSamplesFillTheBuffer1 (samples 9)) FrameStep.samples (samples 9) ∧
    (samples 9).frame.payload = 9 :: blockBytes ∧
    ((withHead statePageSamplesFillTheBuffer1 (samples 9)).takeHead (samples 9)).playback.page.phase ≠ PagePhase.idle ∧
    ((withHead statePageSamplesFillTheBuffer1 (samples 9)).takeHead (samples 9)).playback.page.source =
        some (samples 9).frame.src ∧
    ((withHead statePageSamplesFillTheBuffer1 (samples 9)).takeHead (samples 9)).playback.page.next = none ∧
    ((withHead statePageSamplesFillTheBuffer1 (samples 9)).takeHead (samples 9)).playback.page.buffer = []) ∧
  (Tapped (withHead base (samples 4)) FrameStep.samples (samples 4) ∧
    (samples 4).frame.payload = 4 :: blockBytes ∧
    (((withHead base (samples 4)).takeHead (samples 4)).playback.page.phase = PagePhase.idle ∨
        ((withHead base (samples 4)).takeHead (samples 4)).playback.page.source ≠ some (samples 4).frame.src)) ∧
  ((Tapped (withHead (paging (fun p => {p with buffer := [soundBlock, .silence]})) (samples 255)) .samples (samples 255)) ∧
    (samples 255).frame.payload = 255#8 :: blockBytes ∧
    (((withHead (paging (fun p => {p with buffer := [soundBlock, .silence]})) (samples 255)).takeHead (samples
        255)).playback.page.source = some (samples 255).frame.src) ∧
    (((withHead (paging (fun p => {p with buffer := [soundBlock, .silence]})) (samples 255)).takeHead (samples
        255)).playback.page.next = some 254) ∧
    (((withHead (paging (fun p => {p with buffer := [soundBlock, .silence]})) (samples 255)).takeHead (samples
        255)).playback.page.phase = .playing) ∧
    (((withHead (paging (fun p => {p with buffer := [soundBlock, .silence]})) (samples 255)).takeHead (samples
        255)).playback.page.buffer[1]? = some .silence) ∧
    (((withHead (paging (fun p => {p with buffer := [soundBlock, .silence]})) (samples 255)).takeHead (samples
        255)).playback.page.buffer.length < 3)) ∧
  ((Tapped (withHead (paging (fun p => {p with buffer := [soundBlock, .silence]})) (samples 254)) .samples (samples 254)) ∧
    (samples 254).frame.payload = 254#8 :: blockBytes ∧
    (((withHead (paging (fun p => {p with buffer := [soundBlock, .silence]})) (samples 254)).takeHead (samples
        254)).playback.page.source = some (samples 254).frame.src) ∧
    (((withHead (paging (fun p => {p with buffer := [soundBlock, .silence]})) (samples 254)).takeHead (samples
        254)).playback.page.next = some 254) ∧
    (((withHead (paging (fun p => {p with buffer := [soundBlock, .silence]})) (samples 254)).takeHead (samples
        254)).playback.page.phase = .playing) ∧
    (((withHead (paging (fun p => {p with buffer := [soundBlock, .silence]})) (samples 254)).takeHead (samples
        254)).playback.page.buffer[0]? = some soundBlock)) ∧
  ((Tapped (withHead (paging (fun p => {p with buffer := [soundBlock, .silence]})) (samples 126)) .samples (samples 126)) ∧
    (samples 126).frame.payload = 126#8 :: blockBytes ∧
    (((withHead (paging (fun p => {p with buffer := [soundBlock, .silence]})) (samples 126)).takeHead (samples
        126)).playback.page.source = some (samples 126).frame.src) ∧
    (((withHead (paging (fun p => {p with buffer := [soundBlock, .silence]})) (samples 126)).takeHead (samples
        126)).playback.page.next = some 254) ∧
    (((withHead (paging (fun p => {p with buffer := [soundBlock, .silence]})) (samples 126)).takeHead (samples
        126)).playback.page.phase = .playing) ∧
    (((withHead (paging (fun p => {p with buffer := [soundBlock, .silence]})) (samples 126)).takeHead (samples
        126)).playback.page.buffer.length ≤ 128) ∧
    128 ≤ (126 + (256 - 254)) % 256) ∧
  ((Tapped (withHead (paging (fun p => {p with buffer := [soundBlock, .silence]})) (samples 4)) .samples (samples 4)) ∧
    (samples 4).frame.payload = 4#8 :: blockBytes ∧
    (((withHead (paging (fun p => {p with buffer := [soundBlock, .silence]})) (samples 4)).takeHead (samples
        4)).playback.page.source = some (samples 4).frame.src) ∧
    (((withHead (paging (fun p => {p with buffer := [soundBlock, .silence]})) (samples 4)).takeHead (samples
        4)).playback.page.next = some 254) ∧
    (((withHead (paging (fun p => {p with buffer := [soundBlock, .silence]})) (samples 4)).takeHead (samples
        4)).playback.page.phase = .playing) ∧
    (((withHead (paging (fun p => {p with buffer := [soundBlock, .silence]})) (samples 4)).takeHead (samples
        4)).playback.page.buffer.length ≤ 6) ∧
    (6 ≤ ((withHead (paging (fun p => {p with buffer := [soundBlock, .silence]})) (samples 4)).takeHead (samples
        4)).playback.page.buffer.length + 4) ∧
    (4 + (256 - 254)) % 256 = 6) ∧
  ((Tapped (withHead (paging (fun p => {p with buffer := [soundBlock, .silence]})) (samples 5)) .samples (samples 5)) ∧
    (samples 5).frame.payload = 5#8 :: blockBytes ∧
    (((withHead (paging (fun p => {p with buffer := [soundBlock, .silence]})) (samples 5)).takeHead (samples
        5)).playback.page.source = some (samples 5).frame.src) ∧
    (((withHead (paging (fun p => {p with buffer := [soundBlock, .silence]})) (samples 5)).takeHead (samples
        5)).playback.page.next = some 254) ∧
    (((withHead (paging (fun p => {p with buffer := [soundBlock, .silence]})) (samples 5)).takeHead (samples
        5)).playback.page.buffer.length + 4 < 7) ∧
    (5 + (256 - 254)) % 256 = 7) ∧
  ((Tapped (withHead (paging (fun p => {p with buffer := [soundBlock, soundBlock], phase := .prefill, clock := none}))
      (samples 0)) .samples (samples 0)) ∧
    (samples 0).frame.payload = 0#8 :: blockBytes ∧
    (((withHead (paging (fun p => {p with buffer := [soundBlock, soundBlock], phase := .prefill, clock := none}))
        (samples 0)).takeHead (samples 0)).playback.page.source = some (samples 0).frame.src) ∧
    (((withHead (paging (fun p => {p with buffer := [soundBlock, soundBlock], phase := .prefill, clock := none}))
        (samples 0)).takeHead (samples 0)).playback.page.next = some 254) ∧
    (((withHead (paging (fun p => {p with buffer := [soundBlock, soundBlock], phase := .prefill, clock := none}))
        (samples 0)).takeHead (samples 0)).playback.page.phase = .prefill) ∧
    (((withHead (paging (fun p => {p with buffer := [soundBlock, soundBlock], phase := .prefill, clock := none}))
        (samples 0)).takeHead (samples 0)).playback.page.buffer.length = 2) ∧
    (0 + (256 - 254)) % 256 = 2) :=
  ⟨⟨tapped_of (by decide), by decide, by decide, by decide, by decide, by decide⟩,
  ⟨tapped_of (by decide), by decide, by decide⟩,
  ⟨tapped_of (by decide), by decide, by decide, by decide, by decide, by decide, by decide⟩,
  ⟨tapped_of (by decide), by decide, by decide, by decide, by decide, by decide⟩,
  ⟨tapped_of (by decide), by decide, by decide, by decide, by decide, by decide, by decide⟩,
  ⟨tapped_of (by decide), by decide, by decide, by decide, by decide, by decide, by decide, by decide⟩,
  ⟨tapped_of (by decide), by decide, by decide, by decide, by decide, by decide⟩,
  ⟨tapped_of (by decide), by decide, by decide, by decide, by decide, by decide, by decide⟩⟩

theorem witness_PagesPlayAndEnd :
  (statePagesPlayAndEnd1.playback.page.clock = some 7000500 ∧ statePagesPlayAndEnd1.playback.page.buffer = []) ∧
  (Accepted (withHead (paging id) rOrder) FrameStep.order none rOrder ∧ (PageFields.mk (3#16) 70).zones ≠ 0#16 ∧
    ((withHead (paging id) rOrder).takeHead rOrder).playback.page.phase ≠ PagePhase.idle) ∧
  (statePagesPlayAndEnd3.playback.page.clock = some 7000500 ∧
    statePagesPlayAndEnd3.playback.page.buffer = .real (List.replicate 24 1500#12) :: [.silence] ∧
    (∃ i x, statePagesPlayAndEnd3.station i = some x ∧ x.role = .speaker ∧ x.homePort = 3 ∧
      statePagesPlayAndEnd3.isPresent i = true ∧ statePagesPlayAndEnd3.speakerChan i = .page) ∧
    (∀ i < 96, ∀ x ∈ statePagesPlayAndEnd3.station i, x.role = .speaker → x.homePort = 2 →
      statePagesPlayAndEnd3.isPresent i = true → statePagesPlayAndEnd3.speakerChan i ≠ .page)) ∧
  (statePagesPlayAndEnd4.playback.page.clock = some 7000500 ∧
    statePagesPlayAndEnd4.playback.page.buffer.head? = some .silence) ∧
  ((Instr.underrunTimeout = Instr.underrunTimeout ∧ PageEnd.underrun = .underrun ∧
    statePagesPlayAndEnd2.playback.page.underrun = some 7000800 ∨ Instr.underrunTimeout = Instr.pageIdleTimeout ∧
    PageEnd.underrun = .idle ∧ statePagesPlayAndEnd2.playback.page.idle = some 7000800)) ∧
  ((Instr.pageIdleTimeout = Instr.underrunTimeout ∧ PageEnd.idle = .underrun ∧
    statePagesPlayAndEnd2.playback.page.underrun = some 7100000 ∨ Instr.pageIdleTimeout = Instr.pageIdleTimeout ∧
    PageEnd.idle = .idle ∧ statePagesPlayAndEnd2.playback.page.idle = some 7100000)) ∧
  (Accepted (withHead base rOrder) FrameStep.order none rOrder ∧ (PageFields.mk (3#16) 700).zones ≠ 0#16 ∧
    ((withHead base rOrder).takeHead rOrder).playback.page.phase = PagePhase.idle) ∧
  (Accepted (withHead base rOrder) FrameStep.order none rOrder ∧ (PageFields.mk (0#16) 700).zones = 0#16 ∧
    ((withHead base rOrder).takeHead rOrder).playback.page.phase = PagePhase.idle) :=
  ⟨⟨by decide, by decide⟩,
  ⟨accepted_of (by decide), by decide, by decide⟩,
  ⟨by decide, by decide, ⟨6, _, rfl, by decide, by decide, by decide, by decide⟩, by decide⟩,
  ⟨by decide, by decide⟩,
  by decide,
  by decide,
  ⟨accepted_of (by decide), by decide, by decide⟩,
  ⟨accepted_of (by decide), by decide, by decide⟩⟩

theorem witness_SetupStationWritesTheRecord :
  (Accepted (withSetup base 20) FrameStep.setup (some 20) (rSetup 20) ∧ (setupTaken base 20).station 20 = none ∧
    roleOfCode 3 = some Role.sounder ∧
    (setupTaken base 20).tables.stationOk 20 (StationCfg.mk (77#16) 2 Role.sounder (some 0) (min 10 30) (Abilities.mk
        true false)) = true) ∧
  (Accepted (withSetup base 96) FrameStep.setup (some 96) (rSetup 96) ∧ (setupTaken base 96).station 96 = none) ∧
  (Accepted (withSetup base 20) FrameStep.setup (some 20) (rSetup 20) ∧ (setupTaken base 20).station 20 = none ∧
    (0 = 0 ∨ 32767 < 0 ∨ roleOfCode 3 = none)) ∧
  (Accepted (withSetup base 20) FrameStep.setup (some 20) (rSetup 20) ∧ (setupTaken base 20).station 20 = none ∧
    roleOfCode 1 = some Role.callPoint ∧
    (setupTaken base 20).tables.stationOk 20 (StationCfg.mk (4#16) 2 Role.callPoint (some 1) (min 10 5) (Abilities.mk
        false false)) = false) ∧
  (Accepted (withSetup base 10) FrameStep.setup (some 10) (rSetup 10) ∧
    (setupTaken base 10).station 10 = some (stationOf 10) ∧
    roleOfCode 3 = some stateSetupStationWritesTheRecord1.role ∧
    stateSetupStationWritesTheRecord1.beatPeriod = min 10 0 ∧
    (setupTaken base 10).tables.stationOk 10 stateSetupStationWritesTheRecord1 = true ∧
    stationOf 10 ≠ stateSetupStationWritesTheRecord1 ∧
    (stationOf 10).address = stateSetupStationWritesTheRecord1.address ∧
    (stationOf 10).role = stateSetupStationWritesTheRecord1.role ∧
    stateSetupStationWritesTheRecord1.role = Role.sounder) ∧
  (Accepted (withSetup base 10) FrameStep.setup (some 10) (rSetup 10) ∧
    (setupTaken base 10).station 10 = some (stationOf 10) ∧
    roleOfCode 3 = some stateSetupStationWritesTheRecord2.role ∧
    stateSetupStationWritesTheRecord2.beatPeriod = min 10 0 ∧
    (setupTaken base 10).tables.stationOk 10 stateSetupStationWritesTheRecord2 = true ∧
    (setupTaken base 10).referenced 10 = false ∧
    ((stationOf 10).address ≠ stateSetupStationWritesTheRecord2.address ∨
        (stationOf 10).role ≠ stateSetupStationWritesTheRecord2.role) ∧
    stateSetupStationWritesTheRecord2.role = Role.sounder) ∧
  (Accepted (withSetup base 13) FrameStep.setup (some 13) (rSetup 13) ∧
    (setupTaken base 13).station 13 = some (stationOf 13) ∧ roleOfCode 1 = some (stationOf 13).role ∧
    (stationOf 13).beatPeriod = min 10 2 ∧ (setupTaken base 13).tables.stationOk 13 (stationOf 13) = true) ∧
  (Accepted (withSetup base 13) FrameStep.setup (some 13) (rSetup 13) ∧
    (setupTaken base 13).station 13 = some (stationOf 13) ∧
    roleOfCode 1 = some stateSetupStationWritesTheRecord3.role ∧
    stateSetupStationWritesTheRecord3.beatPeriod = min 10 2 ∧
    (setupTaken base 13).tables.stationOk 13 stateSetupStationWritesTheRecord3 = false) ∧
  (Accepted (withSetup base 3) FrameStep.setup (some 3) (rSetup 3) ∧
    (setupTaken base 3).station 3 = some (stationOf 3) ∧
    roleOfCode 1 = some stateSetupStationWritesTheRecord4.role ∧
    stateSetupStationWritesTheRecord4.beatPeriod = min 10 2 ∧
    (setupTaken base 3).tables.stationOk 3 stateSetupStationWritesTheRecord4 = true ∧
    (setupTaken base 3).referenced 3 = true ∧
    ((stationOf 3).address ≠ stateSetupStationWritesTheRecord4.address ∨
        (stationOf 3).role ≠ stateSetupStationWritesTheRecord4.role)) ∧
  (Accepted (withSetup base 10) FrameStep.setup (some 10) (rSetup 10) ∧
    (setupTaken base 10).station 10 = some (stationOf 10) ∧
    roleOfCode 7 = some stateSetupStationWritesTheRecord5.role ∧
    stateSetupStationWritesTheRecord5.beatPeriod = min 10 0 ∧
    (setupTaken base 10).tables.stationOk 10 stateSetupStationWritesTheRecord5 = true ∧
    (setupTaken base 10).referenced 10 = false ∧
    ((stationOf 10).address ≠ stateSetupStationWritesTheRecord5.address ∨
        (stationOf 10).role ≠ stateSetupStationWritesTheRecord5.role) ∧
    (stationOf 10).role = Role.sounder ∧ stateSetupStationWritesTheRecord5.role ≠ Role.sounder) :=
  ⟨⟨accepted_of (by decide), by decide, by decide, by decide⟩,
  ⟨accepted_of (by decide), by decide⟩,
  ⟨accepted_of (by decide), by decide, by decide⟩,
  ⟨accepted_of (by decide), by decide, by decide, by decide⟩,
  ⟨accepted_of (by decide), by decide, by decide, by decide, by decide, by decide, by decide, by decide, by decide⟩,
  ⟨accepted_of (by decide), by decide, by decide, by decide, by decide, by decide, by decide, by decide⟩,
  ⟨accepted_of (by decide), by decide, by decide, by decide, by decide⟩,
  ⟨accepted_of (by decide), by decide, by decide, by decide, by decide⟩,
  ⟨accepted_of (by decide), by decide, by decide, by decide, by decide, by decide, by decide⟩,
  ⟨accepted_of (by decide), by decide, by decide, by decide, by decide, by decide, by decide, by decide, by decide⟩⟩

theorem witness_SetupPointAndShutterPutInUse :
  (Accepted (withSetup baseWithDrive 31) FrameStep.setup (some 31) (rSetup 31) ∧
    (setupTaken baseWithDrive 31).shutter 31 = none ∧
    (setupTaken baseWithDrive 31).tables.shutterOk 31 (ShutterCfg.mk 30 0 none 30 60).clamp = true ∧
    (setupTaken baseWithDrive 31).overlay (ShutterCfg.mk 30 0 none 30 60).clamp.zone = false ∧
    (∀ (l : LandingRef), (ShutterCfg.mk 30 0 none 30 60).clamp.landing =
        some l → (setupTaken baseWithDrive 31).shaftEnabled l.shaft = false ∨
        ((setupTaken baseWithDrive 31).shaft l.shaft).state ∈ [ShaftState.idle, ShaftState.tripped]) ∧
    (ShutterCfg.mk 30 0 none 30 60).clamp.landing = none) ∧
  (Accepted (withSetup base 127) FrameStep.setup (some 127) (rSetup 127) ∧
    (setupTaken base 127).point 127 = none ∧
    (setupTaken base 127).tables.pointOk 127 (PointCfg.mk 1 9 0 PointKind.automatic) = true ∧
    (((setupTaken base 127).zone (PointCfg.mk 1 9 0 PointKind.automatic).zone).state ∈ [ZoneState.normal,
        ZoneState.isolated])) ∧
  (Accepted (withSetup base 128) FrameStep.setup (some 128) (rSetup 128) ∧ (setupTaken base 128).point 128 = none) ∧
  (Accepted (withSetup base 127) FrameStep.setup (some 127) (rSetup 127) ∧
    (setupTaken base 127).point 127 = none ∧
    (setupTaken base 127).tables.pointOk 127 (PointCfg.mk 1 8 0 PointKind.automatic) = false) ∧
  (Accepted (withSetup stateSetupPointAndShutterPutInUse1 127) FrameStep.setup (some 127) (rSetup 127) ∧
    (setupTaken stateSetupPointAndShutterPutInUse1 127).point 127 = none ∧
    (setupTaken stateSetupPointAndShutterPutInUse1 127).tables.pointOk 127 (PointCfg.mk 1 9 0 PointKind.automatic) = true ∧
    (((setupTaken stateSetupPointAndShutterPutInUse1 127).zone (PointCfg.mk 1 9 0 PointKind.automatic).zone).state ∉
        [ZoneState.normal, ZoneState.isolated])) ∧
  (Accepted (withSetup baseWithDrive 32) FrameStep.setup (some 32) (rSetup 32) ∧
    (setupTaken baseWithDrive 32).shutter 32 = none) ∧
  (Accepted (withSetup baseWithDrive 31) FrameStep.setup (some 31) (rSetup 31) ∧
    (setupTaken baseWithDrive 31).shutter 31 = none ∧
    (setupTaken baseWithDrive 31).tables.shutterOk 31 (ShutterCfg.mk 2 0 none 30 60).clamp = false) ∧
  (Accepted (withSetup stateSetupPointAndShutterPutInUse2 31) FrameStep.setup (some 31) (rSetup 31) ∧
    (setupTaken stateSetupPointAndShutterPutInUse2 31).shutter 31 = none ∧
    (setupTaken stateSetupPointAndShutterPutInUse2 31).tables.shutterOk 31 (ShutterCfg.mk 30 0 (some (LandingRef.mk 0 4))
        30 60).clamp = true ∧
    ((setupTaken stateSetupPointAndShutterPutInUse2 31).overlay (ShutterCfg.mk 30 0 (some (LandingRef.mk 0 4)) 30
        60).clamp.zone = true ∨ ∃ l, (ShutterCfg.mk 30 0 (some (LandingRef.mk 0 4)) 30 60).clamp.landing = some l ∧
    (setupTaken stateSetupPointAndShutterPutInUse2 31).shaftEnabled l.shaft = true ∧
    ((setupTaken stateSetupPointAndShutterPutInUse2 31).shaft l.shaft).state ∉ [ShaftState.idle, ShaftState.tripped])) ∧
  (Accepted (withSetup stateSetupPointAndShutterPutInUse3 0) FrameStep.setup (some 0) (rSetup 0) ∧
    (setupTaken stateSetupPointAndShutterPutInUse3 0).point 0 = some (PointCfg.mk 1 5 0 PointKind.automatic) ∧
    (setupTaken stateSetupPointAndShutterPutInUse3 0).tables.pointOk 0 (PointCfg.mk 1 5 1 PointKind.automatic) = true ∧
    (((setupTaken stateSetupPointAndShutterPutInUse3 0).zone (PointCfg.mk 1 5 0 PointKind.automatic).zone).state ∈
        [ZoneState.normal, ZoneState.isolated]) ∧
    (((setupTaken stateSetupPointAndShutterPutInUse3 0).zone (PointCfg.mk 1 5 1 PointKind.automatic).zone).state ∈
        [ZoneState.normal, ZoneState.isolated]) ∧
    PointCfg.mk 1 5 0 PointKind.automatic ≠ PointCfg.mk 1 5 1 PointKind.automatic ∧
    (PointCfg.mk 1 5 0 PointKind.automatic).panel = (PointCfg.mk 1 5 1 PointKind.automatic).panel ∧
    (PointCfg.mk 1 5 0 PointKind.automatic).number = (PointCfg.mk 1 5 1 PointKind.automatic).number ∧
    ((setupTaken stateSetupPointAndShutterPutInUse3 0).zone (PointCfg.mk 1 5 1 PointKind.automatic).zone).state =
        ZoneState.normal ∧
    ((setupTaken stateSetupPointAndShutterPutInUse3 0).pointLive 0).state = PointState.manual) ∧
  (Accepted (withSetup base 0) FrameStep.setup (some 0) (rSetup 0) ∧
    (setupTaken base 0).point 0 = some (PointCfg.mk 1 5 0 PointKind.automatic) ∧
    (setupTaken base 0).tables.pointOk 0 (PointCfg.mk 1 55 0 PointKind.automatic) = true ∧
    (((setupTaken base 0).zone (PointCfg.mk 1 5 0 PointKind.automatic).zone).state ∈ [ZoneState.normal, ZoneState.isolated]) ∧
    (((setupTaken base 0).zone (PointCfg.mk 1 55 0 PointKind.automatic).zone).state ∈ [ZoneState.normal, ZoneState.isolated]) ∧
    PointCfg.mk 1 5 0 PointKind.automatic ≠ PointCfg.mk 1 55 0 PointKind.automatic ∧
    ((PointCfg.mk 1 5 0 PointKind.automatic).panel ≠ (PointCfg.mk 1 55 0 PointKind.automatic).panel ∨
        (PointCfg.mk 1 5 0 PointKind.automatic).number ≠ (PointCfg.mk 1 55 0 PointKind.automatic).number)) ∧
  (Accepted (withSetup base 0) FrameStep.setup (some 0) (rSetup 0) ∧
    (setupTaken base 0).point 0 = some (PointCfg.mk 1 5 0 PointKind.automatic) ∧
    (setupTaken base 0).tables.pointOk 0 (PointCfg.mk 1 5 0 PointKind.automatic) = true ∧
    (((setupTaken base 0).zone (PointCfg.mk 1 5 0 PointKind.automatic).zone).state ∈ [ZoneState.normal, ZoneState.isolated])) ∧
  (Accepted (withSetup base 0) FrameStep.setup (some 0) (rSetup 0) ∧
    (setupTaken base 0).point 0 = some (PointCfg.mk 1 5 0 PointKind.automatic) ∧
    (setupTaken base 0).tables.pointOk 0 (PointCfg.mk 1 5 1 PointKind.automatic) = true ∧
    (((setupTaken base 0).zone (PointCfg.mk 1 5 0 PointKind.automatic).zone).state ∈ [ZoneState.normal, ZoneState.isolated]) ∧
    (((setupTaken base 0).zone (PointCfg.mk 1 5 1 PointKind.automatic).zone).state ∈ [ZoneState.normal, ZoneState.isolated]) ∧
    PointCfg.mk 1 5 0 PointKind.automatic ≠ PointCfg.mk 1 5 1 PointKind.automatic ∧
    (PointCfg.mk 1 5 0 PointKind.automatic).panel = (PointCfg.mk 1 5 1 PointKind.automatic).panel ∧
    (PointCfg.mk 1 5 0 PointKind.automatic).number = (PointCfg.mk 1 5 1 PointKind.automatic).number ∧
    (((setupTaken base 0).zone (PointCfg.mk 1 5 1 PointKind.automatic).zone).state = ZoneState.isolated ∨
        ((setupTaken base 0).pointLive 0).state ∈ [PointState.normal, PointState.fault])) ∧
  (Accepted (withSetup base 0) FrameStep.setup (some 0) (rSetup 0) ∧
    (setupTaken base 0).point 0 = some (PointCfg.mk 1 5 0 PointKind.automatic) ∧
    (setupTaken base 0).tables.pointOk 0 (PointCfg.mk 1 6 0 PointKind.automatic) = false) ∧
  (Accepted (withSetup stateSetupPointAndShutterPutInUse4 0) FrameStep.setup (some 0) (rSetup 0) ∧
    (setupTaken stateSetupPointAndShutterPutInUse4 0).point 0 = some (PointCfg.mk 1 5 0 PointKind.automatic) ∧
    (setupTaken stateSetupPointAndShutterPutInUse4 0).tables.pointOk 0 (PointCfg.mk 1 5 1 PointKind.automatic) = true ∧
    (((setupTaken stateSetupPointAndShutterPutInUse4 0).zone (PointCfg.mk 1 5 0 PointKind.automatic).zone).state ∉
        [ZoneState.normal, ZoneState.isolated] ∨
        ((setupTaken stateSetupPointAndShutterPutInUse4 0).zone (PointCfg.mk 1 5 1 PointKind.automatic).zone).state ∉
        [ZoneState.normal, ZoneState.isolated])) ∧
  (Accepted (withSetup base 32) FrameStep.setup (some 32) (rSetup 32)) ∧
  (Accepted (withSetup base 31) FrameStep.setup (some 31) (rSetup 31) ∧ (setupTaken base 31).shutter 31 = none) ∧
  (Accepted landingShutterWrite .setup (some 31) (rSetup 31) ∧
    (landingShutterWrite.takeHead (rSetup 31)).shutter 31 = none ∧ newLandingShutter = newLandingShutter.clamp ∧
    newLandingFields =
        {drive := some newLandingShutter.drive, zone := some newLandingShutter.zone, landing := some newLandingShutter.landing, descentLimit := some newLandingShutter.descentLimit, raiseLimit := some newLandingShutter.raiseLimit} ∧
    landingShutterWrite.tables.shutterOk 31 newLandingShutter = true ∧
    (landingShutterWrite.takeHead (rSetup 31)).overlay 0 = false ∧
    (∀ l, newLandingShutter.landing = some l → (landingShutterWrite.takeHead (rSetup 31)).shaftEnabled l.shaft = false ∨
        ((landingShutterWrite.takeHead (rSetup 31)).shaft l.shaft).state ∈ [ShaftState.idle, .tripped]) ∧
    (∀ j < 32,
        j ≠ 31 → ((((landingShutterWrite.takeHead (rSetup 31)).setupShutter 31 (.fields newLandingFields)).1).shutterLive
        j).state = ((landingShutterWrite.takeHead (rSetup 31)).shutterLive j).state)) ∧
  (Accepted (withSetup stateSetupPointAndShutterPutInUse5 1) .setup (some 1) (rSetup 1) ∧
    (setupTaken stateSetupPointAndShutterPutInUse5 1).shutter 1 = some plainShutter ∧
    (∀ x, heldRef (setupTaken stateSetupPointAndShutterPutInUse5 1) x ↔ ∃ l, x = some l ∧
    (setupTaken stateSetupPointAndShutterPutInUse5 1).shaftEnabled l.shaft = true ∧
    ((setupTaken stateSetupPointAndShutterPutInUse5 1).shaft l.shaft).state ∉ [ShaftState.idle, .tripped]) ∧
    (((setupTaken stateSetupPointAndShutterPutInUse5 1).shutterLive 1).state ∉ [ShutterState.open, .unknown, .isolated])) ∧
  (Accepted (withSetup stateSetupPointAndShutterPutInUse6 1) .setup (some 1) (rSetup 1) ∧
    (setupTaken stateSetupPointAndShutterPutInUse6 1).shutter 1 = some plainShutter ∧
    (∀ x, heldRef (setupTaken stateSetupPointAndShutterPutInUse6 1) x ↔ ∃ l, x = some l ∧
    (setupTaken stateSetupPointAndShutterPutInUse6 1).shaftEnabled l.shaft = true ∧
    ((setupTaken stateSetupPointAndShutterPutInUse6 1).shaft l.shaft).state ∉ [ShaftState.idle, .tripped]) ∧
    (setupTaken stateSetupPointAndShutterPutInUse6 1).overlay 0 = true) ∧
  (Accepted (withSetup stateSetupPointAndShutterPutInUse7 1) .setup (some 1) (rSetup 1) ∧
    (setupTaken stateSetupPointAndShutterPutInUse7 1).shutter 1 = some plainShutter ∧
    (∀ x, heldRef (setupTaken stateSetupPointAndShutterPutInUse7 1) x ↔ ∃ l, x = some l ∧
    (setupTaken stateSetupPointAndShutterPutInUse7 1).shaftEnabled l.shaft = true ∧
    ((setupTaken stateSetupPointAndShutterPutInUse7 1).shaft l.shaft).state ∉ [ShaftState.idle, .tripped]) ∧
    heldRef (setupTaken stateSetupPointAndShutterPutInUse7 1) (some ⟨0, 4⟩) ∧
    (setupTaken stateSetupPointAndShutterPutInUse7 1).tables.shutterOk 1 { plainShutter with landing := some ⟨0, 4⟩ } = true) ∧
  (Accepted (withSetup withDrive 1) .setup (some 1) (rSetup 1) ∧
    (setupTaken withDrive 1).shutter 1 = some plainShutter ∧
    (∀ x, heldRef (setupTaken withDrive 1) x ↔ ∃ l, x = some l ∧
    (setupTaken withDrive 1).shaftEnabled l.shaft = true ∧
    ((setupTaken withDrive 1).shaft l.shaft).state ∉ [ShaftState.idle, .tripped]) ∧
    (((setupTaken withDrive 1).shutterLive 1).state ∈ [ShutterState.open, .unknown, .isolated]) ∧
    (setupTaken withDrive 1).overlay 0 = false ∧ ¬ heldRef (setupTaken withDrive 1) none ∧
    (setupTaken withDrive 1).tables.shutterOk 1 { plainShutter with zone := 99 } = false) ∧
  (Accepted (withSetup withDrive 1) .setup (some 1) (rSetup 1) ∧
    (setupTaken withDrive 1).shutter 1 = some plainShutter ∧
    (∀ x, heldRef (setupTaken withDrive 1) x ↔ ∃ l, x = some l ∧
    (setupTaken withDrive 1).shaftEnabled l.shaft = true ∧
    ((setupTaken withDrive 1).shaft l.shaft).state ∉ [ShaftState.idle, .tripped]) ∧
    (((setupTaken withDrive 1).shutterLive 1).state ∈ [ShutterState.open, .unknown, .isolated]) ∧
    (setupTaken withDrive 1).overlay 0 = false ∧ ¬ heldRef (setupTaken withDrive 1) none ∧
    (setupTaken withDrive 1).tables.shutterOk 1 { plainShutter with drive := 30 } = true ∧
    (setupTaken withDrive 1).tables.shutterOk 1 { plainShutter with descentLimit := 5 } = true) ∧
  (Accepted (withSetup stateSetupPointAndShutterPutInUse8 1) .setup (some 1) (rSetup 1) ∧
    (setupTaken stateSetupPointAndShutterPutInUse8 1).shutter 1 = some plainShutter ∧
    (∀ x, heldRef (setupTaken stateSetupPointAndShutterPutInUse8 1) x ↔ ∃ l, x = some l ∧
    (setupTaken stateSetupPointAndShutterPutInUse8 1).shaftEnabled l.shaft = true ∧
    ((setupTaken stateSetupPointAndShutterPutInUse8 1).shaft l.shaft).state ∉ [ShaftState.idle, .tripped]) ∧
    (((setupTaken stateSetupPointAndShutterPutInUse8 1).shutterLive 1).state ∈ [ShutterState.open, .unknown, .isolated]) ∧
    (setupTaken stateSetupPointAndShutterPutInUse8 1).overlay 0 = false ∧
    ¬ heldRef (setupTaken stateSetupPointAndShutterPutInUse8 1) none ∧
    (setupTaken stateSetupPointAndShutterPutInUse8 1).overlay 1 = false ∧
    ((setupTaken stateSetupPointAndShutterPutInUse8 1).zone 1).state = .isolated ∧
    ((setupTaken stateSetupPointAndShutterPutInUse8 1).shutterLive 1).state ≠ .isolated ∧
    (setupTaken stateSetupPointAndShutterPutInUse8 1).tables.shutterOk 1 { plainShutter with zone := 1 } = true) ∧
  (Accepted (withSetup stateSetupPointAndShutterPutInUse9 1) .setup (some 1) (rSetup 1) ∧
    (setupTaken stateSetupPointAndShutterPutInUse9 1).shutter 1 = some plainShutter ∧
    (∀ x, heldRef (setupTaken stateSetupPointAndShutterPutInUse9 1) x ↔ ∃ l, x = some l ∧
    (setupTaken stateSetupPointAndShutterPutInUse9 1).shaftEnabled l.shaft = true ∧
    ((setupTaken stateSetupPointAndShutterPutInUse9 1).shaft l.shaft).state ∉ [ShaftState.idle, .tripped]) ∧
    (((setupTaken stateSetupPointAndShutterPutInUse9 1).shutterLive 1).state ∈ [ShutterState.open, .unknown, .isolated]) ∧
    (setupTaken stateSetupPointAndShutterPutInUse9 1).overlay 0 = false ∧
    ¬ heldRef (setupTaken stateSetupPointAndShutterPutInUse9 1) none ∧
    (setupTaken stateSetupPointAndShutterPutInUse9 1).overlay 1 = false ∧
    ((setupTaken stateSetupPointAndShutterPutInUse9 1).zone 1).state ≠ .isolated ∧
    ((setupTaken stateSetupPointAndShutterPutInUse9 1).shutterLive 1).state = .isolated ∧
    ((setupTaken stateSetupPointAndShutterPutInUse9 1).shutterLive 1).lastReport =
        some { position := .openEnd, localRelease := false }) ∧
  (Accepted (withSetup stateSetupPointAndShutterPutInUse10 1) .setup (some 1) (rSetup 1) ∧
    (setupTaken stateSetupPointAndShutterPutInUse10 1).shutter 1 = some plainShutter ∧
    (∀ x, heldRef (setupTaken stateSetupPointAndShutterPutInUse10 1) x ↔ ∃ l, x = some l ∧
    (setupTaken stateSetupPointAndShutterPutInUse10 1).shaftEnabled l.shaft = true ∧
    ((setupTaken stateSetupPointAndShutterPutInUse10 1).shaft l.shaft).state ∉ [ShaftState.idle, .tripped]) ∧
    (((setupTaken stateSetupPointAndShutterPutInUse10 1).shutterLive 1).state ∈ [ShutterState.open, .unknown, .isolated]) ∧
    (setupTaken stateSetupPointAndShutterPutInUse10 1).overlay 0 = false ∧
    ¬ heldRef (setupTaken stateSetupPointAndShutterPutInUse10 1) none ∧
    (setupTaken stateSetupPointAndShutterPutInUse10 1).overlay 1 = false ∧
    ((setupTaken stateSetupPointAndShutterPutInUse10 1).zone 1).state ≠ .isolated ∧
    ((setupTaken stateSetupPointAndShutterPutInUse10 1).shutterLive 1).state = .isolated ∧
    ((setupTaken stateSetupPointAndShutterPutInUse10 1).shutterLive 1).lastReport = none) ∧
  (Accepted (withSetup stateSetupPointAndShutterPutInUse11 1) .setup (some 1) (rSetup 1) ∧
    (setupTaken stateSetupPointAndShutterPutInUse11 1).shutter 1 = some plainShutter ∧
    (∀ x, heldRef (setupTaken stateSetupPointAndShutterPutInUse11 1) x ↔ ∃ l, x = some l ∧
    (setupTaken stateSetupPointAndShutterPutInUse11 1).shaftEnabled l.shaft = true ∧
    ((setupTaken stateSetupPointAndShutterPutInUse11 1).shaft l.shaft).state ∉ [ShaftState.idle, .tripped]) ∧
    (((setupTaken stateSetupPointAndShutterPutInUse11 1).shutterLive 1).state ∈ [ShutterState.open, .unknown, .isolated]) ∧
    (setupTaken stateSetupPointAndShutterPutInUse11 1).overlay 0 = false ∧
    ¬ heldRef (setupTaken stateSetupPointAndShutterPutInUse11 1) none ∧
    (setupTaken stateSetupPointAndShutterPutInUse11 1).overlay 1 = false ∧
    ((setupTaken stateSetupPointAndShutterPutInUse11 1).zone 1).state ≠ .isolated ∧
    ((setupTaken stateSetupPointAndShutterPutInUse11 1).shutterLive 1).state = .isolated ∧
    ((setupTaken stateSetupPointAndShutterPutInUse11 1).shutterLive 1).lastReport =
        some { position := .raising, localRelease := false }) :=
  ⟨⟨accepted_of (by decide), by decide, by decide, by decide, by decide, by decide⟩,
  ⟨accepted_of (by decide), by decide, by decide, by decide⟩,
  ⟨accepted_of (by decide), by decide⟩,
  ⟨accepted_of (by decide), by decide, by decide⟩,
  ⟨accepted_of (by decide), by decide, by decide, by decide⟩,
  ⟨accepted_of (by decide), by decide⟩,
  ⟨accepted_of (by decide), by decide, by decide⟩,
  ⟨accepted_of (by decide), by decide, by decide, by decide⟩,
  ⟨accepted_of (by decide), by decide, by decide, by decide, by decide, by decide, by decide, by decide, by decide, by decide⟩,
  ⟨accepted_of (by decide), by decide, by decide, by decide, by decide, by decide, by decide⟩,
  ⟨accepted_of (by decide), by decide, by decide, by decide⟩,
  ⟨accepted_of (by decide), by decide, by decide, by decide, by decide, by decide, by decide, by decide, by decide⟩,
  ⟨accepted_of (by decide), by decide, by decide⟩,
  ⟨accepted_of (by decide), by decide, by decide, by decide⟩,
  accepted_of (by decide),
  ⟨accepted_of (by decide), by decide⟩,
  ⟨accepted_of (by decide), by decide, by decide, by decide, by decide, by decide, by rintro l h; cases h; decide, by decide⟩,
  ⟨accepted_of (by decide), by decide, fun _ => Iff.rfl, by decide⟩,
  ⟨accepted_of (by decide), by decide, fun _ => Iff.rfl, by decide⟩,
  ⟨accepted_of (by decide), by decide, fun _ => Iff.rfl, ⟨_, rfl, by decide, by decide⟩, by decide⟩,
  ⟨accepted_of (by decide), by decide, fun _ => Iff.rfl, by decide, by decide, (by rintro ⟨_, h, _⟩; cases h), by decide⟩,
  ⟨accepted_of (by decide), by decide, fun _ => Iff.rfl, by decide, by decide, (by rintro ⟨_, h, _⟩; cases h), by decide,
      by decide⟩,
  ⟨accepted_of (by decide), by decide, fun _ => Iff.rfl, by decide, by decide, (by rintro ⟨_, h, _⟩; cases h), by decide,
      by decide, by decide, by decide⟩,
  ⟨accepted_of (by decide), by decide, fun _ => Iff.rfl, by decide, by decide, (by rintro ⟨_, h, _⟩; cases h), by decide,
      by decide, by decide, by decide⟩,
  ⟨accepted_of (by decide), by decide, fun _ => Iff.rfl, by decide, by decide, (by rintro ⟨_, h, _⟩; cases h), by decide,
      by decide, by decide, by decide⟩,
  ⟨accepted_of (by decide), by decide, fun _ => Iff.rfl, by decide, by decide, (by rintro ⟨_, h, _⟩; cases h), by decide,
      by decide, by decide, by decide⟩⟩

/-- A landing reference that no shaft holds. -/
theorem not_held {s : State} {r : Option LandingRef} (h : s.shaftForbids r = false) : ¬ heldRef s r := by
  rintro ⟨l, rfl, he, hs⟩
  simp only [State.shaftForbids, Option.any_some, he, Bool.true_and] at h
  cases hst : (s.shaft l.shaft).state <;> simp_all
/-- Shutter 0, across landing 3 of the IDLE shaft 0, as a state to rewrite it in: its state and report, and its zone's state. -/
def rewritable (st : ShutterState) (r : Option DriveReport) (z : ZoneState := .normal) (there : ZoneState := .normal) : State :=
  zoneIn 1 there (zoneIn 0 z (shutterIs 0 st r withDrive))
def movedShutter : ShutterCfg := { landingShutter with zone := 1 }
def drivenShutter : ShutterCfg := { landingShutter with drive := 30 }
def slowerShutter : ShutterCfg := { landingShutter with descentLimit := 60 }
/-- The premises that every rewrite of shutter 0 shares, but for `Accepted` and the landing references. -/
abbrev Rewrites (s : State) (c : ShutterCfg) : Prop := (setupTaken s 0).shutter 0 = some landingShutter ∧
    (setupTaken s 0).tables.shutterOk 0 c = true ∧ c = c.clamp ∧ landingShutter ≠ c ∧
    ((setupTaken s 0).shutterLive 0).state ∈ [ShutterState.open, .unknown, .isolated] ∧
    (setupTaken s 0).overlay landingShutter.zone = false ∧ (setupTaken s 0).overlay c.zone = false ∧
    (setupTaken s 0).shaftForbids (some ⟨0, 3⟩) = false

set_option maxRecDepth 20000 in
/-- Rewrites of a shutter across a landing: another drive, the same drive and zone, a move between zones of one kind, into an
ISOLATED zone, and out of one after each kind of report. -/
theorem witness_SetupPointAndShutterPutInUse_landing :
  (Rewrites (rewritable .open (reportOf .openEnd)) drivenShutter ∧ Rewrites (rewritable .open (reportOf .openEnd)) slowerShutter ∧
    Rewrites (rewritable .open (reportOf .openEnd)) movedShutter) ∧
  (Rewrites (rewritable .open (reportOf .openEnd) .normal .isolated) movedShutter ∧
    ((setupTaken (rewritable .open (reportOf .openEnd) .normal .isolated) 0).zone 1).state = .isolated) ∧
  (∀ r ∈ [none, reportOf .openEnd, reportOf .raising, reportOf .openEnd true, reportOf .closedEnd, reportOf .jammed],
    Rewrites (rewritable .isolated r .isolated) movedShutter ∧
    ((setupTaken (rewritable .isolated r .isolated) 0).shutterLive 0).lastReport = r ∧
    ((setupTaken (rewritable .isolated r .isolated) 0).shutterLive 0).state = .isolated ∧
    ((setupTaken (rewritable .isolated r .isolated) 0).zone 1).state ≠ .isolated) ∧
  ((setupTaken (rewritable .isolated (reportOf .jammed) .isolated) 0).shaftEnabled 0 = true ∧
    ((setupTaken (rewritable .isolated (reportOf .jammed) .isolated) 0).shaft 0).state ≠ .tripped) ∧
  Accepted (withSetup (rewritable .isolated (reportOf .jammed) .isolated) 0) .setup (some 0) (rSetup 0) ∧
  ¬ heldRef (setupTaken (rewritable .isolated (reportOf .jammed) .isolated) 0) (some ⟨0, 3⟩) := by
  refine ⟨?_, ?_, ?_, ?_, accepted_of (by decide), not_held (by decide)⟩ <;> decide

set_option maxRecDepth 20000 in
/-- Rewrites of an active point in a NORMAL zone, one for each class of its live state. -/
theorem witness_SetupPointAndShutterPutInUse_points :
  (∀ st ∈ [PointState.prealarm, .alarm, .manual], ∀ c ∈ [PointCfg.mk 1 5 0 .manual, PointCfg.mk 1 5 1 .automatic],
    (setupTaken (pointIs 0 st base) 0).point 0 = some (PointCfg.mk 1 5 0 .automatic) ∧
    (setupTaken (pointIs 0 st base) 0).tables.pointOk 0 c = true ∧ PointCfg.mk 1 5 0 .automatic ≠ c ∧
    ((setupTaken (pointIs 0 st base) 0).zone 0).state = .normal ∧ ((setupTaken (pointIs 0 st base) 0).zone c.zone).state = .normal ∧
    ((setupTaken (pointIs 0 st base) 0).pointLive 0).state = st) ∧
  (setupTaken (pointIs 0 .alarm base) 0).point 1 = some (PointCfg.mk 1 6 0 .automatic) ∧
  (setupTaken base 0).tables.pointOk 1 (PointCfg.mk 1 6 0 .manual) = true ∧
  ((setupTaken base 0).zoneCfg 0).doubleKnock = true ∧ ((setupTaken base 0).zoneCfg 1).doubleKnock = false ∧
  reportClass .manual .alarm = .manual ∧ reportClass .automatic .alarm = .automatic ∧
  Accepted (withSetup (pointIs 0 .alarm base) 0) .setup (some 0) (rSetup 0) := by
  refine ⟨?_, ?_, ?_, ?_, ?_, ?_, ?_, accepted_of (by decide)⟩ <;> decide

theorem witness_SetupsReplaceTheirEntry :
  (Accepted (withSetup base 0) FrameStep.setup (some 0) (rSetup 0) ∧
    (((setupTaken base 0).zone 0).state ∈ [ZoneState.normal, ZoneState.isolated])) ∧
  (Accepted (withSetup base 16) FrameStep.setup (some 16) (rSetup 16)) ∧
  (Accepted (withSetup stateSetupsReplaceTheirEntry1 0) FrameStep.setup (some 0) (rSetup 0) ∧
    (((setupTaken stateSetupsReplaceTheirEntry1 0).zone 0).state ∉ [ZoneState.normal, ZoneState.isolated])) ∧
  (Accepted (withSetup base 64) FrameStep.setup (some 64) (rSetup 64)) ∧
  (Accepted (withSetup base 24) FrameStep.setup (some 24) (rSetup 24)) ∧
  (Accepted (withSetup base 5) FrameStep.setup (some 5) (rSetup 5)) ∧
  (Accepted (withSetup base 64) FrameStep.setup (some 64) (rSetup 64)) ∧
  (Accepted (withSetup base) FrameStep.setup (some 0) rSetup ∧
    globalAddresses (GlobalFields.mk none none none none Given.left (some 0) none none none none none) = true ∧
    (GlobalFields.mk none none none none Given.left (some 0) none none none none none).sounderMode ≠ Given.bad ∧
    (setupTaken base).tables.globalOk (globalDraft (setupTaken base).globals (GlobalFields.mk none none none none
        Given.left (some 0) none none none none none)) = true) ∧
  (Accepted (withSetup base 1) FrameStep.setup (some 1) (rSetup 1)) ∧
  (Accepted (withSetup base) FrameStep.setup (some 0) rSetup ∧
    (globalAddresses (GlobalFields.mk (some 4) none none none Given.left none none none none none none) = false ∨
        (GlobalFields.mk (some 4) none none none Given.left none none none none none none).sounderMode = Given.bad ∨
        (setupTaken base).tables.globalOk (globalDraft (setupTaken base).globals (GlobalFields.mk (some 4) none none none
        Given.left none none none none none none)) = false)) ∧
  (Accepted (withSetup base 3) FrameStep.setup (some 3) (rSetup 3)) ∧
  (Accepted (withSetup base 24) FrameStep.setup (some 24) (rSetup 24)) ∧
  (Accepted (withSetup base 23) FrameStep.setup (some 23) (rSetup 23)) :=
  ⟨⟨accepted_of (by decide), by decide⟩,
  accepted_of (by decide),
  ⟨accepted_of (by decide), by decide⟩,
  accepted_of (by decide),
  accepted_of (by decide),
  accepted_of (by decide),
  accepted_of (by decide),
  ⟨accepted_of (by decide), by decide, by decide, by decide⟩,
  accepted_of (by decide),
  ⟨accepted_of (by decide), by decide⟩,
  accepted_of (by decide),
  accepted_of (by decide),
  accepted_of (by decide)⟩

theorem witness_SetupShaftAndSillWriteTheGeometry :
  (Accepted (withSetup base 1) FrameStep.setup (some 1) (rSetup 1) ∧
    (setupTaken base 1).tables.shaftOk 1 (shaftDraft ((setupTaken base 1).geometry 1) (ShaftFields.mk (some true) none
        none none none none none none none none none none none)) = true ∧
    ((setupTaken base 1).shaftEnabled 1 = false ∨ ((setupTaken base 1).shaft 1).state ∈ [ShaftState.idle, ShaftState.tripped]) ∧
    ((setupTaken base 1).geometry 1).enabled = false ∧ ((setupTaken base 1).shaft 1).fault = false) ∧
  (Accepted (withSetup base) FrameStep.setup none rSetup ∧
    (setupTaken base).tables.sillOk 0 23 (Sill.mk 9 4 Side.down 11) = true ∧
    ((setupTaken base).shaftEnabled 0 = false ∨ ((setupTaken base).shaft 0).state ∈ [ShaftState.idle, ShaftState.tripped])) ∧
  (Accepted (withSetup base 0) FrameStep.setup (some 0) (rSetup 0) ∧
    (setupTaken base 0).tables.shaftOk 0 (shaftDraft ((setupTaken base 0).geometry 0) (ShaftFields.mk (some false) none
        none none none none none none none none none none none)) = true ∧
    ((setupTaken base 0).shaftEnabled 0 = false ∨ ((setupTaken base 0).shaft 0).state ∈ [ShaftState.idle, ShaftState.tripped]) ∧
    ((setupTaken base 0).geometry 0).enabled = true) ∧
  (Accepted (withSetup base 0) FrameStep.setup (some 0) (rSetup 0) ∧
    (setupTaken base 0).tables.shaftOk 0 (shaftDraft ((setupTaken base 0).geometry 0) (ShaftFields.mk none none none none
        none none none none (some 1) none none none none)) = true ∧
    ((setupTaken base 0).shaftEnabled 0 = false ∨ ((setupTaken base 0).shaft 0).state ∈ [ShaftState.idle, ShaftState.tripped]) ∧
    ((setupTaken base 0).geometry 0).enabled = true) ∧
  (Accepted (withSetup base 2) FrameStep.setup (some 2) (rSetup 2)) ∧
  (Accepted (withSetup base 0) FrameStep.setup (some 0) (rSetup 0) ∧
    (setupTaken base 0).tables.shaftOk 0 (shaftDraft ((setupTaken base 0).geometry 0) (ShaftFields.mk none none none none
        none none none none (some 400) none none (some 400) none)) = true ∧
    ((setupTaken base 0).shaftEnabled 0 = false ∨ ((setupTaken base 0).shaft 0).state ∈ [ShaftState.idle,
        ShaftState.tripped])) ∧
  (Accepted (withSetup base 0) FrameStep.setup (some 0) (rSetup 0) ∧
    (setupTaken base 0).tables.shaftOk 0 (shaftDraft ((setupTaken base 0).geometry 0) (ShaftFields.mk none (some 9601)
        none none none none none none none none none none none)) = false) ∧
  (Accepted (withSetup (moving .running) 0) FrameStep.setup (some 0) (rSetup 0) ∧
    (setupTaken (moving .running) 0).tables.shaftOk 0 (shaftDraft ((setupTaken (moving .running) 0).geometry 0)
        (ShaftFields.mk none none none none (some 7) none none none none none none none none)) = true ∧
    (setupTaken (moving .running) 0).shaftEnabled 0 = true ∧
    (((setupTaken (moving .running) 0).shaft 0).state ∉ [ShaftState.idle, ShaftState.tripped])) ∧
  (Accepted (withSetup base) FrameStep.setup none rSetup ∧ (2 ≤ 0 ∨ 24 ≤ 24)) ∧
  (Accepted (withSetup base) FrameStep.setup none rSetup ∧
    (setupTaken base).tables.sillOk 0 23 (Sill.mk 9 5 Side.up 11) = false) ∧
  (Accepted (withSetup (moving .running)) FrameStep.setup none rSetup ∧
    (setupTaken (moving .running)).tables.sillOk 0 2 (Sill.mk 1209 5 Side.down 11) = true ∧
    (setupTaken (moving .running)).shaftEnabled 0 = true ∧
    (((setupTaken (moving .running)).shaft 0).state ∉ [ShaftState.idle, ShaftState.tripped])) ∧
  (Accepted (withSetup base) FrameStep.setup none rSetup ∧
    (shaftFree base 0 ↔ (setupTaken base).shaftEnabled 0 = false ∨ ((setupTaken base).shaft 0).state ∈ [ShaftState.idle,
        ShaftState.tripped]) ∧
    (setupTaken base).sill 0 0 ≠ none ∧ shaftFree base 0) ∧
  (Accepted (withSetup base) FrameStep.setup none rSetup ∧
    (shaftFree base 2 ↔ (setupTaken base).shaftEnabled 2 = false ∨ ((setupTaken base).shaft 2).state ∈ [ShaftState.idle,
        ShaftState.tripped]) ∧
    (2 ≤ 2 ∨ 24 ≤ 0)) ∧
  (Accepted (withSetup base) FrameStep.setup none rSetup ∧
    (shaftFree base 0 ↔ (setupTaken base).shaftEnabled 0 = false ∨ ((setupTaken base).shaft 0).state ∈ [ShaftState.idle,
        ShaftState.tripped]) ∧
    (setupTaken base).sill 0 23 = none ∧ shaftFree base 0) ∧
  (Accepted (withSetup stateSetupShaftAndSillWriteTheGeometry1) FrameStep.setup none rSetup ∧
    (shaftFree stateSetupShaftAndSillWriteTheGeometry1 0 ↔
        (setupTaken stateSetupShaftAndSillWriteTheGeometry1).shaftEnabled 0 = false ∨
        ((setupTaken stateSetupShaftAndSillWriteTheGeometry1).shaft 0).state ∈ [ShaftState.idle, ShaftState.tripped]) ∧
    ¬shaftFree stateSetupShaftAndSillWriteTheGeometry1 0) ∧
  (Accepted (withSetup stateSetupShaftAndSillWriteTheGeometry2) FrameStep.setup none rSetup ∧
    (shaftFree stateSetupShaftAndSillWriteTheGeometry2 0 ↔
        (setupTaken stateSetupShaftAndSillWriteTheGeometry2).shaftEnabled 0 = false ∨
        ((setupTaken stateSetupShaftAndSillWriteTheGeometry2).shaft 0).state ∈ [ShaftState.idle, ShaftState.tripped]) ∧
    (setupTaken stateSetupShaftAndSillWriteTheGeometry2).sill 0 0 ≠ none) :=
  ⟨⟨accepted_of (by decide), by decide, by decide, by decide, by decide⟩,
  ⟨accepted_of (by decide), by decide, by decide⟩,
  ⟨accepted_of (by decide), by decide, by decide, by decide⟩,
  ⟨accepted_of (by decide), by decide, by decide, by decide⟩,
  accepted_of (by decide),
  ⟨accepted_of (by decide), by decide, by decide⟩,
  ⟨accepted_of (by decide), by decide⟩,
  ⟨accepted_of (by decide), by decide, by decide, by decide⟩,
  ⟨accepted_of (by decide), by decide⟩,
  ⟨accepted_of (by decide), by decide⟩,
  ⟨accepted_of (by decide), by decide, by decide, by decide⟩,
  ⟨accepted_of (by decide), by decide, by decide, by decide⟩,
  ⟨accepted_of (by decide), by decide, by decide⟩,
  ⟨accepted_of (by decide), by decide, by decide, by decide⟩,
  ⟨accepted_of (by decide), by decide, by decide⟩,
  ⟨accepted_of (by decide), by decide, by decide⟩⟩

set_option maxRecDepth 20000 in
theorem witness_ZoneOrdersMoveTheZone :
  (Accepted (withOrder (zoneIn 0 .alarm) 0) FrameStep.order (some 0) (rOrder 0) ∧
    (((orderTaken (zoneIn 0 .alarm) 0).zone 0).state ∉ [ZoneState.normal, ZoneState.alert]) ∧
    ((orderTaken (zoneIn 0 .alarm) 0).zone 0).state ≠ ZoneState.isolated ∧
    ((orderTaken (zoneIn 0 .alarm) 0).zone 0).state = ZoneState.alarm ∧
    (((orderTaken (zoneIn 0 .alarm) 0).zone 0).state ∈ [ZoneState.alarm, ZoneState.silenced]) ∧
    (∀ (i : ℕ) (c : PointCfg), (orderTaken (zoneIn 0 .alarm) 0).point i = some c → c.zone =
        0 → ((orderTaken (zoneIn 0 .alarm) 0).pointLive i).state ∈ [PointState.normal, PointState.fault]) ∧
    (∀ (i : ℕ) (c : ShutterCfg), (orderTaken (zoneIn 0 .alarm) 0).shutter i = some c → c.zone =
        0 → ((orderTaken (zoneIn 0 .alarm) 0).shutterLive i).state ∈ [ShutterState.open, ShutterState.isolated])) ∧
  (Accepted (withOrder base 0) FrameStep.order (some 0) (rOrder 0) ∧
    ((orderTaken base 0).zone 0).state ≠ ZoneState.alarm ∧
    (((orderTaken base 0).zone 0).state ∉ [ZoneState.alarm, ZoneState.silenced, ZoneState.resetting]) ∧
    ((orderTaken base 0).zone 0).state ≠ ZoneState.isolated ∧
    (((orderTaken base 0).zone 0).state ∈ [ZoneState.normal, ZoneState.alert])) ∧
  (Accepted (withOrder stateZoneOrdersMoveTheZone1 0) FrameStep.order (some 0) (rOrder 0) ∧
    (((orderTaken stateZoneOrdersMoveTheZone1 0).zone 0).state ∉ [ZoneState.normal, ZoneState.alert]) ∧
    ((orderTaken stateZoneOrdersMoveTheZone1 0).zone 0).state ≠ ZoneState.isolated ∧
    ((orderTaken stateZoneOrdersMoveTheZone1 0).zone 0).state = ZoneState.alarm ∧
    (((orderTaken stateZoneOrdersMoveTheZone1 0).zone 0).state ∈ [ZoneState.alarm, ZoneState.silenced]) ∧
    (∀ (i : ℕ) (c : PointCfg), (orderTaken stateZoneOrdersMoveTheZone1 0).point i = some c → c.zone =
        0 → ((orderTaken stateZoneOrdersMoveTheZone1 0).pointLive i).state ∈ [PointState.normal, PointState.fault]) ∧
    (∃ i c, (orderTaken stateZoneOrdersMoveTheZone1 0).shutter i = some c ∧ c.zone = 0 ∧
    ((orderTaken stateZoneOrdersMoveTheZone1 0).shutterLive i).state ∈ [ShutterState.descending, ShutterState.closed,
        ShutterState.stalled]) ∧
    (orderTaken stateZoneOrdersMoveTheZone1 0).day.closePending = false) ∧
  (Accepted (withOrder stateZoneOrdersMoveTheZone2 0) FrameStep.order (some 0) (rOrder 0) ∧
    ((orderTaken stateZoneOrdersMoveTheZone2 0).zone 0).state ≠ ZoneState.alarm ∧
    (((orderTaken stateZoneOrdersMoveTheZone2 0).zone 0).state ∉ [ZoneState.normal, ZoneState.alert]) ∧
    ((orderTaken stateZoneOrdersMoveTheZone2 0).zone 0).state ≠ ZoneState.isolated ∧
    ((orderTaken stateZoneOrdersMoveTheZone2 0).zone 0).state = ZoneState.resetting ∧
    (∀ (i : ℕ) (c : PointCfg), (orderTaken stateZoneOrdersMoveTheZone2 0).point i = some c → c.zone =
        0 → ((orderTaken stateZoneOrdersMoveTheZone2 0).pointLive i).state ∈ [PointState.normal, PointState.fault]) ∧
    (∃ i c, (orderTaken stateZoneOrdersMoveTheZone2 0).shutter i = some c ∧ c.zone = 0 ∧
    ((orderTaken stateZoneOrdersMoveTheZone2 0).shutterLive i).state ∉ [ShutterState.open, ShutterState.isolated])) ∧
  (Accepted (withOrder stateZoneOrdersMoveTheZone3 0) FrameStep.order (some 0) (rOrder 0) ∧
    ((orderTaken stateZoneOrdersMoveTheZone3 0).zone 0).state ≠ ZoneState.alarm ∧
    (((orderTaken stateZoneOrdersMoveTheZone3 0).zone 0).state ∉ [ZoneState.alarm, ZoneState.silenced, ZoneState.resetting]) ∧
    (((orderTaken stateZoneOrdersMoveTheZone3 0).zone 0).state ∉ [ZoneState.normal, ZoneState.alert]) ∧
    ((orderTaken stateZoneOrdersMoveTheZone3 0).zone 0).state = ZoneState.isolated ∧
    (∀ (i : ℕ) (c : PointCfg), (orderTaken stateZoneOrdersMoveTheZone3 0).point i = some c → c.zone =
        0 → ((orderTaken stateZoneOrdersMoveTheZone3 0).pointLive i).state ∈ [PointState.normal, PointState.fault]) ∧
    (∀ (i : ℕ) (c : ShutterCfg), (orderTaken stateZoneOrdersMoveTheZone3 0).shutter i = some c → c.zone =
        0 → ((orderTaken stateZoneOrdersMoveTheZone3 0).shutterLive i).lastReport =
        some (DriveReport.mk CurtainPos.openEnd false))) ∧
  (Accepted (withOrder (zoneIn 0 .resetting) 0) FrameStep.order (some 0) (rOrder 0) ∧
    ((orderTaken (zoneIn 0 .resetting) 0).zone 0).state ≠ ZoneState.alarm ∧
    (((orderTaken (zoneIn 0 .resetting) 0).zone 0).state ∉ [ZoneState.normal, ZoneState.alert]) ∧
    ((orderTaken (zoneIn 0 .resetting) 0).zone 0).state ≠ ZoneState.isolated ∧
    ((orderTaken (zoneIn 0 .resetting) 0).zone 0).state = ZoneState.resetting ∧
    (∀ (i : ℕ) (c : PointCfg), (orderTaken (zoneIn 0 .resetting) 0).point i = some c → c.zone =
        0 → ((orderTaken (zoneIn 0 .resetting) 0).pointLive i).state ∈ [PointState.normal, PointState.fault]) ∧
    (∀ (i : ℕ) (c : ShutterCfg), (orderTaken (zoneIn 0 .resetting) 0).shutter i = some c → c.zone =
        0 → ((orderTaken (zoneIn 0 .resetting) 0).shutterLive i).state ∈ [ShutterState.open, ShutterState.isolated])) ∧
  (Accepted (withOrder stateZoneOrdersMoveTheZone4 0) FrameStep.order (some 0) (rOrder 0) ∧
    (((orderTaken stateZoneOrdersMoveTheZone4 0).zone 0).state ∈ [ZoneState.alarm, ZoneState.silenced]) ∧
    (∀ (i : ℕ) (c : PointCfg), (orderTaken stateZoneOrdersMoveTheZone4 0).point i = some c → c.zone =
        0 → ((orderTaken stateZoneOrdersMoveTheZone4 0).pointLive i).state ∈ [PointState.normal, PointState.fault]) ∧
    (∀ (i : ℕ) (c : ShutterCfg), (orderTaken stateZoneOrdersMoveTheZone4 0).shutter i = some c → c.zone =
        0 → ((orderTaken stateZoneOrdersMoveTheZone4 0).shutterLive i).state ∈ [ShutterState.open, ShutterState.isolated] ∨
        ((orderTaken stateZoneOrdersMoveTheZone4 0).shutterLive i).state ∈ [ShutterState.releaseWait, ShutterState.warning] ∧
    Option.any (fun x => decide (x.position =
        CurtainPos.openEnd)) ((orderTaken stateZoneOrdersMoveTheZone4 0).shutterLive i).lastReport = true) ∧
    (orderTaken stateZoneOrdersMoveTheZone4 0).day.closePending = false) ∧
  (Accepted (withOrder stateZoneOrdersMoveTheZone5 0) FrameStep.order (some 0) (rOrder 0) ∧
    (((orderTaken stateZoneOrdersMoveTheZone5 0).zone 0).state ∈ [ZoneState.alarm, ZoneState.silenced]) ∧
    (∀ (i : ℕ) (c : PointCfg), (orderTaken stateZoneOrdersMoveTheZone5 0).point i = some c → c.zone =
        0 → ((orderTaken stateZoneOrdersMoveTheZone5 0).pointLive i).state ∈ [PointState.normal, PointState.fault]) ∧
    (∃ i c, (orderTaken stateZoneOrdersMoveTheZone5 0).shutter i = some c ∧ c.zone = 0 ∧
    (((orderTaken stateZoneOrdersMoveTheZone5 0).shutterLive i).state ∈ [ShutterState.descending, ShutterState.closed,
        ShutterState.stalled, ShutterState.unknown, ShutterState.raising] ∨
        ((orderTaken stateZoneOrdersMoveTheZone5 0).shutterLive i).state ∈ [ShutterState.releaseWait, ShutterState.warning] ∧
    Option.any (fun x => decide (x.position =
        CurtainPos.openEnd)) ((orderTaken stateZoneOrdersMoveTheZone5 0).shutterLive i).lastReport = false)) ∧
    (orderTaken stateZoneOrdersMoveTheZone5 0).day.closePending = false) ∧
  (Accepted (withOrder stateZoneOrdersMoveTheZone6 0) FrameStep.order (some 0) (rOrder 0) ∧
    ((orderTaken stateZoneOrdersMoveTheZone6 0).zone 0).state = ZoneState.isolated ∧
    (orderTaken stateZoneOrdersMoveTheZone6 0).day.closePending = false ∧
    (∀ (i : ℕ) (c : ShutterCfg), (orderTaken stateZoneOrdersMoveTheZone6 0).shutter i = some c → c.zone =
        0 → ((orderTaken stateZoneOrdersMoveTheZone6 0).shutterLive i).lastReport ∈ [none,
        some (DriveReport.mk CurtainPos.openEnd false), some (DriveReport.mk CurtainPos.raising false)]) ∧
    (∀ (i : ℕ) (c : PointCfg), (orderTaken stateZoneOrdersMoveTheZone6 0).point i = some c → c.zone =
        0 → ((orderTaken stateZoneOrdersMoveTheZone6 0).pointLive i).state ∈ [PointState.normal, PointState.fault,
        PointState.prealarm]) ∧
    (∃ i c, (orderTaken stateZoneOrdersMoveTheZone6 0).point i = some c ∧ c.zone = 0 ∧
    ((orderTaken stateZoneOrdersMoveTheZone6 0).pointLive i).state = PointState.prealarm)) ∧
  (Accepted (withOrder (isolatedZone (reportOf .openEnd) (reportOf .openEnd)) 0) FrameStep.order (some 0) (rOrder 0) ∧
    ((orderTaken (isolatedZone (reportOf .openEnd) (reportOf .openEnd)) 0).zone 0).state = ZoneState.isolated ∧
    (orderTaken (isolatedZone (reportOf .openEnd) (reportOf .openEnd)) 0).day.closePending = false ∧
    (∀ (i : ℕ) (c : ShutterCfg), (orderTaken (isolatedZone (reportOf .openEnd) (reportOf .openEnd)) 0).shutter i =
        some c → c.zone =
        0 → ((orderTaken (isolatedZone (reportOf .openEnd) (reportOf .openEnd)) 0).shutterLive i).lastReport ∈ [none,
        some (DriveReport.mk CurtainPos.openEnd false), some (DriveReport.mk CurtainPos.raising false)]) ∧
    (∀ (i : ℕ) (c : PointCfg), (orderTaken (isolatedZone (reportOf .openEnd) (reportOf .openEnd)) 0).point i =
        some c → c.zone =
        0 → ((orderTaken (isolatedZone (reportOf .openEnd) (reportOf .openEnd)) 0).pointLive i).state ∈
        [PointState.normal, PointState.fault])) :=
  ⟨⟨accepted_of (by decide), by decide, by decide, by decide, by decide, points_all (by decide), shutters_all (by decide)⟩,
  ⟨accepted_of (by decide), by decide, by decide, by decide, by decide⟩,
  ⟨accepted_of (by decide), by decide, by decide, by decide, by decide, points_all (by decide), shutters_any (by decide),
      by decide⟩,
  ⟨accepted_of (by decide), by decide, by decide, by decide, by decide, points_all (by decide), shutters_any (by decide)⟩,
  ⟨accepted_of (by decide), by decide, by decide, by decide, by decide, points_all (by decide), shutters_all (by decide)⟩,
  ⟨accepted_of (by decide), by decide, by decide, by decide, by decide, points_all (by decide), shutters_all (by decide)⟩,
  ⟨accepted_of (by decide), by decide, points_all (by decide), shutters_all (by decide), by decide⟩,
  ⟨accepted_of (by decide), by decide, points_all (by decide), shutters_any (by decide), by decide⟩,
  ⟨accepted_of (by decide), by decide, by decide, shutters_all (by decide), points_all (by decide), points_any (by decide)⟩,
  ⟨accepted_of (by decide), by decide, by decide, shutters_all (by decide), points_all (by decide)⟩⟩

theorem witness_ClearCallsRemovesRecords :
  (Accepted (withOrder base) FrameStep.order none rOrder ∧
    (List.map CallRecord.number (orderTaken base).calls.records).Nodup ∧
    (∀ (i : ℕ) (c : StationCfg), (orderTaken base).station i = some c → BitVec.toNat c.address =
        666 → c.role ≠ Role.callPoint)) ∧
  (Accepted (withOrder ringing) .order none (rOrder 0) ∧
    ((orderTaken ringing).calls.records.map CallRecord.number).Nodup ∧ (orderTaken ringing).callPointAt 4 = some 3) :=
  ⟨⟨accepted_of (by decide), by decide, stations_all (by decide)⟩,
  ⟨accepted_of (by decide), by decide, by decide⟩⟩

theorem witness_ClearCountersClearsOnlyCounters :
  (Accepted (withOrder stateClearCountersClearsOnlyCounters1) FrameStep.order none rOrder) :=
  accepted_of (by decide)

set_option maxRecDepth 20000 in
theorem witness_LineTestLoopsAndAnswers :
  (((inLoop 7000001).port 0).test = some (lineTestOf 7000001) ∧
    judgeLine LineEvent.noMark = Except.error LineCheck.noise ∧ ((inLoop 7000001).port 0).flushCount = 0) ∧
  (Accepted (withOrder stateLineTestLoopsAndAnswers1 0) FrameStep.order (some 0) (rOrder 0) ∧
    ((orderTaken stateLineTestLoopsAndAnswers1 0).port 0).state = PortState.down) ∧
  (Accepted (withOrder base 5) FrameStep.order (some 5) (rOrder 5)) ∧
  (Accepted (withOrder base 4) FrameStep.order (some 4) (rOrder 4) ∧ (4 = 4 ∨ 4 < 5 ∧
    ((orderTaken base 4).port 4).state ≠ PortState.down)) ∧
  (((inLoop 7000001).port 0).test = some {ticket := ⟨5,8⟩, limit := 7000001, frame := (lineTestOf 1).frame} ∧
    judgeLine (.bytes testFrame.bytes) = .ok testFrame ∧ testFrame.payload = testPayload) ∧
  (((inLoop 7000001).port 0).test = some {ticket := ⟨5,8⟩, limit := 7000001, frame := (lineTestOf 1).frame} ∧
    (inLoop 7000001).now ≤ 7000001) :=
  ⟨⟨by decide, by decide, by decide⟩,
  ⟨accepted_of (by decide), by decide⟩,
  accepted_of (by decide),
  ⟨accepted_of (by decide), by decide⟩,
  ⟨by decide, by decide, by decide⟩,
  ⟨by decide, by decide⟩⟩

set_option maxRecDepth 20000 in
/-- Each check of R166 fails on some line event: a runt, a 57th byte, a wrong length field, a wrong check. -/
theorem witness_LineTestLoopsAndAnswers_checks :
  judgeLine (.bytes [1, 2, 3, 4, 5, 0, 7]) = .error .runt ∧
  judgeLine (.bytes (List.replicate 57 1)) = .error .long ∧
  judgeLine (.bytes [1, 2, 3, 4, 5, 1, 7, 8]) = .error .length ∧
  judgeLine (.bytes [1, 2, 3, 4, 5, 0, 0, 0]) = .error .check := by decide

theorem witness_SettingsAndPhrasesAreWritten :
  (Accepted (withOrder base) FrameStep.order none rOrder ∧ (orderTaken base).settings.saving = none) ∧
  (savingState.settings.saving = some baseSaving ∧
    ((SaveResult.differs, ImageState.invalid) ∈ [(SaveResult.differs, ImageState.invalid), (SaveResult.noAcknowledge,
        ImageState.absent)])) ∧
  (Accepted (withOrder savingState) FrameStep.order none rOrder ∧ (orderTaken savingState).settings.saving ≠ none) ∧
  (writingState.settings.writing = some phraseWrite ∧ writingState.store.wf = true ∧ (List.replicate 32 7#8).length = 32) :=
  ⟨⟨accepted_of (by decide), by decide⟩,
  ⟨by decide, by decide⟩,
  ⟨accepted_of (by decide), by decide⟩,
  ⟨by decide, by decide, by decide⟩⟩

theorem witness_PhraseLockHolds :
  (Accepted (withOrder base) FrameStep.order none rOrder) ∧
  (lockedStore.settings.locked = true ∧ lockedStore.settings.writing = some storeWrite ∧
    (∃ t, exec (.phraseWriteEnd storeWrite.data) lockedStore = .next t)) ∧
  ((withOrder lockedStore).settings.locked = true ∧ Accepted (withOrder lockedStore) .order none (rOrder 0) ∧
    (∃ t, exec (.writePhraseBlock (some 64) (List.replicate 32 7)) (withOrder lockedStore) = .next t)) ∧
  ((∃ t, exec .powerOn lockedStore = .next t)) ∧
  ((∃ t, exec .restartTimeout lockedStore = .next t)) :=
  ⟨accepted_of (by decide),
  ⟨by decide, by decide, ⟨_, rfl⟩⟩,
  ⟨by decide, accepted_of (by decide), ⟨_, rfl⟩⟩,
  ⟨_, rfl⟩,
  ⟨_, rfl⟩⟩

theorem witness_QueriesReadTheState :
  (QueryData.free.parts = 1) ∧
  (Accepted (withQuery base 16) FrameStep.query (queryIndex QueryCode.zone 16) (rQuery 16) ∧
    QueryCode.zone ≠ QueryCode.unknown ∧ (queryTaken base 16).queryData QueryCode.zone 16 0 = none) ∧
  (Accepted (withQuery base 2) FrameStep.query (queryIndex QueryCode.unknown 2) (rQuery 2)) ∧
  (Accepted (withQuery base 2) FrameStep.query (queryIndex QueryCode.zone 2) (rQuery 2) ∧
    QueryCode.zone ≠ QueryCode.unknown ∧
    (queryTaken base 2).queryData QueryCode.zone 2 0 = some ((base.queryData QueryCode.zone 2 0).getD QueryData.free) ∧
    0 < ((base.queryData QueryCode.zone 2 0).getD QueryData.free).parts) ∧
  (Accepted (withOrder base) FrameStep.order none rOrder) ∧
  (Accepted (withQuery base 70) .query (queryIndex .station 70) (rQuery 70) ∧
    (queryTaken base 70).queryData .station 70 0 = some .free ∧ 0 < QueryData.parts .free ∧
    QueryData.parts .free ≤ 1) ∧
  (Accepted (withQuery base 2) .query (queryIndex .zone 2) (rQuery 2) ∧
    (queryTaken base 2).queryData .zone 2 0 = some (.zone ((queryTaken base 2).zoneCfg 2) ((queryTaken base 2).zone 2)) ∧
    0 < QueryData.parts (.zone ((queryTaken base 2).zoneCfg 2) ((queryTaken base 2).zone 2))) :=
  ⟨by decide,
  ⟨accepted_of (by decide), by decide, by decide⟩,
  accepted_of (by decide),
  ⟨accepted_of (by decide), by decide, by decide, QueryData.parts_pos _⟩,
  accepted_of (by decide),
  ⟨accepted_of (by decide), by decide, by decide, by decide⟩,
  ⟨accepted_of (by decide), by decide, QueryData.parts_pos _⟩⟩

/-- QUERY at the last index, one past it, and index 255 of the counted tables. -/
theorem witness_QueriesReadTheState_ranges :
  (base.queryData .station 95 0 = some .free ∧ base.queryData .station 96 0 = none ∧
    base.queryData .station 255 0 = some (.stationCounters 0 0)) ∧
  (base.queryData .point 127 0 = some .free ∧ base.queryData .point 128 0 = none ∧
    base.queryData .point 255 0 = some (.pointCounters 0)) ∧
  (base.queryData .shutter 31 0 = some .free ∧ base.queryData .shutter 32 0 = none ∧
    base.queryData .shutter 255 0 = some (.shutterCounters 0)) ∧
  (base.queryData .route 63 0 = some .free ∧ base.queryData .route 64 0 = none) ∧
  (base.queryData .sill 1 23 = some .free ∧ base.queryData .sill 1 24 = none ∧ base.queryData .sill 2 0 = none) ∧
  (base.queryData .schedule 23 0 = some .free ∧ base.queryData .schedule 24 0 = none) ∧
  (base.queryData .global 23 0 = some (.noticeCfg {}) ∧ base.queryData .global 24 0 = none) ∧
  (base.queryData .calls 47 0 = some .free ∧ base.queryData .calls 48 0 = none ∧
    base.queryData .calls 255 0 = some (.callCounters {})) ∧
  (base.queryData .sounder 95 0 = some .free ∧ base.queryData .sounder 96 0 = none) ∧
  (base.queryData .phrase 127 0 = some (.phrase {} .empty) ∧ base.queryData .phrase 128 0 = none) ∧
  (base.queryData .port 4 0 ≠ none ∧ base.queryData .port 5 0 = none) ∧ base.queryData .clock 1 0 = none ∧
  base.queryData .store 1 0 = none ∧ base.queryData .playback 1 0 = none ∧ base.queryData .exchange 1 0 = none ∧
  base.queryData .management 1 0 = none := by decide

/-- QUERY of entries in use: a point, a route, a sill, a sounder, a VALID phrase, and a call record that sounds. -/
theorem witness_QueriesReadTheState_entries :
  base.queryData .point 2 0 = some (.point { panel := 1, number := 7, zone := 0, kind := .manual } {}) ∧
  base.queryData .route 0 0 =
    some (.route { callPoint := 3, primary := 4, secondary := some 9, sounder := some 5 }) ∧
  base.queryData .sill 0 2 = some (.sill { position := 700, landing := 4, side := .up, station := 11 }) ∧
  base.queryData .sounder 5 0 = some (.sounder {}) ∧
  base.queryData .phrase 1 0 = some (.phrase { start := 1024, count := 72, gain := 256 } .valid) ∧
  base.queryData .exchange 0 0 = some (.exchange {}) ∧
  queriedCall.queryData .calls 0 0 = some (.call queriedRecord .ringing [10] [5] (some 5000000)) := by decide

theorem witness_NoticesAreBuiltAndRepeated :
  ((base.notify (.zoneFault 3 true)) = base.notify (NoticeBody.zoneFault 3 true) ∧
    (base.tables.notice (NoticeBody.zoneFault 3 true).key.kind).enable = true ∧
    (base.port 4).state ≠ PortState.up ∧ base.net.mgmt.queue.length < 16) ∧
  ((List.find? (fun t => decide (t.key = NoticeKey.mk NoticeKind.zoneFault 3 0)) zoneFaultNotice.net.mgmt.timers =
      some (NoticeTimer.mk (NoticeKey.mk NoticeKind.zoneFault 3 0) (NoticeBody.zoneFault 3 true) 7000400)) ∧
    (zoneFaultNotice.tables.notice (NoticeKey.mk NoticeKind.zoneFault 3 0).kind).enable = true ∧
    (zoneFaultNotice.tables.notice (NoticeKey.mk NoticeKind.zoneFault 3 0).kind).mode = NoticeMode.level ∧
    zoneFaultNotice.conditionStands (NoticeTimer.mk (NoticeKey.mk NoticeKind.zoneFault 3 0) (NoticeBody.zoneFault 3 true)
        7000400).body = true ∧
    (zoneFaultNotice.port 4).state ≠ PortState.up ∧ zoneFaultNotice.net.mgmt.queue.length < 16) ∧
  ((noticesOn.notify (.shutterFault 3 .slow true)) = noticesOn.notify (NoticeBody.shutterFault 3 ShutterFault.slow true) ∧
    (noticesOn.tables.notice (NoticeBody.shutterFault 3 ShutterFault.slow true).key.kind).enable = false) ∧
  ((List.find? (fun t => decide (t.key =
      NoticeKey.mk NoticeKind.zoneFault 3 0)) stateNoticesAreBuiltAndRepeated1.net.mgmt.timers =
      some (NoticeTimer.mk (NoticeKey.mk NoticeKind.zoneFault 3 0) (NoticeBody.zoneFault 3 true) 7000400)) ∧
    ((stateNoticesAreBuiltAndRepeated1.tables.notice (NoticeKey.mk NoticeKind.zoneFault 3 0).kind).enable = false ∨
        (stateNoticesAreBuiltAndRepeated1.tables.notice (NoticeKey.mk NoticeKind.zoneFault 3 0).kind).mode =
        NoticeMode.edge ∨
        stateNoticesAreBuiltAndRepeated1.conditionStands (NoticeTimer.mk (NoticeKey.mk NoticeKind.zoneFault 3 0)
        (NoticeBody.zoneFault 3 true) 7000400).body = false)) :=
  ⟨⟨by decide, by decide, by decide, by decide⟩,
  ⟨by decide, by decide, by decide, by decide, by decide, by decide⟩,
  ⟨by decide, by decide⟩,
  ⟨by decide, by decide⟩⟩

/-- L4 is UP with a NORMAL queue of some length, and notices wait. -/
def officeUp (n : Nat) (ns : List Notice) (s : State := zoneFaultNotice) : State :=
  (withPort 4 (fun x => { x with state := .up, hand := none, normal := List.replicate n (txFrame 8) }) s).modMgmt fun m => { m with queue := ns }
def waitingNotice (v : Severity) : Notice := { body := .stationLost 3, severity := v, route := .both, seq := 4 }
def sendingOffice : State :=
  withPort 4 (fun x => { x with hand := some (sending .normal) }) (officeUp 16 [waitingNotice .alarm, waitingNotice .info])
def trialOffice : State := withPort 4 (fun x => { x with state := .trial, trial := 2, hand := none, normal := List.replicate 16 (txFrame 8) })
  (officeUp 0 [waitingNotice .alarm])

set_option maxRecDepth 20000 in
/-- L4 UP with room and without, a full notice queue, and the moments at which the head is tried again. -/
theorem witness_NoticesAreBuiltAndRepeated_dispatch :
  (∀ s ∈ [officeUp 0 [], officeUp 15 [waitingNotice .alarm], officeUp 16 (List.replicate 16 (waitingNotice .info))],
    (s.tables.notice .zoneFault).enable = true ∧ (s.tables.notice .zoneFault).mode = .level ∧ (s.port 4).state = .up ∧
    (s.net.mgmt.timers.find? fun t => decide (t.key = NoticeKey.mk .zoneFault 3 0)) =
      some (NoticeTimer.mk (NoticeKey.mk .zoneFault 3 0) (.zoneFault 3 true) 7000400) ∧
    s.conditionStands (.zoneFault 3 true) = true) ∧
  16 ≤ (officeUp 16 (List.replicate 16 (waitingNotice .info))).net.mgmt.queue.length ∧
  ((sendingOffice.port 4).hand = some (sending .normal) ∧ (sendingOffice.port 4).headOf .normal = some (txFrame 8) ∧
    (txFrame 8).report = .none ∧ (sending .normal).phase = .sending ∧ (sending .normal).source = .queue .normal) ∧
  (trialOffice.inPlace = true ∧ (trialOffice.port 4).state = .trial ∧ 2 ≤ (trialOffice.port 4).trial ∧
    (trialOffice.port 4).judges = true ∧ judgeLine (.bytes pressFrame.bytes) = .ok pressFrame ∧
    (after (.frameReceive 4 (.bytes pressFrame.bytes)) trialOffice).net.mgmt.queue ≠ []) ∧
  (base.globals.console0 ≠ none ∧ ({} : Global).console0 = none ∧ ({} : Global).console1 = none) ∧
  (oneCall.record 1 = some (callRecord 1 3 .service)) := by
  refine ⟨?_, ?_, ?_, ?_, ?_, ?_⟩ <;> decide

theorem witness_StepKeepsOutputsAndPositions :
  (runningNext.outputsOk ∧ (∃ t, step runningNext = .next t)) ∧
  (runningNext.PositionsOk ∧ (∃ t, step runningNext = .next t)) ∧
  (runningNext.SoundersFollow ∧ (∃ t, step runningNext = .next t)) :=
  ⟨⟨by unfold State.outputsOk; decide, ⟨_, rfl⟩⟩,
  ⟨⟨by decide, by decide, by decide⟩, ⟨_, rfl⟩⟩,
  ⟨⟨by decide, by decide, fun i _ a ha => arbiters_all (P := fun i a => a.service =
      runningNext.serviceFor i) (by decide) i a ha, fun i _ a ha => arbiters_all (P := fun _ a => (a.service =
      .evacuating ↔ a.inForce = .continuous) ∧
    (a.service = .silent → a.inForce = .none)) (by decide) i a ha⟩, ⟨_, rfl⟩⟩⟩

theorem witness_StepKeepsTheInterlock :
  (runningNext.Interlocked ∧ (∃ t, step runningNext = .next t)) :=
  ⟨⟨by unfold State.outputsOk; decide, by decide, by decide, shutters_all (by decide), shutters_all (by decide),
      by decide, by decide, by decide, by decide⟩, ⟨_, rfl⟩⟩

set_option maxRecDepth 20000 in
theorem witness_StepKeepsTheTablesValid :
  (runningNext.tables.check = true ∧ (∃ t, step runningNext = .next t)) :=
  ⟨by decide, ⟨_, rfl⟩⟩

theorem witness_StepKeepsQueueSizes :
  (runningNext.lineQueuesOk ∧ (∃ t, step runningNext = .next t)) ∧
  (runningNext.jobQueuesOk ∧ (∃ t, step runningNext = .next t)) :=
  ⟨⟨by unfold State.lineQueuesOk Port.queuesOk; decide, ⟨_, rfl⟩⟩,
  ⟨⟨by decide, by decide, by decide, arbiters_all (by decide), by decide, by decide, by decide⟩, ⟨_, rfl⟩⟩⟩

set_option maxRecDepth 20000 in
theorem witness_FrameAndSampleBytesRoundTrip :
  (judgeLine (LineEvent.bytes longFrame.bytes) = Except.ok longFrame) ∧
  (longFrame.payload.length ≤ 48) ∧
  ([1#12, 4095#12, 2048#12, 291#12].length % 2 = 0) ∧
  ([1#8, 255#8, 128#8].length % 3 = 0) ∧
  ((List.replicate 24 5).length = 24) :=
  ⟨by decide,
  by decide,
  by decide,
  by decide,
  by decide⟩

theorem witness_OffersFollowTheTable :
  ((base.offer 0 .safety (txFrame 99)) = base.offer 0 QueueClass.safety (txFrame 99) ∧
    ((base.port 0).state ∈ [PortState.trial, PortState.up]) ∧ (base.port 0).safety.length < 8) ∧
  ((base.offer 0 .stream (txFrame 99)) = base.offer 0 QueueClass.stream (txFrame 99) ∧
    ((base.port 0).state ∈ [PortState.trial, PortState.up]) ∧ (base.port 0).stream.length < 4) ∧
  ((base.offer 0 .normal (txFrame 99)) = base.offer 0 QueueClass.normal (txFrame 99) ∧
    ((base.port 0).state ∈ [PortState.trial, PortState.up]) ∧ (base.port 0).normal.length < 16) ∧
  ((stateOffersFollowTheTable1.offer 0 .safety (txFrame 99)) =
      stateOffersFollowTheTable1.offer 0 QueueClass.safety (txFrame 99) ∧
    ((stateOffersFollowTheTable1.port 0).state ∈ [PortState.trial, PortState.up]) ∧
    8 ≤ (stateOffersFollowTheTable1.port 0).safety.length) ∧
  ((stateOffersFollowTheTable2.offer 0 .normal (txFrame 99)) =
      stateOffersFollowTheTable2.offer 0 QueueClass.normal (txFrame 99) ∧
    ((stateOffersFollowTheTable2.port 0).state ∈ [PortState.trial, PortState.up]) ∧
    16 ≤ (stateOffersFollowTheTable2.port 0).normal.length) ∧
  ((stateOffersFollowTheTable3.offer 0 .stream (txFrame 99)) =
      stateOffersFollowTheTable3.offer 0 QueueClass.stream (txFrame 99) ∧
    ((stateOffersFollowTheTable3.port 0).state ∈ [PortState.trial, PortState.up]) ∧
    (stateOffersFollowTheTable3.port 0).stream.length = 4) ∧
  ((stateGoodFramesActOnTheirPort2.offer 0 .normal (txFrame 99)) =
      stateGoodFramesActOnTheirPort2.offer 0 QueueClass.normal (txFrame 99) ∧
    ((stateGoodFramesActOnTheirPort2.port 0).state ∈ [PortState.down, PortState.loop])) :=
  ⟨⟨by decide, by decide, by decide⟩,
  ⟨by decide, by decide, by decide⟩,
  ⟨by decide, by decide, by decide⟩,
  ⟨by decide, by decide, by decide⟩,
  ⟨by decide, by decide, by decide⟩,
  ⟨by decide, by decide, by decide⟩,
  ⟨by decide, by decide⟩⟩

/-! ### Well-formedness: each check refuses an ill-formed term -/

theorem test_wf_shaft : (Instr.forwardCount 2).wf = false := by decide
theorem test_wf_landing : (Instr.lampRefresh 0 12).wf = false := by decide
theorem test_wf_station : (Instr.supervisionTimeout 96).wf = false := by decide
theorem test_wf_port : (Instr.frameSent 5).wf = false := by decide
theorem test_wf_zone : (Instr.knockWindowExpiry 16).wf = false := by decide
theorem test_wf_shutter : (Instr.resendTimer 32).wf = false := by decide
theorem test_wf_record : (Instr.escalationStep1 65536).wf = false := by decide
theorem test_wf_index_byte : (Instr.setupStation 256 .free).wf = false := by decide
theorem test_wf_sill_shaft_byte : (Instr.setupSill 256 0 .free).wf = false := by decide
theorem test_wf_query_part : (Instr.query .clock 0 0 (some 256) false).wf = false := by decide
theorem test_wf_phrase_data : (Instr.writePhraseBlock none (List.replicate 45 0)).wf = false := by decide
theorem test_wf_read_back : (Instr.phraseWriteEnd (List.replicate 31 0)).wf = false := by decide
theorem test_wf_notice_object : (Instr.noticeRepeat { kind := .zoneFault, object := 16 }).wf = false := by decide
theorem test_wf_notice_part : (Instr.noticeRepeat { kind := .shutterFault, object := 0, part := 5 }).wf = false := by decide
theorem test_wf_notice_store : (Instr.noticeRepeat { kind := .storeMode, object := 1 }).wf = false := by decide
theorem test_wf_accepts : (Instr.lampRefresh 1 11).wf = true ∧ (Instr.setupSill 255 255 .free).wf = true := by decide

/-! ### Worked examples of the data book -/

/-- Shaft 0 of the examples of R22, at a position. -/
def markShaft (p : Nat) : State :=
  { withShaft (fun x => { x with pos := p }) with
    tables := { baseTables with
      shafts := baseTables.shafts.modify 0 fun x => { x with geometry := { x.geometry with H := 300, slip := 20 } } } }

/-- R22's table: 312 and 290 become 300. -/
theorem test_home_mark_corrects : ((after (.homeMark 0) (markShaft 312)).shaft 0).pos = 300 ∧
    ((after (.homeMark 0) (markShaft 290)).shaft 0).pos = 300 := by decide
/-- R22's table: at 9,590 the shaft trips SLIP with the position INVALID. -/
theorem test_home_mark_trips : ((after (.homeMark 0) (markShaft 9590)).shaft 0).trip = some .slip ∧
    ((after (.homeMark 0) (markShaft 9590)).shaft 0).posValid = false := by decide

/-- R23's example: 80 counts give 800 counts/s; 412 give 4,000 and an OVERSPEED trip. -/
theorem test_speed_window : ((after (.speedWindowEnd 0) (moving .running fun x => { x with windowCount := 80 })).shaft
    0).speed = 800 ∧
    ((after (.speedWindowEnd 0) (moving .running fun x => { x with windowCount := 412 })).shaft 0).speed = 4000 ∧
    ((after (.speedWindowEnd 0) (moving .running fun x => { x with windowCount := 412 })).shaft 0).trip = some .overspeed :=
        by decide

/-- R43's table of slowing distances. -/
theorem test_slowing : ({ } : Geometry).slowing 800 = 788 ∧ ({ } : Geometry).slowing 100 = 0 ∧
    ({ a := 50 } : Geometry).slowing 120 = 44 ∧ ({ a := 2000 } : Geometry).slowing 2000 = 998 ∧
    ({ } : Geometry).slowing 4000 = 19988 := by decide

/-- The geometry and the two sills of section 3.7. -/
def workedShaft : Geometry := { C := 120 }
def workedSills : List Sill :=
  [{ position := 1250, landing := 2, side := .up, station := 0 },
      { position := 7930, landing := 2, side := .down, station := 0 }]
set_option maxRecDepth 20000 in
/-- Section 3.7: from P = 4,130 at 800 counts/s the target is 869 counts on, at 4,999, phase 199, the brake point at 4,987. -/
theorem test_plan : (workedShaft.plan workedSills 4130 800).target =
    some { distance := 869, phase := 199, target := 4999, brakePoint := 4987 } := by decide
set_option maxRecDepth 20000 in
/-- Section 3.7, rolling long: the re-approach from 5,032 is 47 counts, the brake point at 5,067. -/
theorem test_plan_again : (workedShaft.plan workedSills 5032 0).target =
    some { distance := 47, phase := 279, target := 5079, brakePoint := 5067 } := by decide

/-- R65's table: after the window expiry with point 1 as the knock point and in ALARM, the zone stays in ALERT with it. -/
theorem test_knock_kept : ((after (.knockWindowExpiry 0) alertZone).zone 0).knockPoint = some 1 ∧
    ((after (.knockWindowExpiry 0) alertZone).zone 0).state = .alert := by decide
/-- R65's table: with the knock point quiet and another point in PREALARM, the zone stays in ALERT with no knock point. -/
theorem test_knock_lost : ((after (.knockWindowExpiry 0) alertPrealarm).zone 0).knockPoint = none ∧
    ((after (.knockWindowExpiry 0) alertPrealarm).zone 0).state = .alert := by decide
/-- R65's table: with every point quiet the zone is NORMAL. -/
theorem test_knock_over : ((after (.knockWindowExpiry 0) alertCalm).zone 0).state = .normal := by decide

/-- R118's table of patterns sent and their durations. -/
theorem test_pattern_sent : patternSent {} (.chime 2) = .strokes 3 2 ∧ patternLength (.strokes 3 2) = ms 4800 ∧
    patternSent { chime := true } (.chime 3) = .chime 3 ∧ patternLength (.chime 3) = ms 9000 ∧
    patternLength (.strokes 4 2) = ms 5600 ∧ patternLength (.strokes 5 3) = ms 9600 := by decide

/-- A pending ring of a class. -/
def pendingRing (c : RingClass) : Ring := ring c .day
/-- R123's table of choices. -/
theorem test_choice :
    (chooseRing .rotating .fallback [pendingRing .service, pendingRing .floorwalker]).map Ring.cls = some .service ∧
    (chooseRing .fixed .fallback [pendingRing .service, pendingRing .floorwalker]).map Ring.cls = some .floorwalker ∧
    (chooseRing .rotating .service [pendingRing .service, pendingRing .floorwalker]).map Ring.cls = some .floorwalker ∧
    (chooseRing .rotating .floorwalker [pendingRing .service, pendingRing .cash, pendingRing .closing]).map Ring.cls =
        some .closing ∧
    (chooseRing .fixed .floorwalker [pendingRing .service, pendingRing .cash, pendingRing .closing]).map Ring.cls = some .cash ∧
    (chooseRing .rotating .closing [pendingRing .cash, pendingRing .urgent]).map Ring.cls = some .urgent := by decide

/-- The clock at 17:59 and a number of seconds, with a pending step. -/
def eveningClock (seconds : Nat) (step : Int) : Clock :=
  { valid := true, hours := 17, minutes := 59, seconds := seconds, step := some step }
/-- R135's table: hours, minutes and seconds after the boundary, and whether a minute event is handed. -/
theorem test_step_clock :
    ((eveningClock 58 1).boundary.hours, (eveningClock 58 1).boundary.seconds, (eveningClock 58 1).rolls) = (18, 0, true) ∧
    ((eveningClock 59 1).boundary.hours, (eveningClock 59 1).boundary.seconds, (eveningClock 59 1).rolls) = (18, 1, true) ∧
    ((eveningClock 59 (-1)).boundary.hours, (eveningClock 59 (-1)).boundary.seconds, (eveningClock 59 (-1)).rolls) = (17,
        59, false) ∧
    ((eveningClock 57 1).boundary.hours, (eveningClock 57 1).boundary.seconds, (eveningClock 57 1).rolls) = (17, 59,
        false) := by
  decide

/-- The schedule of R136's example. -/
def eveningState : State :=
  withOrder { base with
    tables := { baseTables with
      schedule := setAll (Tab.replicate 24 none)
        [(0, { hour := 8, minute := 45, action := .open }), (1, { hour := 17, minute := 58, action := .close }),
         (2, { hour := 18, minute := 0, action := .close })] } }
/-- R136's example: the stamps after the clock is set to 17:58:30 on day 1,204. -/
theorem test_restamp :
    ((after (.setClock (some { seconds := 30, minutes := 58, hours := 17, weekday := 1, day := 1204 }))
        eveningState).day.stamps.cells.take 3)
      = [some 1204, some 1204, some 1203] := by decide

/-- The group filter bits of section 10.4. -/
theorem test_filter_bits : filterBit 0x8123#16 = 36 ∧ filterBit 0xFFA1#16 = 32 ∧ filterBit 0x9000#16 = 16 := by decide

/-! ### The queue and the decoder -/

/-- R133, R136: an order in a trimmed period begins a whole one of 32,768 cycles. -/
theorem test_set_clock_period :
    (after (.setClock (some { seconds := 30, minutes := 58, hours := 17, weekday := 2, day := 1204 }))
      (withOrder (base.modClock fun c => { c with period := 32767, divider := 5 }))).clock.period = 32768 ∧
    (after (.setClock (some { seconds := 30, minutes := 58, hours := 17, weekday := 2, day := 1204 }))
      (withOrder (base.modClock fun c => { c with period := 32767, divider := 5 }))).clock.divider = 0 := by decide
/-- R8, steps 2 and 3: the TUNE of a regained speaker carries the abilities it had before this BEAT, which are stored after it. -/
theorem test_tune_before_abilities :
    ((after .beat (regains 6 (base.modStation 6 fun x => { x with advertised := {} }))).port 3).normal.map TxFrame.payload =
      [.raw (tunePayload .none false)] ∧
    ((after .beat (regains 6 (base.modStation 6 fun x => { x with advertised := {} }))).stationLive 6).advertised =
      { chime := true, fade := true } := by decide
/-- R153's table: of a block of samples 1,500 under gain 400 the first sample (k = 1) goes out as 70 = 046h and the 16th as
1,172 = 494h; between them the second is 146 = 092h and the 15th 1,096 = 448h. The frame goes to FFA2h with block number 3, and
only to the port of the zone's speaker (R152). -/
theorem test_page_block_samples :
    ((after .pageBlockMoment statePagesPlayAndEnd3).port 3).stream.map (fun f => (f.dest, f.kind, match f.payload with
      | .raw bs => (bs.length, bs.take 4, (bs.drop 22).take 3) | _ => (0, [], []))) =
      [(0xFFA2#16, 0x30#8, 37, [3#8, 0x04#8, 0x60#8, 0x92#8], [0x44#8, 0x84#8, 0x94#8])] ∧
    ((after .pageBlockMoment statePagesPlayAndEnd3).port 2).stream = [] := by decide
/-- R163: a page that the idle timer ends requests PAGE_ENDED with reason IDLE. -/
theorem test_page_ended_idle :
    (after .pageIdleTimeout statePagesPlayAndEnd1).net.mgmt.queue.map Notice.body = [.pageEnded .idle] := by decide
/-- What a step leaves; the state before where it has no next state. -/
def stepped (s : State) : State := match step s with | .next t => t | _ => s
/-- A step takes the command at the front of the queue and leaves the rest. -/
theorem test_step_front : (stepped { base with pending := [.crystalLoss, .powerOn] }).pending = [.powerOn] ∧
    (stepped { base with pending := [.crystalLoss, .powerOn] }).clock.valid = false := by decide
/-- No row of the table has bits. -/
theorem test_no_word : decodeTableWord 8 0 = none := by decide

end Sys2Proof.Tests
end

section
/-! The scope of the model: what a step does with no command waiting. -/

namespace Sys2Proof.Machine

/-! ### The count of crystal cycles (R132, R134) -/

/-- The count changes the tick divider and nothing else. -/
theorem Clock.count_eq_set_divider (c : Clock) (n : Nat) : c.count n = { c with divider := (c.count n).divider } := by
  unfold Clock.count; split <;> rfl

theorem Clock.count_of_stopped {c : Clock} (stopped : c.running = false) (n : Nat) : c.count n = c := by
  simp [Clock.count, stopped]

theorem Clock.count_divider_of_running {c : Clock} (running : c.running = true) (n : Nat) :
    (c.count n).divider = max c.divider (min c.period (c.divider + n)) := by
  simp [Clock.count, running]

theorem Clock.le_count_divider (c : Clock) (n : Nat) : c.divider ≤ (c.count n).divider := by
  cases running : c.running with
  | false => rw [Clock.count_of_stopped running]
  | true => exact Clock.count_divider_of_running running n ▸ Nat.le_max_left ..

/-- The maximum in `Clock.count` speaks only of a divider past its period. -/
theorem Clock.count_divider_of_le_period {c : Clock} (running : c.running = true) (within : c.divider ≤ c.period)
    (n : Nat) : (c.count n).divider = min c.period (c.divider + n) := by
  have not_past : c.divider ≤ min c.period (c.divider + n) := Nat.le_min.mpr ⟨within, Nat.le_add_right ..⟩
  rw [Clock.count_divider_of_running running, Nat.max_eq_right not_past]

/-! ### One bit time (R1) -/

@[simp] theorem State.tick_now (s : State) : s.tick.now = s.now + 1 := Nat.max_eq_right (Nat.le_succ s.now)

@[simp] theorem State.tick_clock (s : State) :
    s.tick.clock = s.clock.count (Config.crystalCycles (s.now + 1) - Config.crystalCycles s.now) := by
  unfold State.tick
  rw [State.reach_clock, Nat.max_eq_right (Nat.le_succ s.now)]

theorem State.tick_changesOnly_now (s : State) : ChangesOnly [.now] s s.tick :=
  State.tick_blank (List.mem_singleton_self _) s

theorem step_of_pending_nil {s : State} (idle : s.pending = []) : step s = .next s.tick := by
  simp [step, idle]

/-- Settles O2: an idle step is `State.tick`, which moves the moment and hands its crystal cycles to `Clock.count`. -/
theorem idleStepIsOneBitTime : Obligations.IdleStepIsOneBitTime := by
  intro s idle
  refine ⟨s.tick, step_of_pending_nil idle, s.tick_now, s.tick_changesOnly_now, ?_⟩
  rw [State.tick_clock]
  exact ⟨Clock.count_eq_set_divider .., Clock.le_count_divider .., fun stopped => Clock.count_of_stopped stopped _,
    fun running within => Clock.count_divider_of_le_period running within _⟩

end Sys2Proof.Machine
end

section
/-! Reading a record after a change of one, and reading after a fold of such changes. -/

namespace Sys2Proof.Machine

variable (s : State)

/-! ### Records after a change of one (R1) -/

theorem State.stationLive_modStation (i j : Nat) (f : StationLive → StationLive) :
    (s.modStation i f).stationLive j = if i = j ∧ j < 96 then f (s.stationLive j) else s.stationLive j := by
  simp [State.stationLive, Tab.getD_modify]

theorem State.pointLive_modPoint (i j : Nat) (f : PointLive → PointLive) :
    (s.modPoint i f).pointLive j = if i = j ∧ j < 128 then f (s.pointLive j) else s.pointLive j := by
  simp [State.pointLive, Tab.getD_modify]

theorem State.zone_modZone (i j : Nat) (f : ZoneLive → ZoneLive) :
    (s.modZone i f).zone j = if i = j ∧ j < 16 then f (s.zone j) else s.zone j := by
  simp [State.zone, Tab.getD_modify]

theorem State.shutterLive_modShutter (i j : Nat) (f : ShutterLive → ShutterLive) :
    (s.modShutter i f).shutterLive j = if i = j ∧ j < 32 then f (s.shutterLive j) else s.shutterLive j := by
  simp [State.shutterLive, Tab.getD_modify]

theorem State.arbiter_modArbiter (i j : Nat) (f : Arbiter → Arbiter) :
    (s.modArbiter i f).arbiter j = if i = j then (s.arbiter j).map f else s.arbiter j := by
  simp [State.arbiter, Tab.at?_modify]

theorem State.landingLive_modLanding (k l j m : Nat) (f : LandingLive → LandingLive) :
    (s.modLanding k l f).landingLive j m =
      if (k = j ∧ j < 2) ∧ l = m ∧ m < 12 then f (s.landingLive j m) else s.landingLive j m := by
  simp only [State.landingLive, State.modLanding, State.shaft_modShaft]
  by_cases here : k = j ∧ j < 2
  · simp only [here, and_self, if_true, true_and, Tab.getD_modify]
  · simp only [here, if_false, false_and]

/-! ### Supervision timers (R10, R11) -/

theorem State.supervisionTimer_eq (period : Nat) :
    s.supervisionTimer period = if period = 0 then none else some (s.now + 1500000 * period) := by
  unfold State.supervisionTimer State.after ms
  rw [Nat.mul_right_comm]

/-! ### Lists of indices -/

theorem nodup_indicesWhere (n : Nat) (p : Nat → Bool) : (indicesWhere n p).Nodup := List.nodup_range.filter _

theorem mem_indicesWhere {n : Nat} {p : Nat → Bool} {i : Nat} : i ∈ indicesWhere n p ↔ i < n ∧ p i = true := by
  simp [indicesWhere]

/-! ### Folds -/

/-- What every step of a fold keeps, the fold keeps. -/
theorem State.forEach_induction {s : State} {is : List Nat} {f : State → Nat → State} (P : State → Prop) (start : P s)
    (keeps : ∀ t, ∀ i ∈ is, P t → P (f t i)) : P (s.forEach is f) := by
  unfold State.forEach
  induction is generalizing s with
  | nil => exact start
  | cons i is ih =>
    exact ih (keeps s i (List.mem_cons_self ..) start) fun t j mem => keeps t j (List.mem_cons_of_mem _ mem)

/-- A fold that changes, for each index of a list without repeats, the record of that index and no other. -/
theorem State.forEach_read {α : Type} {s : State} {is : List Nat} {f : State → Nat → State} (P : State → Prop)
    (read : State → Nat → α) (new : Nat → α → α) (start : P s) (keeps : ∀ t, ∀ i ∈ is, P t → P (f t i))
    (reads : ∀ t, ∀ i ∈ is, P t → ∀ j, read (f t i) j = if i = j then new j (read t j) else read t j)
    (once : is.Nodup) (j : Nat) :
    read (s.forEach is f) j = if j ∈ is then new j (read s j) else read s j := by
  unfold State.forEach
  induction is generalizing s with
  | nil => simp
  | cons i is ih =>
    obtain ⟨fresh, once⟩ := List.nodup_cons.1 once
    have here := reads s i (List.mem_cons_self ..) start j
    rw [List.foldl_cons, ih (keeps s i (List.mem_cons_self ..) start)
      (fun t j mem => keeps t j (List.mem_cons_of_mem _ mem)) (fun t j mem => reads t j (List.mem_cons_of_mem _ mem)) once, here]
    by_cases same : i = j
    · subst same; simp [fresh]
    · simp [same, Ne.symm same]

/-- A fold that gives a record one value at each index that asks for it. -/
theorem State.forEach_assign {α : Type} {s : State} {is : List Nat} {f : State → Nat → State} (P : State → Prop)
    (read : State → α) (asks : Nat → Bool) (value : α) (start : P s) (keeps : ∀ t, ∀ i ∈ is, P t → P (f t i))
    (reads : ∀ t, ∀ i ∈ is, P t → read (f t i) = if asks i then value else read t) :
    read (s.forEach is f) = if is.any asks then value else read s := by
  unfold State.forEach
  induction is generalizing s with
  | nil => simp
  | cons i is ih =>
    rw [List.foldl_cons, ih (keeps s i (List.mem_cons_self ..) start)
      (fun t j mem => keeps t j (List.mem_cons_of_mem _ mem)) (fun t j mem => reads t j (List.mem_cons_of_mem _ mem)),
      reads s i (List.mem_cons_self ..) start, List.any_cons]
    cases asks i <;> simp only [Bool.true_or, Bool.false_or, if_true, Bool.false_eq_true, if_false, ite_self]

end Sys2Proof.Machine
end

section
/-! The judging of requests (R7, R179, R192) and what QUERY returns (R182). -/

namespace Sys2Proof.Machine

/-! ### Every SETUP, QUERY and ORDER is one call of `State.onRequest` (R178, R179) -/

theorem exec_eq_onRequest {c : Instr} {want : FrameStep} (isRequest : requestStep c = some want) :
    ∃ act, ∀ s, exec c s = .next (s.onRequest want (requestObject c) act) := by
  cases c <;> cases isRequest <;> exact ⟨_, fun _ => rfl⟩

theorem requestStep_mem {c : Instr} {want : FrameStep} (isRequest : requestStep c = some want) :
    want ∈ [FrameStep.setup, .query, .order] := by
  cases c <;> cases isRequest <;> decide

/-! ### The checks before a request is carried out (R7, R179, R192) -/

theorem State.requestFor_eq_some {s : State} {want : FrameStep} {object : Option Nat} {r : Received}
    (found : s.requestFor want object = some r) : s.headFor want = some r ∧ r.names object = true :=
  Option.filter_eq_some_iff.1 found

/-- A request has no fixed length (R170), so only the presence of its sender keeps it from being judged (R7). -/
theorem State.onRequest_some {s : State} {want : FrameStep} {object : Option Nat} {r : Received}
    (ofRequest : want ∈ [FrameStep.setup, .query, .order]) (found : s.requestFor want object = some r)
    (act : State → Ticket → State) :
    s.onRequest want object act =
      if (s.takeHead r).passes r then (s.takeHead r).judgeRequest want act r
      else { s.takeHead r with mismatchDrop := bump (s.takeHead r).mismatchDrop } := by
  have good : r.frame.goodLength = true := State.headFor_goodLength ofRequest (State.requestFor_eq_some found).1
  by_cases passed : (s.takeHead r).passes r <;>
    simp [State.onRequest, State.onHead, found, good, passed, State.dropTapped]

@[simp] theorem State.takeHead_fromConsole (s : State) (r : Received) (a : Addr) :
    (s.takeHead r).fromConsole a = s.fromConsole a := by
  rw [State.fromConsole, State.globals, State.takeHead_tables]; rfl

theorem requestIndex_of_get {bytes : List Byte} {b : Byte} (third : bytes[3]? = some b) :
    requestIndex bytes = some b.toNat := by
  match bytes with
  | [] | [_] | [_, _] | [_, _, _] => simp at third
  | _ :: _ :: _ :: b' :: _ => simpa [requestIndex] using congrArg (Option.map BitVec.toNat) third

theorem State.requestFor_of_other_object {s : State} {want : FrameStep} {i : Nat} {r : Received} {b : Byte}
    (head : s.headFor want = some r) (third : r.frame.payload[3]? = some b) (other : b.toNat ≠ i) :
    s.requestFor want (some i) = none := by
  simp [State.requestFor, head, Received.names, requestIndex_of_get third, Ne.symm other]

section
variable {s : State} {want : FrameStep} {act : State → Ticket → State} {r : Received}

theorem State.judgeRequest_rejected (elsewhere : r.port ≠ 4 ∨ s.fromConsole r.frame.src = false) :
    s.judgeRequest want act r = s.modMgmt fun m => { m with rejected := bump m.rejected } := by
  by_cases port : r.port = 4
  · simp [State.judgeRequest, Config.officePort, State.reject, port, elsewhere.resolve_left (not_not_intro port)]
  · simp [State.judgeRequest, Config.officePort, State.reject, port]

theorem State.judgeRequest_short (port : r.port = 4) (console : s.fromConsole r.frame.src = true)
    (short : r.frame.payload.length < 4) :
    s.judgeRequest want act r = s.modMgmt fun m => { m with badRequest := bump m.badRequest } := by
  simp [State.judgeRequest, Config.officePort, State.badRequest, port, console, short]

theorem State.judgeRequest_busy (port : r.port = 4) (console : s.fromConsole r.frame.src = true)
    (header : 4 ≤ r.frame.payload.length) (held : s.settings.restart ≠ none) (notQuery : want ≠ .query) :
    s.judgeRequest want act r = s.reply r.ticket .busy := by
  simp [State.judgeRequest, Config.officePort, port, console, Nat.not_lt.2 header, State.restartHolds,
    Option.isSome_iff_ne_none.2 held, notQuery, Received.ticket]

end

/-- Settles O27: a request command is one call of `State.onRequest`, whose checks are taken one by one. -/
theorem requestsAreJudgedInOrder : Obligations.RequestsAreJudgedInOrder := by
  intro c w s isRequest
  obtain ⟨act, run⟩ := exec_eq_onRequest isRequest
  have ofRequest := requestStep_mem isRequest
  refine ⟨fun absent => by rw [run, State.onRequest_none absent], fun r i b head object third other => ?_,
    fun r s₁ found taken => ?_⟩
  · rw [run, object, State.onRequest_none (State.requestFor_of_other_object head third other)]
  · subst taken
    rw [run, State.onRequest_some ofRequest found]
    refine ⟨fun dropped => by simp [dropped], fun passed => ?_⟩
    rw [if_pos passed]
    refine ⟨fun elsewhere => ?_, fun port console short => ?_, fun port console header held notQuery => ?_⟩
    · rw [State.judgeRequest_rejected (by simpa using elsewhere)]
    · rw [State.judgeRequest_short port (by simpa using console) short]
    · rw [State.judgeRequest_busy port (by simpa using console) header (by simpa using held) notQuery]

end Sys2Proof.Machine
end

section
/-! What QUERY returns, and how a return is divided (R182). -/

namespace Sys2Proof.Machine

/-! ### Cutting a list into runs of one length -/

theorem flatMap_range_drop_take {α : Type} (l : List α) (m n : Nat) :
    (List.range n).flatMap (fun k => (l.drop (k * m)).take m) = l.take (n * m) := by
  induction n with
  | zero => simp
  | succ n ih =>
    rw [List.range_succ, List.flatMap_append, ih, List.flatMap_singleton, Nat.succ_mul, List.take_add]

/-! ### A divided return -/

/-- The bytes of a return that one part carries (R182). -/
def QueryData.cut (d : QueryData) (k : Nat) : List Byte :=
  ((Config.returnBytes d).drop (k * (Config.replyRoom + 1))).take (Config.replyRoom + 1)

theorem QueryData.part_of_divided {d : QueryData} (divided : d.parts ≠ 1) (k : Nat) :
    d.part k = .piece (d.cut k) k d.parts := by
  simp [QueryData.part, divided, QueryData.cut]

theorem QueryData.length_le_parts (d : QueryData) (divided : d.fitsOne = false) :
    (Config.returnBytes d).length ≤ d.parts * (Config.replyRoom + 1) := by
  simp only [QueryData.parts, divided, Bool.false_eq_true, if_false]
  generalize (Config.returnBytes d).length = n
  generalize Config.replyRoom = m
  calc n ≤ (n + m) / (m + 1) * (m + 1) := by
        have := Nat.lt_div_mul_add (a := n + m) (b := m + 1) (by omega)
        omega
    _ ≤ max 1 ((n + m) / (m + 1)) * (m + 1) := Nat.mul_le_mul_right _ (Nat.le_max_right ..)

theorem QueryData.flatMap_cut {d : QueryData} (divided : d.parts ≠ 1) :
    (List.range d.parts).flatMap d.cut = Config.returnBytes d := by
  have notOne : d.fitsOne = false := by
    by_contra fits
    exact divided (QueryData.parts_of_fitsOne (by simpa using fits))
  exact (flatMap_range_drop_take _ _ _).trans (List.take_of_length_le (d.length_le_parts notOne))

theorem QueryData.length_cut_le (d : QueryData) (k : Nat) : (d.cut k).length ≤ Config.replyRoom + 1 := by
  simp [QueryData.cut]

/-! ### Judging and answering -/

theorem exec_query_accepted {c : QueryCode} {i : Nat} {s : State} {r : Received}
    (accepted : Accepted s .query (queryIndex c i) r) (j : Nat) (n : Option Nat) (cl : Bool) :
    exec (.query c i j n cl) s = .next (answer r.ticket ((s.takeHead r).orderQuery c i j n cl)) := by
  show Host.Outcome.next _ = _
  rw [State.onRequest_accepted (by simp) accepted]

section
variable {s : State} {c : QueryCode} {i j n : Nat} {cl : Bool}

theorem State.orderQuery_unknown (n : Option Nat) : s.orderQuery .unknown i j n cl = (s, .badIndex, .none) := rfl

theorem State.orderQuery_without_part (known : c ≠ .unknown) :
    s.orderQuery c i j none cl = (s, .badValue, .none) := by
  simp [State.orderQuery, known, State.refuse]

theorem State.orderQuery_outside (known : c ≠ .unknown) (outside : s.queryData c i j = none) :
    s.orderQuery c i j (some n) cl = (s, .badIndex, .none) := by
  simp [State.orderQuery, known, outside, State.refuse]

theorem State.orderQuery_past_parts {d : QueryData} (known : c ≠ .unknown) (found : s.queryData c i j = some d)
    (past : d.parts ≤ n) : s.orderQuery c i j (some n) cl = (s, .badIndex, .none) := by
  simp [State.orderQuery, known, found, Nat.not_lt.2 past, State.refuse]

theorem State.orderQuery_part {d : QueryData} (known : c ≠ .unknown) (found : s.queryData c i j = some d)
    (within : n < d.parts) : s.orderQuery c i j (some n) cl = (s.clearSticky c cl, .done, d.part n) := by
  simp [State.orderQuery, known, found, within]

end

/-! ### What each code returns -/

theorem entryReturned_orFree {n i : Nat} (entry : Option QueryData) :
    EntryReturned n i entry (if n ≤ i then none else orFree entry) := by
  refine ⟨fun inside => ?_, fun outside => if_pos outside⟩
  rw [if_neg (Nat.not_le.2 inside), orFree]

theorem entryReturned_some {n i : Nat} (d : QueryData) :
    EntryReturned n i (some d) (if n ≤ i then none else some d) := entryReturned_orFree (some d)

theorem entryReturned_single {i : Nat} (d : QueryData) :
    EntryReturned 1 i (some d) (if i = 0 then some d else none) := by
  refine ⟨fun inside => if_pos (by omega), fun outside => if_neg (by omega)⟩

theorem countedReturned_orFree {n i : Nat} (counters : QueryData) (entry : Option QueryData) :
    CountedReturned n i counters entry
      (if i = 255 then some counters else if n ≤ i then none else orFree entry) := by
  refine ⟨fun shared => if_pos shared, fun own => ?_⟩
  rw [if_neg own]
  exact entryReturned_orFree entry

theorem State.mem_ringsOf_pending (s : State) (r : CallRecord) (k : Nat) : k ∈ (s.ringsOf r).1 ↔
    k < 96 ∧ ∃ a, s.arbiter k = some a ∧ ∃ q ∈ a.pending, q.owner = .call r.number := by
  simp [State.ringsOf, indicesWhere, State.ringPending, Option.any_eq_true]

theorem State.ringSounding_iff (s : State) (k : Nat) (o : RingOwner) : s.ringSounding k o = true ↔
    ∃ a c p n e, s.arbiter k = some a ∧ a.inForce = .timed c o p n (.sounding e) := by
  simp only [State.ringSounding, Option.any_eq_true]
  constructor
  · rintro ⟨a, there, owned⟩
    split at owned
    · rename_i inForce
      exact ⟨a, _, _, _, _, there, of_decide_eq_true owned ▸ inForce⟩
    · cases owned
  · rintro ⟨a, c, p, n, e, there, sounding⟩
    exact ⟨a, there, by simp [sounding]⟩

theorem State.mem_ringsOf_sounding (s : State) (r : CallRecord) (k : Nat) : k ∈ (s.ringsOf r).2 ↔
    k < 96 ∧ ∃ a c p n e, s.arbiter k = some a ∧ a.inForce = .timed c (.call r.number) p n (.sounding e) := by
  simp [State.ringsOf, indicesWhere, State.ringSounding_iff]

theorem State.callReturned_callView (s : State) (r : CallRecord) : s.CallReturned r (some (s.callView r)) :=
  ⟨_, _, _, rfl, s.mem_ringsOf_pending r, s.mem_ringsOf_sounding r, rfl⟩

theorem PhraseEntry.validity_eq (e : PhraseEntry) : e.validity =
    if e.count = 0 then .empty
    else if e.start < 1024 ∨ e.start % 2 = 1 ∨ e.count < 64 ∨ 8388608 < e.start + 2 * e.count ∨ 511 < e.gain then .invalid
    else .valid := by
  simp only [PhraseEntry.validity, Config.phraseStoreSize]
  grind

/-- QUERY returns what its code names (R182). -/
theorem State.returned_queryData (s : State) (c : QueryCode) (i j : Nat) : s.Returned i j (s.queryData c i j) c := by
  cases c
  case unknown => rfl
  all_goals simp only [State.queryData, State.queryTable, State.queryState, Option.or_none, Option.none_or, State.Returned]
  case station =>
    have entry : ((s.station i).map fun c => QueryData.station c (s.stationLive i) (s.effective i)) =
        (s.station i).map fun c => .station c (s.stationLive i)
          { chime := c.abilities.chime && (s.stationLive i).advertised.chime
            fade := c.abilities.fade && (s.stationLive i).advertised.fade } := by
      cases used : s.station i <;> simp [State.effective, used]
    rw [entry]
    exact countedReturned_orFree _ _
  case point => exact countedReturned_orFree _ _
  case zone => exact entryReturned_some _
  case shutter => exact countedReturned_orFree _ _
  case route => exact entryReturned_orFree _
  case shaft => exact entryReturned_some _
  case sill =>
    refine ⟨fun inside => ?_, fun outside => if_pos (.inl outside)⟩
    simp only [Nat.not_le.2 inside, false_or]
    exact entryReturned_orFree _
  case schedule => exact entryReturned_orFree _
  case port => exact entryReturned_some _
  case global =>
    refine ⟨fun first => ?_, fun low high => ?_, fun outside => if_pos outside⟩
    · simp [first, State.globals]
    · rw [if_neg (by omega), if_neg (by omega)]
  case clock => exact entryReturned_single _
  case store => exact entryReturned_single _
  case calls =>
    refine ⟨fun shared => if_pos shared, fun r inside found => ?_, fun inside free => ?_, fun outside own => ?_⟩
    · rw [if_neg (by omega), if_neg (by omega), found]
      exact s.callReturned_callView r
    · rw [if_neg (by omega), if_neg (by omega), List.getElem?_eq_none free]
      rfl
    · rw [if_neg own, if_pos outside]
  case sounder => exact entryReturned_orFree _
  case playback => exact entryReturned_single _
  case phrase =>
    rintro e rfl
    rw [← PhraseEntry.validity_eq]
    exact entryReturned_some _
  case exchange => exact entryReturned_single _
  case management => exact entryReturned_single _

/-- Settles O52: the judging of a QUERY check by check, the parts of a return as runs of its bytes, and the return of
each code. -/
theorem queriesReadTheState : Obligations.QueriesReadTheState := by
  refine ⟨fun c i s s₁ r taken accepted => ?_, fun d => ⟨d.parts_pos, fun one => ?_, fun small => ?_, fun divided => ?_⟩,
    State.returned_queryData, fun s r accepted => ?_⟩
  · subst taken
    refine ⟨fun j n cl known outside => ?_, fun j n cl unknown => ?_, fun j cl known => ?_,
      fun j n cl d known found => ⟨fun past => ?_, fun within => ?_⟩⟩ <;> rw [exec_query_accepted accepted]
    · rw [State.orderQuery_outside known outside]; rfl
    · rw [unknown, State.orderQuery_unknown]; rfl
    · rw [State.orderQuery_without_part known]; rfl
    · rw [State.orderQuery_past_parts known found past]; rfl
    · rw [State.orderQuery_part known found within]; rfl
  · simp [QueryData.part, one]
  · refine QueryData.parts_of_fitsOne ?_
    rcases small with free | ⟨_, _, rfl⟩ | ⟨_, rfl⟩ | ⟨_, rfl⟩ | ⟨_, rfl⟩ | ⟨_, rfl⟩ | ⟨_, _, rfl⟩ | ⟨_, rfl⟩
    · rw [List.mem_singleton.1 free]; rfl
    all_goals rfl
  · exact ⟨d.cut, fun n _ => QueryData.part_of_divided divided n, QueryData.flatMap_cut divided,
      fun n _ => d.length_cut_le n⟩
  · show Host.Outcome.next _ = _
    rw [State.onRequest_accepted (by simp) accepted]
    rfl

end Sys2Proof.Machine
end

section
/-! What the resets keep, and what a restart makes of the live state (R14, R37, R188, R192). -/

namespace Sys2Proof.Machine

/-! ### Writes that change nothing -/

theorem Tab.modify_eq_self {α : Type} {n : Nat} {t : Tab α n} {i : Nat} {f : α → α} (same : ∀ a, t.get? i = some a → f a = a) :
    t.modify i f = t := by
  unfold Tab.modify
  cases found : t.get? i with
  | none => rfl
  | some a =>
    apply Tab.ext'
    simp only [Tab.set, same a found]
    obtain ⟨inside, rfl⟩ := List.getElem?_eq_some_iff.1 found
    exact List.set_getElem_self inside

theorem State.modPort_eq_self {s : State} {p : Nat} {f : Port → Port} (same : f (s.port p) = s.port p) : s.modPort p f = s := by
  unfold State.modPort
  rw [Tab.modify_eq_self]
  intro a found
  have here : s.port p = a := by simp [State.port, Tab.getD, found]
  rwa [here] at same

/-! ### The reset pin and a power-on (R188) -/

theorem State.unload_eq (s : State) : s.unload = { State.reset with
    shafts := s.unload.shafts, settings := s.unload.settings, store := s.unload.store
    clock := { s.clock with step := none }, day := { stamps := s.day.stamps }
    pending := s.pending, now := s.now, draws := s.unload.draws, tokens := s.tokens } := by
  cases writing : s.settings.writing <;> simp only [State.unload, State.cutShort, writing] <;> rfl

theorem State.shaft_clearLive (s : State) {k : Nat} (inside : k < 2) : s.clearLive.shaft k = (s.shaft k).afterReset := by
  show (s.shafts.map Shaft.afterReset).getD k {} = _
  rw [Tab.getD_map Shaft.afterReset _ _ _ {}, if_pos inside]
  rfl

theorem State.shaft_unload (s : State) {k : Nat} (inside : k < 2) : s.unload.shaft k = (s.shaft k).afterReset := by
  have cut : s.cutShort.shafts = s.shafts := by
    cases writing : s.settings.writing <;> simp only [State.cutShort, writing]
  exact (s.cutShort.shaft_clearLive inside).trans (by rw [State.shaft, State.shaft, cut])

theorem State.settings_unload (s : State) : s.unload.settings = { image := s.settings.image, eeprom := s.settings.eeprom } := by
  have cut : s.cutShort.settings = s.settings := by
    cases writing : s.settings.writing <;> simp only [State.cutShort, writing]
  calc s.unload.settings
    _ = { s.cutShort.settings with saving := none, writing := none, restart := none, locked := false } := rfl
    _ = { image := s.settings.image, eeprom := s.settings.eeprom } := by rw [cut]

theorem State.store_unload {s : State} (idle : s.settings.writing = none) : s.unload.store = s.store := by
  simp [State.unload, State.cutShort, idle, State.clearLive]

/-! ### The stations and the zones start (R14, R75, R95) -/

theorem State.stationLive_startStations (s : State) {i : Nat} (inside : i < 96) :
    (s.forEach (List.range 96) State.startStation).stationLive i = match s.station i with
      | some c => { supervision := s.supervisionTimer c.beatPeriod }
      | none => s.stationLive i := by
  rw [State.forEach_read (ChangesOnly [.stations] s) State.stationLive (fun j x => match s.station j with
      | some c => { supervision := s.supervisionTimer c.beatPeriod }
      | none => x) (.refl s) (fun t i _ kept => kept.trans (State.startStation_blank (by decide) t i)) ?_ List.nodup_range]
  · rw [if_pos (List.mem_range.2 inside)]
  · intro t i mem kept j
    have record : t.station i = s.station i := by simp only [State.station, kept.tables]
    have timer : t.supervisionTimer = s.supervisionTimer := by
      funext n; simp only [State.supervisionTimer, State.after, kept.now]
    by_cases same : i = j
    · subst same
      cases used : s.station i <;>
        simp [State.startStation, record, used, State.freshStation, State.stationLive_modStation, timer, List.mem_range.1 mem]
    · cases used : s.station i <;>
        simp [State.startStation, record, used, State.freshStation, State.stationLive_modStation, same]

theorem State.startZone_changes (s : State) (z : Nat) : ChangesOnly [.zones, .shutters] s (s.startZone z) :=
  State.startZone_blank (by decide) (by decide) s z

theorem State.zone_startZone (s : State) (z j : Nat) (inside : z < 16) : (s.startZone z).zone j =
    if z = j then (if (s.zoneCfg j).storedIsolated then { s.zone j with state := .isolated } else s.zone j) else s.zone j := by
  unfold State.startZone
  by_cases isolated : (s.zoneCfg z).storedIsolated = true
  · have shutters : ∀ u : State, (u.forEach (s.zoneShutters z) fun s i => s.modShutter i fun _ => { state := .isolated }).zone j
        = u.zone j := by
      intro u
      exact State.forEach_induction (fun t => t.zone j = u.zone j) rfl fun t i _ kept => kept
    simp only [isolated, if_true]
    refine (shutters _).trans ?_
    rw [State.zone_modZone]
    by_cases same : z = j
    · subst same; simp [isolated, inside]
    · simp [same]
  · by_cases same : z = j
    · subst same; simp [isolated]
    · simp [isolated, same]

theorem State.zone_startZones (s : State) {z : Nat} (inside : z < 16) :
    (s.forEach (List.range 16) State.startZone).zone z =
      if (s.zoneCfg z).storedIsolated then { s.zone z with state := .isolated } else s.zone z := by
  rw [State.forEach_read (ChangesOnly [.zones, .shutters] s) State.zone
    (fun z x => if (s.zoneCfg z).storedIsolated then { x with state := .isolated } else x) (.refl s)
    (fun t z _ kept => kept.trans (t.startZone_changes z)) ?_ List.nodup_range, if_pos (List.mem_range.2 inside)]
  intro t z mem kept j
  have records : t.zoneCfg = s.zoneCfg := by funext z; simp only [State.zoneCfg, kept.tables]
  rw [State.zone_startZone _ _ _ (List.mem_range.1 mem), records]

theorem State.shutterLive_startZone (s : State) (z : Nat) {i : Nat} (inside : i < 32) : (s.startZone z).shutterLive i =
    if (s.zoneCfg z).storedIsolated && (s.shutter i).any (fun c => decide (c.zone = z)) then { state := .isolated }
    else s.shutterLive i := by
  unfold State.startZone
  by_cases isolated : (s.zoneCfg z).storedIsolated = true
  · simp only [isolated, if_true, Bool.true_and]
    refine (State.forEach_read (fun _ => True) State.shutterLive (fun _ _ => { state := .isolated }) trivial
      (fun _ _ _ _ => trivial) (fun t n mem _ j => ?_) (nodup_indicesWhere _ _) i).trans ?_
    · have small : n < 32 := (mem_indicesWhere.1 mem).1
      rw [State.shutterLive_modShutter]
      grind
    · have mem : i ∈ s.zoneShutters z ↔ (s.shutter i).any (fun c => decide (c.zone = z)) = true := by
        simp [State.zoneShutters, mem_indicesWhere, inside]
      exact if_congr mem rfl rfl
  · simp [isolated]

theorem State.shutterLive_startZones (s : State) {i : Nat} (inside : i < 32) :
    (s.forEach (List.range 16) State.startZone).shutterLive i =
      if ((s.shutter i).any fun c => (s.zoneCfg c.zone).storedIsolated) then { state := .isolated } else s.shutterLive i := by
  rw [State.forEach_assign (ChangesOnly [.zones, .shutters] s) (fun t => t.shutterLive i)
    (fun z => (s.zoneCfg z).storedIsolated && (s.shutter i).any fun c => decide (c.zone = z)) { state := .isolated } (.refl s)
    (fun t z _ kept => kept.trans (t.startZone_changes z)) ?_]
  · have asked : ((List.range 16).any fun z => (s.zoneCfg z).storedIsolated && (s.shutter i).any fun c => decide (c.zone = z)) =
        (s.shutter i).any fun c => (s.zoneCfg c.zone).storedIsolated := by
      cases used : s.shutter i with
      | none => simp
      | some c =>
        rw [Bool.eq_iff_iff]
        simp only [List.any_eq_true, List.mem_range, Option.any_some, Bool.and_eq_true, decide_eq_true_eq]
        constructor
        · rintro ⟨z, -, isolated, rfl⟩; exact isolated
        · intro isolated
          refine ⟨c.zone, ?_, isolated, rfl⟩
          by_contra outside
          simp [State.zoneCfg, Tab.getD_eq_of_le _ (Nat.le_of_not_lt outside)] at isolated
    rw [asked]
  · intro t z _ kept
    have zones : t.zoneCfg = s.zoneCfg := by funext z; simp only [State.zoneCfg, kept.tables]
    have shutters : t.shutter = s.shutter := by funext z; simp only [State.shutter, kept.tables]
    rw [State.shutterLive_startZone _ _ inside, zones, shutters]

/-! ### The arbiters start (R119) -/

theorem State.createArbiter_arbitrating {s : State} {i : Nat} (service : s.serviceFor i = .arbitrating) :
    s.createArbiter i = ({ s with arbiters := s.arbiters.set i (some {}) } : State).modArbiter i
      fun a => { a with service := .arbitrating } := by
  have same : ({ s with arbiters := s.arbiters.set i (some {}) } : State).serviceFor i = .arbitrating := service
  unfold State.createArbiter
  simp only [same]

theorem State.arbiter_createArbiter {s : State} {i : Nat} (service : s.serviceFor i = .arbitrating) (inside : i < 96) (j : Nat) :
    (s.createArbiter i).arbiter j = if i = j then some {} else s.arbiter j := by
  rw [State.createArbiter_arbitrating service, State.arbiter_modArbiter]
  simp only [State.arbiter, Tab.at?_set, inside, and_true]
  split <;> rfl

/-- What the arbiters' start rests on: no zone is in the alarm overlay (R120). -/
theorem State.serviceFor_of_quiet {s : State} (quiet : ∀ z, (s.zone z).state = .isolated ∨ (s.zone z).state = .normal) (i : Nat) :
    s.serviceFor i = .arbitrating := by
  unfold State.serviceFor
  cases (s.station i).bind StationCfg.zone with
  | none => rfl
  | some z => rcases quiet z with state | state <;> simp [serviceOf, state]

theorem State.mem_stationsOf (s : State) (r : Role) (i : Nat) : i ∈ s.stationsOf r ↔ ∃ c, s.station i = some c ∧ c.role = r := by
  simp only [State.stationsOf, mem_indicesWhere, Option.any_eq_true, decide_eq_true_eq]
  exact ⟨fun found => found.2, fun found => ⟨Tab.lt_of_at? found.choose_spec.1, found⟩⟩

theorem State.startArbiters_spec {s : State} (quiet : ∀ z, (s.zone z).state = .isolated ∨ (s.zone z).state = .normal) :
    ChangesOnly [.arbiters] s (s.forEach (s.stationsOf .sounder) State.createArbiter) ∧
    ∀ j, (s.forEach (s.stationsOf .sounder) State.createArbiter).arbiter j =
      if j ∈ s.stationsOf .sounder then some {} else s.arbiter j := by
  have service : ∀ t, ChangesOnly [.arbiters] s t → ∀ i, t.serviceFor i = .arbitrating := by
    intro t kept i
    refine State.serviceFor_of_quiet (fun z => ?_) i
    simpa only [State.zone, kept.zones] using quiet z
  have keeps : ∀ t, ∀ i ∈ s.stationsOf .sounder, ChangesOnly [.arbiters] s t → ChangesOnly [.arbiters] s (t.createArbiter i) := by
    intro t i _ kept
    rw [State.createArbiter_arbitrating (service t kept i)]
    exact kept.trans (by simp [ChangesOnly])
  refine ⟨State.forEach_induction _ (.refl s) keeps, State.forEach_read _ State.arbiter (fun _ _ => some {}) (.refl s) keeps ?_
    (nodup_indicesWhere _ _)⟩
  intro t i mem kept j
  exact State.arbiter_createArbiter (service t kept i) (mem_indicesWhere.1 mem).1 j

/-! ### The ports start (R167) -/

theorem State.startPorts_spec (s : State) (f : State → Port → Port)
    (same : ∀ t, ChangesOnly [.net] s t → f t = f s) :
    ChangesOnly [.net] s (s.forEach (List.range 5) fun s p => s.modPort p (f s)) ∧
    (s.forEach (List.range 5) fun s p => s.modPort p (f s)).net.mgmt = s.net.mgmt ∧
    ∀ p < 5, (s.forEach (List.range 5) fun s p => s.modPort p (f s)).port p = f s (s.port p) := by
  have keeps : ∀ t, ∀ p ∈ List.range 5, ChangesOnly [.net] s t ∧ t.net.mgmt = s.net.mgmt →
      ChangesOnly [.net] s (t.modPort p (f t)) ∧ (t.modPort p (f t)).net.mgmt = s.net.mgmt :=
    fun t p _ kept => ⟨kept.1.trans (State.modPort_blank (by decide) ..), kept.2⟩
  obtain ⟨frame, mgmt⟩ := State.forEach_induction _ (s := s) ⟨.refl s, rfl⟩ keeps
  refine ⟨frame, mgmt, fun p inside => ?_⟩
  rw [State.forEach_read _ State.port (fun _ => f s) ⟨.refl s, rfl⟩ keeps ?_ List.nodup_range, if_pos (List.mem_range.2 inside)]
  intro t p mem kept q
  rw [State.modPort_port _ _ _ _ (List.mem_range.1 mem), same t kept.1]

/-! ### The shafts start (R31, R37) -/

/-- Redrawing lamps that show what they are to show changes nothing (R33). -/
theorem State.recomputeLamps_of_settled {s : State} {k : Nat} (settled : ∀ l, (s.landingLive k l).lamp = s.lampOf k l) :
    s.recomputeLamps k = s := by
  unfold State.recomputeLamps
  split
  · refine State.forEach_induction (· = s) rfl ?_
    rintro _ l - rfl
    simp [State.recomputeLamp, settled l]
  · rfl

theorem State.lampOf_noBoard {s : State} {k l : Nat} (warned : ∀ i, (s.shutterLive i).state ≠ .warning)
    (standing : (s.shaft k).state ≠ .running) : s.lampOf k l = .noBoard := by
  have none_warned : ((s.landingShutter k l).any fun i => decide ((s.shutterLive i).state = .warning)) = false := by
    cases s.landingShutter k l <;> simp [warned]
  simp [State.lampOf, none_warned, standing]

theorem State.closingCheck_of_not_pending {s : State} (open_ : s.day.closePending = false) : s.closingCheck = s := by
  simp [State.closingCheck, open_]

/-- The trip of an enabled shaft that stands as after a reset, with FAULT raised (R30, R31). -/
theorem State.tripShaft_at_start {s : State} {k : Nat} {x : Shaft} (inside : k < 2) (fresh : s.shaft k = x)
    (idle : x.state = .idle) (sound : x.degraded = false) (dark : ∀ l, (x.landings.getD l {}).lamp = .noBoard)
    (warned : ∀ i, (s.shutterLive i).state ≠ .warning) (open_ : s.day.closePending = false)
    (enabled : s.shaftEnabled k = true) (c : TripCause) :
    ∃ u : State, s.tripShaft k c = u.notify (.shaftTrip k (some c)) ∧ ChangesOnly [.shafts] s u ∧
      u.shaft k = { x with
        trip := some c, homeTimer := none, advance := none, remaining := none, answered := decide (x.standstill = 3)
        state := .tripped, permit := false, creep := false, brake := true, heldReason := none } ∧
      ∀ j, j ≠ k → u.shaft j = s.shaft j := by
  let u := (s.modShaft k fun x => { x with
      trip := some c, homeTimer := none, advance := none, remaining := none
      answered := decide (x.standstill = 3)
      outcome := if x.state = .clearing ∨ x.state = .stopping then none else x.outcome }).modShaft k fun x => { x with
        state := .tripped, permit := false, creep := false, brake := true
        heldReason := if ShaftState.tripped = .held then x.heldReason else none }
  have tripped : u.shaft k = { x with
        trip := some c, homeTimer := none, advance := none, remaining := none, answered := decide (x.standstill = 3)
        state := .tripped, permit := false, creep := false, brake := true, heldReason := none } := by
    simp [u, State.shaft_modShaft, inside, fresh, idle]
  have lamps : u.recomputeLamps k = u := by
    refine State.recomputeLamps_of_settled fun l => ?_
    rw [State.lampOf_noBoard (s := u) warned (by rw [tripped]; simp)]
    simpa [State.landingLive, tripped] using dark l
  refine ⟨u, ?_, by simp [ChangesOnly, u], tripped, fun j other => by simp [u, State.shaft_modShaft, Ne.symm other]⟩
  have entered : (s.modShaft k fun x => { x with
      trip := some c, homeTimer := none, advance := none, remaining := none
      answered := decide (x.standstill = 3)
      outcome := if x.state = .clearing ∨ x.state = .stopping then none else x.outcome }).enterShaft k .tripped false false true
      = u := by
    have steady : u.setDegraded k false = u := by simp [State.setDegraded, tripped, sound]
    exact (congrArg (fun v : State => v.recomputeLamps k) steady).trans lamps
  unfold State.tripShaft
  rw [if_neg (by simp [enabled, fresh, idle])]
  simp only [entered]
  exact State.closingCheck_of_not_pending open_

/-- A shaft's block starts (R31, R37): its windows run, and a FAULT already raised trips it, if it is enabled. -/
theorem State.startShaftBlock_spec {s : State} {k : Nat} {y : Shaft} (inside : k < 2) (fresh : s.shaft k = y.afterReset)
    (warned : ∀ i, (s.shutterLive i).state ≠ .warning) (open_ : s.day.closePending = false) :
    ChangesOnly [.shafts, .net] s (s.startShaftBlock k) ∧
    (s.startShaftBlock k).shaft k = { ready := y.ready, fault := y.fault, windowEnd := some (s.now + 100000)
                                      state := if y.fault && s.shaftEnabled k then .tripped else .idle
                                      trip := if y.fault && s.shaftEnabled k then some .drive else none } ∧
    (∀ j, j ≠ k → (s.startShaftBlock k).shaft j = s.shaft j) ∧
    (s.startShaftBlock k).net = if y.fault && s.shaftEnabled k then
      s.net.request s.tables s.now (.shaftTrip k (some .drive)) else s.net := by
  let u := s.modShaft k fun x => { x with windowEnd := s.after Config.speedWindow }
  have window : u.shaft k = { y.afterReset with windowEnd := some (s.now + 100000) } := by
    simp [u, State.shaft_modShaft, inside, fresh, State.after, Config.speedWindow, ms]
  have others : ∀ j, j ≠ k → u.shaft j = s.shaft j := fun j other => by simp [u, State.shaft_modShaft, Ne.symm other]
  have frame : ChangesOnly [.shafts, .net] s u := by simp [ChangesOnly, u]
  have block : s.startShaftBlock k = if y.fault then u.tripShaft k .drive else u := by
    have fault : (u.shaft k).fault = y.fault := by rw [window]; rfl
    rw [← fault]; rfl
  rw [block]
  cases raised : y.fault with
  | false => exact ⟨frame, by simp [window, Shaft.afterReset, raised], others, rfl⟩
  | true =>
    cases enabled : s.shaftEnabled k with
    | false =>
      have stays : u.tripShaft k .drive = u := if_pos (.inl enabled)
      simp only [if_true, stays, Bool.and_false]
      exact ⟨frame, by simp [window, Shaft.afterReset, raised], others, rfl⟩
    | true =>
      obtain ⟨v, trip, shafts, tripped, rest⟩ := State.tripShaft_at_start inside window rfl rfl
        (by intro l; simp only [Shaft.afterReset, Tab.getD_replicate]; split <;> rfl) warned open_ enabled .drive
      simp only [if_true, trip, Bool.and_true]
      refine ⟨frame.trans ((shafts.mono (by decide)).trans (State.notify_blank (by decide) ..)), ?_,
        fun j other => (rest j other).trans (others j other), ?_⟩
      · exact tripped.trans (by simp [Shaft.afterReset, raised])
      · rw [State.notify_net, shafts.net, shafts.tables, shafts.now]; rfl

/-! ### The notices of a restart (R185, R188) -/

/-- The Management Unit as it starts, but for at most `n` requests of SHAFT_TRIP with cause DRIVE. -/
structure Management.OnlyDriveTrips (n : Nat) (m : Management) : Prop where
  rejected : m.rejected = 0
  badRequest : m.badRequest = 0
  noticeLost : m.noticeLost = 0
  phraseBusy : m.phraseBusy = 0
  size : m.queue.length ≤ n
  queue : ∀ x ∈ m.queue, ∃ k < 2, x.body = .shaftTrip k (some .drive)
  timers : ∀ x ∈ m.timers, ∃ k < 2, x.body = .shaftTrip k (some .drive)
  sticky : ∀ j < 23, m.sticky.getLsbD j = true → j = noticeIndex .shaftTrip

theorem getLsbD_setSticky (f : BitVec 23) (k : NoticeKind) (j : Nat) :
    (setSticky f k).getLsbD j = (f.getLsbD j || decide (j = noticeIndex k)) := by
  have small : noticeIndex k < 23 := by cases k <;> decide
  have bit : (BitVec.ofNat 23 (2 ^ noticeIndex k)).getLsbD j = decide (j = noticeIndex k) := by
    rw [BitVec.getLsbD_ofNat, Nat.testBit_two_pow]
    grind
  rw [setSticky, BitVec.getLsbD_or, bit]

/-- A request of a notice while L4 is not UP leaves the ports alone, and its notice waits (R185, R186). -/
theorem Net.request_waits (t : Tables) (now : Micros) (b : NoticeBody) {n : Net} (down : (n.ports.getD 4 {}).state ≠ .up) :
    n.request t now b = { n with mgmt :=
      let m := { n.mgmt with sticky := setSticky n.mgmt.sticky b.key.kind }
      if (t.notice b.key.kind).enable then
        let m := m.build (t.notice b.key.kind) b
        if (t.notice b.key.kind).mode = .level ∧ noticeHasCondition b.key.kind = true then m.startRepeat now b else m
      else m } := by
  unfold Net.request
  dsimp only
  split
  · exact (Net.dispatched_dispatch t.globals _).1 down
  · rfl

theorem Management.OnlyDriveTrips.build {n k : Nat} {m : Management} (only : m.OnlyDriveTrips n) (room : n < 16)
    (inside : k < 2) (c : NoticeCfg) : (m.build c (.shaftTrip k (some .drive))).OnlyDriveTrips (n + 1) := by
  have free : m.queue.length < 16 := Nat.lt_of_le_of_lt only.size room
  have built : ∃ x, x.body = .shaftTrip k (some .drive) ∧ m.build c (.shaftTrip k (some .drive)) =
      { m with seq := (m.seq + 1) % 256, queue := m.queue ++ [x] } :=
    ⟨{ body := .shaftTrip k (some .drive), severity := .alarm, route := c.route, seq := (m.seq + 1) % 256 }, rfl, by
      simp [Management.build, Management.join, Config.noticeSize, free, noticeSeverity, NoticeBody.key]⟩
  obtain ⟨x, body, built⟩ := built
  rw [built]
  refine { only with size := by simpa using only.size, queue := fun y mem => ?_ }
  rcases List.mem_append.1 mem with old | new
  · exact only.queue y old
  · exact ⟨k, inside, List.mem_singleton.1 new ▸ body⟩

theorem Management.OnlyDriveTrips.startRepeat {n k : Nat} {m : Management} (only : m.OnlyDriveTrips n) (inside : k < 2)
    (now : Micros) : (m.startRepeat now (.shaftTrip k (some .drive))).OnlyDriveTrips n := by
  refine { only with timers := fun y mem => ?_ }
  rcases List.mem_cons.1 mem with rfl | old
  · exact ⟨k, inside, rfl⟩
  · exact only.timers y (List.mem_of_mem_filter old)

theorem Net.request_driveTrip {t : Tables} {now : Micros} {n : Net} {count k : Nat} (only : n.mgmt.OnlyDriveTrips count)
    (room : count < 16) (inside : k < 2) (down : (n.ports.getD 4 {}).state ≠ .up) :
    (n.request t now (.shaftTrip k (some .drive))).ports = n.ports ∧
      (n.request t now (.shaftTrip k (some .drive))).mgmt.OnlyDriveTrips (count + 1) := by
  rw [Net.request_waits t now _ down]
  refine ⟨rfl, ?_⟩
  have noted : Management.OnlyDriveTrips count { n.mgmt with sticky := setSticky n.mgmt.sticky .shaftTrip } := by
    refine { only with sticky := fun j small set => ?_ }
    rw [getLsbD_setSticky, Bool.or_eq_true, decide_eq_true_eq] at set
    exact set.elim (only.sticky j small) id
  dsimp only
  split
  · split
    · exact (noted.build room inside _).startRepeat inside now
    · exact noted.build room inside _
  · exact { noted with size := Nat.le_succ_of_le noted.size }

end Sys2Proof.Machine
end

section
/-! A restart carried out, block by block, and what every reset keeps (R14, R37, R188, R192). -/

namespace Sys2Proof.Machine

/-! ### A restart carried out (R192) -/

/-- The part with every live state cleared and the tables in place: where the blocks of a restart start from. -/
def State.clearedInPlace (s : State) : State := { s.clearLive with inPlace := true }

/-- Every block of a restart of `s` but the shafts has started in `u` (R14, R75, R95, R119, R148, R167). -/
structure State.Started (s u : State) : Prop where
  frame : ChangesOnly [.stations, .zones, .shutters, .arbiters, .playback, .net] s.clearedInPlace u
  playback : u.playback = { directory := Tab.ofFn 128 s.store.headerEntry }
  stations : ∀ i < 96, u.stationLive i = { supervision := match s.station i with
    | some c => s.supervisionTimer c.beatPeriod
    | none => none }
  zones : ∀ z < 16, u.zone z = { state := if (s.zoneCfg z).storedIsolated then .isolated else .normal }
  shutters : ∀ i < 32, u.shutterLive i =
    { state := if ((s.shutter i).any fun c => (s.zoneCfg c.zone).storedIsolated) then .isolated else .unknown }
  arbiters : ∀ i, u.arbiter i = if ((s.station i).any fun c => decide (c.role = .sounder)) then some {} else none
  ports : ∀ p < 5, u.port p = { keepTimer := some (s.now + 10000) }
  mgmt : u.net.mgmt = {}

theorem State.restartNow_eq (s : State) :
    ∃ u, s.Started u ∧ s.restartNow = (u.startShaftBlock 0).startShaftBlock 1 := by
  let b := s.clearedInPlace
  let u₁ := b.forEach (List.range 96) State.startStation
  let u₂ := u₁.forEach (List.range 16) State.startZone
  let u₃ := u₂.forEach (u₂.stationsOf .sounder) State.createArbiter
  let u₄ := u₃.readDirectory
  let u₅ := u₄.forEach (List.range 5) fun s p => s.modPort p fun x => { x with keepTimer := s.after Config.keepInterval }
  have f₁ : ChangesOnly [.stations] b u₁ :=
    State.forEach_blank _ _ _ fun t i => State.startStation_blank (by decide) t i
  have f₂ : ChangesOnly [.zones, .shutters] u₁ u₂ := State.forEach_blank _ _ _ fun t z => t.startZone_changes z
  have cleared : ∀ z, b.zone z = {} := fun z => by
    show (Tab.replicate 16 ({} : ZoneLive)).getD z {} = {}
    rw [Tab.getD_replicate]; split <;> rfl
  have zones : ∀ z < 16, u₂.zone z = { state := if (s.zoneCfg z).storedIsolated then .isolated else .normal } := by
    intro z inside
    have before : u₁.zone z = {} := by rw [← cleared z]; simp only [State.zone, f₁.zones]
    have record : u₁.zoneCfg z = s.zoneCfg z := by simp only [State.zoneCfg, f₁.tables]; rfl
    rw [State.zone_startZones u₁ inside, before, record]
    split <;> rfl
  have quiet : ∀ z, (u₂.zone z).state = .isolated ∨ (u₂.zone z).state = .normal := by
    intro z
    by_cases inside : z < 16
    · rw [zones z inside]; dsimp only; split <;> simp
    · rw [State.zone, Tab.getD_eq_of_le _ (Nat.le_of_not_lt inside)]; exact .inr rfl
  obtain ⟨f₃, arbiters⟩ : ChangesOnly [.arbiters] u₂ u₃ ∧
      ∀ i, u₃.arbiter i = if i ∈ u₂.stationsOf .sounder then some {} else u₂.arbiter i := State.startArbiters_spec quiet
  have f₄ : ChangesOnly [.playback] u₃ u₄ := State.readDirectory_blank (by decide) u₃
  obtain ⟨f₅, mgmt, ports⟩ : ChangesOnly [.net] u₄ u₅ ∧ u₅.net.mgmt = u₄.net.mgmt ∧
      ∀ p < 5, u₅.port p = { u₄.port p with keepTimer := u₄.after Config.keepInterval } := State.startPorts_spec u₄
    (fun s x => { x with keepTimer := s.after Config.keepInterval }) (fun t kept => by
      funext x; simp only [State.after, kept.now])
  refine ⟨u₅, ⟨?_, ?_, ?_, ?_, ?_, ?_, ?_, ?_⟩, rfl⟩
  · exact (f₁.mono (by decide)).trans ((f₂.mono (by decide)).trans ((f₃.mono (by decide)).trans
      ((f₄.mono (by decide)).trans (f₅.mono (by decide)))))
  · have before : u₃.playback = {} := by rw [f₃.playback, f₂.playback, f₁.playback]; rfl
    have store : u₃.store = s.store := by rw [f₃.store, f₂.store, f₁.store]; rfl
    rw [f₅.playback]
    show { u₃.playback with directory := Tab.ofFn 128 u₃.store.headerEntry } = _
    rw [before, store]
  · intro i inside
    have later : u₅.stationLive i = u₁.stationLive i := by
      simp only [State.stationLive, f₅.stations, f₄.stations, f₃.stations, f₂.stations]
    have record : b.station i = s.station i := rfl
    have timer : b.supervisionTimer = s.supervisionTimer := rfl
    have before : b.stationLive i = {} := by
      show (Tab.replicate 96 ({} : StationLive)).getD i {} = {}
      rw [Tab.getD_replicate, if_pos inside]
    rw [later, State.stationLive_startStations b inside, record, timer, before]
    cases s.station i <;> rfl
  · intro z inside
    rw [← zones z inside]
    simp only [State.zone, f₅.zones, f₄.zones, f₃.zones]
  · intro i inside
    have later : u₅.shutterLive i = u₂.shutterLive i := by
      simp only [State.shutterLive, f₅.shutters, f₄.shutters, f₃.shutters]
    have before : u₁.shutterLive i = {} := by
      simp only [State.shutterLive, f₁.shutters]
      show (Tab.replicate 32 ({} : ShutterLive)).getD i {} = {}
      rw [Tab.getD_replicate, if_pos inside]
    have record : u₁.shutter i = s.shutter i := by simp only [State.shutter, f₁.tables]; rfl
    have zoneRecords : u₁.zoneCfg = s.zoneCfg := by funext z; simp only [State.zoneCfg, f₁.tables]; rfl
    rw [later, State.shutterLive_startZones u₁ inside, before, record, zoneRecords]
    split <;> rfl
  · intro i
    have record : u₂.station i = s.station i := by simp only [State.station, f₂.tables, f₁.tables]; rfl
    have before : u₂.arbiter i = none := by
      simp only [State.arbiter, f₂.arbiters, f₁.arbiters]
      exact Tab.at?_replicate_none i
    have later : u₅.arbiter i = u₃.arbiter i := by simp only [State.arbiter, f₅.arbiters, f₄.arbiters]
    rw [later, arbiters i, before]
    refine if_congr ?_ rfl rfl
    rw [State.mem_stationsOf, record, Option.any_eq_true]
    simp only [decide_eq_true_eq]
  · intro p inside
    have before : u₄.port p = {} := by
      simp only [State.port, f₄.net, f₃.net, f₂.net, f₁.net]
      show (Tab.replicate 5 ({} : Port)).getD p {} = {}
      rw [Tab.getD_replicate, if_pos inside]
    have moment : u₄.now = s.now := by rw [f₄.now, f₃.now, f₂.now, f₁.now]; rfl
    rw [ports p inside, before]
    simp [State.after, moment, Config.keepInterval, ms]
  · rw [mgmt, f₄.net, f₃.net, f₂.net, f₁.net]; rfl

/-- The shafts' blocks start last (R31, R37): no more than a SHAFT_TRIP of each is requested. -/
theorem State.Started.shafts {s u : State} (started : s.Started u) :
    ChangesOnly [.shafts, .net] u ((u.startShaftBlock 0).startShaftBlock 1) ∧
    (∀ k < 2, ((u.startShaftBlock 0).startShaftBlock 1).shaft k =
      { ready := (s.shaft k).ready, fault := (s.shaft k).fault, windowEnd := some (s.now + 100000)
        state := if (s.shaft k).fault && s.shaftEnabled k then .tripped else .idle
        trip := if (s.shaft k).fault && s.shaftEnabled k then some .drive else none }) ∧
    ((u.startShaftBlock 0).startShaftBlock 1).net.ports = u.net.ports ∧
    ((u.startShaftBlock 0).startShaftBlock 1).net.mgmt.OnlyDriveTrips 2 ∧
    ((∀ k < 2, (s.shaft k).fault = false ∨ s.shaftEnabled k = false) →
      ((u.startShaftBlock 0).startShaftBlock 1).net.mgmt = {}) := by
  have frame := started.frame
  have fresh : ∀ k < 2, u.shaft k = (s.shaft k).afterReset := fun k inside => by
    rw [← s.shaft_clearLive inside, State.shaft, frame.shafts]; rfl
  have warned : ∀ i, (u.shutterLive i).state ≠ .warning := by
    intro i
    by_cases inside : i < 32
    · rw [started.shutters i inside]; dsimp only; split <;> simp
    · rw [State.shutterLive, Tab.getD_eq_of_le _ (Nat.le_of_not_lt inside)]; simp
  have calm : u.day.closePending = false := by rw [frame.day]; rfl
  have moment : u.now = s.now := by rw [frame.now]; rfl
  have enabled : u.shaftEnabled = s.shaftEnabled := by
    funext k; simp only [State.shaftEnabled, State.geometry, frame.tables]; rfl
  have down : (u.net.ports.getD 4 {}).state ≠ .up := by
    have office := started.ports 4 (by decide)
    simp only [State.port] at office
    rw [office]; simp
  have none_yet : u.net.mgmt.OnlyDriveTrips 0 := by
    rw [started.mgmt]
    constructor <;> simp
  obtain ⟨first, shaft0, others0, net0⟩ := State.startShaftBlock_spec (by decide) (fresh 0 (by decide)) warned calm
  let v := u.startShaftBlock 0
  have first : ChangesOnly [.shafts, .net] u v := first
  obtain ⟨second, shaft1, others1, net1⟩ := State.startShaftBlock_spec (s := v) (k := 1) (y := s.shaft 1) (by decide)
    ((others0 1 (by decide)).trans (fresh 1 (by decide)))
    (by intro i; simpa only [State.shutterLive, first.shutters] using warned i) (by rw [first.day]; exact calm)
  have enabled1 : v.shaftEnabled 1 = s.shaftEnabled 1 := by
    rw [← enabled]; simp only [State.shaftEnabled, State.geometry, first.tables, v]
  have moment1 : v.now = s.now := by rw [← moment]; exact first.now
  rw [enabled, moment] at shaft0
  rw [enabled] at net0
  rw [enabled1, moment1] at shaft1
  rw [enabled1] at net1
  have ports0 : v.net.ports = u.net.ports ∧ v.net.mgmt.OnlyDriveTrips 1 := by
    rw [net0]
    split
    · exact Net.request_driveTrip none_yet (by decide) (by decide) down
    · exact ⟨rfl, { none_yet with size := Nat.le_succ_of_le none_yet.size }⟩
  obtain ⟨same0, only0⟩ := ports0
  have ports1 : (v.startShaftBlock 1).net.ports = v.net.ports ∧ (v.startShaftBlock 1).net.mgmt.OnlyDriveTrips 2 := by
    rw [net1]
    split
    · exact Net.request_driveTrip only0 (by decide) (by decide) (by rw [same0]; exact down)
    · exact ⟨rfl, { only0 with size := Nat.le_succ_of_le only0.size }⟩
  obtain ⟨same1, only1⟩ := ports1
  refine ⟨first.trans second, fun k inside => ?_, same1.trans same0, only1, fun sound => ?_⟩
  · match k with
    | 0 => exact (others1 0 (by decide)).trans shaft0
    | 1 => exact shaft1
  · have untripped : ∀ k < 2, ((s.shaft k).fault && s.shaftEnabled k) = false := fun k inside => by
      rcases sound k inside with calm | disabled <;> simp [*]
    rw [net1, untripped 1 (by decide), if_neg (by simp), net0, untripped 0 (by decide), if_neg (by simp), started.mgmt]

/-- A port that stands DOWN takes no frame, and no notice leaves while L4 stands DOWN (R174, R186). -/
theorem State.nextFrame_of_down {s : State} {p : Nat} (own : (s.port p).state = .down) (office : (s.port 4).state = .down)
    (c : QueueClass) : s.nextFrame p c = s := by
  have tried : s.dispatch = s := by
    have waits := (s.net.dispatched_dispatch s.globals).1 (by
      rw [State.port] at office; rw [office]; simp)
    unfold State.dispatch
    rw [waits]
  have picks : s.modPort p Port.pick = s := State.modPort_eq_self (by simp [Port.pick, own])
  unfold State.nextFrame
  simp only [tried, ite_self]
  exact picks

/-- Both ways to the end of a pending restart come to `State.restartNow` (R192). -/
theorem exec_restart_due {c : Instr} {e : Micros} {s s₀ : State} (pending : s.settings.restart = some e)
    (due : c = .restartTimeout ∧ s₀ = s.reach e ∨ s₀ = s ∧ ∃ p h f, c = .frameSent p ∧ p < 5 ∧ (s.port p).hand = some h ∧
      h.phase = .sending ∧ h.source = .queue .normal ∧ (s.port p).headOf .normal = some f ∧ f.report = .restart) :
    exec c s = .next s₀.restartNow := by
  rcases due with ⟨rfl, rfl⟩ | ⟨rfl, p, h, f, rfl, inside, hand, sending, source, head, report⟩
  · show execRestartTimeout s = _
    simp only [execRestartTimeout, pending]
  · obtain ⟨u, started, result⟩ := s₀.restartNow_eq
    obtain ⟨-, -, ports, -⟩ := started.shafts
    have down : ∀ q < 5, (s₀.restartNow.port q).state = .down := fun q small => by
      have port := started.ports q small
      simp only [State.port] at port ⊢
      rw [result, ports, port]
    have sent : (s₀.port p).sendingHand = some h := by simp [Port.sendingHand, hand, sending]
    have run : exec (.frameSent p) s₀ = .next (s₀.frameSent p .normal f) := by
      show execFrameSent p s₀ = _
      simp only [execFrameSent, sent, source, head]
    have restarts : ((s₀.modPort p fun x => (x.countSent s₀.now).dropHead .normal).actOnReport .restart) = s₀.restartNow :=
      if_pos (by simp [pending])
    rw [run, State.frameSent, report, restarts, State.nextFrame_of_down (down p inside) (down 4 (by decide))]

/-- A state that differs from another in live state only is that state with its own live state. -/
theorem ChangesOnly.eq_with_live {s t : State}
    (frame : ChangesOnly [.stations, .zones, .shutters, .arbiters, .shafts, .playback, .net] s t) : t = { s with
      stations := t.stations, zones := t.zones, shutters := t.shutters, arbiters := t.arbiters, shafts := t.shafts
      playback := t.playback, net := t.net } := by
  have tables := frame.tables
  have clock := frame.clock
  cases s; cases t
  simp only [State.mk.injEq]
  exact ⟨tables, frame.inPlace, trivial, frame.unknownSource, frame.mismatchDrop, trivial, frame.points, frame.unknownPoint,
    trivial, trivial, frame.unknownDrive, frame.calls, trivial, clock, frame.day, trivial, trivial, frame.exchange,
    frame.settings, frame.store, frame.pending, frame.now, frame.draws, frame.tokens⟩

theorem State.orderRestart_eq (s : State) (t : Ticket) : s.orderRestart t =
    if s.settings.saving.isSome ∨ s.settings.writing.isSome then s.reply t .busy
    else (s.modSettings fun x => { x with restart := some (s.now + 100000) }).reply t .done .none .restart := by
  unfold State.orderRestart
  simp only [Bool.or_eq_true]
  rfl

/-- Settles O22: the cleared state field by field; a restart as its blocks' starts, stage by stage, the shafts' last. -/
theorem resetsKeepWhatTheyKeep : Obligations.ResetsKeepWhatTheyKeep := by
  refine ⟨fun s => ⟨⟨_, rfl, ?_, fun k inside => s.shaft_unload inside, s.settings_unload, State.store_unload⟩,
    ⟨_, rfl, s.unload_eq, fun k inside => s.shaft_unload inside, s.settings_unload, State.store_unload⟩⟩,
    fun s s₁ r accepted taken => ?_, fun c e s s₀ pending due => ?_⟩
  · exact congrArg (fun u : State => { u with clock := {}, day := {} }) s.unload_eq
  · subst taken
    show Host.Outcome.next _ = _
    rw [State.onRequest_accepted (by simp) accepted, State.orderRestart_eq, (s.takeHead_changes r).now]
  · have run := exec_restart_due pending due
    obtain ⟨now, clock, rfl⟩ : ∃ now clock, s₀ = { s with now := now, clock := clock } := by
      rcases due with ⟨-, rfl⟩ | ⟨rfl, -⟩
      · exact ⟨_, _, rfl⟩
      · exact ⟨_, _, rfl⟩
    obtain ⟨u, started, result⟩ := State.restartNow_eq { s with now := now, clock := clock }
    obtain ⟨frame, shafts, ports, notices, quiet⟩ := started.shafts
    rw [← result] at frame shafts ports notices quiet
    generalize State.restartNow { s with now := now, clock := clock } = t at run frame shafts ports notices quiet
    have playback : t.playback = { directory := t.playback.directory } := by rw [frame.playback, started.playback]
    have equation := ((started.frame.mono (by decide)).trans (frame.mono (by decide))).eq_with_live
    rw [playback] at equation
    have port : ∀ p < 5, t.port p = { keepTimer := some (now + 10000) } := fun p inside => by
      rw [← started.ports p inside, State.port, ports]; rfl
    refine ⟨t, run, equation, fun i inside => ?_, fun z inside => ?_, fun i inside => ?_, fun i inside => ?_, shafts,
      fun k inside => ?_, port, fun p inside => ?_, quiet,
      ⟨notices.rejected, notices.badRequest, notices.noticeLost, notices.phraseBusy⟩, notices.queue, notices.timers,
      notices.sticky, fun i inside => ?_⟩
    · rw [State.stationLive, frame.stations]
      refine (started.stations i inside).trans ?_
      simp only [State.supervisionTimer_eq]
      rfl
    · rw [State.zone, frame.zones]
      exact started.zones z inside
    · rw [State.shutterLive, frame.shutters]
      exact started.shutters i inside
    · rw [State.arbiter, frame.arbiters]
      exact started.arbiters i
    · rw [shafts k inside]
      exact ⟨rfl, rfl, rfl, rfl⟩
    · rw [port p inside]
      exact ⟨rfl, rfl, rfl, rfl, rfl⟩
    · rw [State.phrase, frame.playback, started.playback, Tab.getD, Tab.get?_ofFn, if_pos inside]
      rfl

end Sys2Proof.Machine
end

section
/-! The services of the arbiters (R120): which operations leave them, and which set one afresh. -/

namespace Sys2Proof.Machine

/-- The services of the arbiters in being. -/
def State.services (s : State) : Tab (Option Service) 96 := s.arbiters.map (Option.map Arbiter.service)

theorem State.services_congr {s t : State} (same : t.arbiters = s.arbiters) : t.services = s.services := by
  simp only [State.services, same]

theorem State.services_at (s : State) (i : Nat) : s.services.at? i = (s.arbiter i).map Arbiter.service := by
  simp only [State.services, State.arbiter, Tab.at?, Tab.get?_map]
  cases s.arbiters.get? i with
  | none => rfl
  | some a => cases a <;> rfl

/-- States with the same services have an arbiter, with its service, at the same indices. -/
theorem State.arbiter_of_services {s t : State} (same : t.services = s.services) {i : Nat} {a : Arbiter}
    (here : s.arbiter i = some a) : ∃ b, t.arbiter i = some b ∧ b.service = a.service := by
  have read := t.services_at i
  rw [same, s.services_at, here] at read
  exact Option.map_eq_some_iff.1 read.symm

theorem State.arbiter_none_of_services {s t : State} (same : t.services = s.services) {i : Nat} (here : s.arbiter i = none) :
    t.arbiter i = none := by
  have read := t.services_at i
  rw [same, s.services_at, here] at read
  exact Option.map_eq_none_iff.1 read.symm

/-! ### What leaves the services -/

section
variable (s : State)

@[simp] theorem State.services_ite (c : Prop) [Decidable c] (s t : State) :
    (if c then s else t).services = if c then s.services else t.services := by split <;> rfl

theorem State.foldl_services {α : Type} (f : State → α → State) (l : List α) (keeps : ∀ t a, (f t a).services = t.services) :
    (l.foldl f s).services = s.services := by
  induction l generalizing s with
  | nil => rfl
  | cons a l ih => rw [List.foldl_cons, ih, keeps]

theorem State.forEach_services (is : List Nat) (f : State → Nat → State) (keeps : ∀ t i, (f t i).services = t.services) :
    (s.forEach is f).services = s.services := State.foldl_services s f is keeps

theorem State.modArbiter_services (i : Nat) (f : Arbiter → Arbiter) (keeps : ∀ a, (f a).service = a.service) :
    (s.modArbiter i f).services = s.services := by
  apply Tab.ext'
  apply List.ext_getElem?
  intro j
  show (State.services _).get? j = (State.services _).get? j
  simp only [State.services, Tab.get?_map, State.modArbiter_arbiters, Tab.get?_modify]
  split
  · rcases s.arbiters.get? j with _ | _ | a
    · rfl
    · rfl
    · simp [keeps]
  · rfl

@[simp] theorem State.sendTo_services (i : Nat) (c : QueueClass) (kind : Byte) (bytes : List Byte) (report : Report) :
    (s.sendTo i c kind bytes report).services = s.services :=
  State.services_congr (ChangesOnly.arbiters (F := [.net]) (State.sendTo_blank (by decide) s i c kind bytes report))

@[simp] theorem State.toll_services (i : Nat) (t : Toll) (report : Report) : (s.toll i t report).services = s.services := by
  simp [State.toll, State.modArbiter_services]

@[simp] theorem State.serve_services (i : Nat) (r : Ring) : (s.serve i r).services = s.services := by
  simp only [State.serve, State.toll_services]
  exact State.modArbiter_services _ _ _ fun _ => rfl

@[simp] theorem State.choose_services (i : Nat) : (s.choose i).services = s.services := by
  unfold State.choose
  (repeat' split) <;> simp

@[simp] theorem State.endPattern_services (i : Nat) : (s.endPattern i).services = s.services :=
  State.modArbiter_services _ _ _ fun _ => rfl

@[simp] theorem State.ring_services (i : Nat) (c : RingClass) (p : Pattern) (o : RingOwner) :
    (s.ring i c p o).1.services = s.services := by
  unfold State.ring
  dsimp only
  (repeat' split) <;> simp [State.modArbiter_services]

@[simp] theorem State.withdraw_services (i : Nat) (o : RingOwner) : (s.withdraw i o).services = s.services := by
  unfold State.withdraw
  split
  · rfl
  · simp [State.modArbiter_services]

@[simp] theorem State.withdrawAll_services (o : RingOwner) : (s.withdrawAll o).services = s.services :=
  State.forEach_services _ _ _ fun t i => t.withdraw_services i o

@[simp] theorem State.placeRings_services (r : CallRecord) : (s.placeRings r).services = s.services :=
  State.forEach_services _ _ _ fun t i => t.ring_services i _ _ _

@[simp] theorem State.ringAfresh_services (r : CallRecord) : (s.ringAfresh r).services = s.services := by
  simp [State.ringAfresh]

@[simp] theorem State.officeSoundersChanged_services : s.officeSoundersChanged.services = s.services :=
  State.foldl_services _ _ _ fun t r => t.ringAfresh_services r

@[simp] theorem State.countPlayback_services (f : PlaybackCounters → PlaybackCounters) :
    (s.countPlayback f).services = s.services := rfl

@[simp] theorem State.fallbackRing_services (z : Nat) : (s.fallbackRing z).services = s.services := by
  refine State.forEach_services _ _ _ fun t i => ?_
  dsimp only
  split <;> simp

@[simp] theorem State.startRequest_services (r : StoredRequest) : (s.startRequest r).services = s.services := by
  have rings : ∀ zs, (s.forEach zs State.fallbackRing).services = s.services :=
    fun zs => State.forEach_services _ _ _ fun t z => t.fallbackRing_services z
  unfold State.startRequest
  dsimp only
  split
  · exact rings _
  · exact rings _

@[simp] theorem State.startHeads_services (rs : List StoredRequest) : (s.startHeads rs).services = s.services := by
  induction rs generalizing s with
  | nil => rfl
  | cons r rest ih =>
    have started : ((s.modPlayback fun p => { p with queue := rest }).startRequest r).services = s.services :=
      State.startRequest_services _ r
    unfold State.startHeads
    dsimp only
    split
    · exact started
    · exact (ih _).trans started

@[simp] theorem State.startNext_services : s.startNext.services = s.services := by
  unfold State.startNext
  split <;> simp

@[simp] theorem State.abandonStored_services (p : StoredPlay) : (s.abandonStored p).services = s.services :=
  State.startNext_services _

@[simp] theorem State.loseZones_services : s.loseZones.services = s.services := by
  unfold State.loseZones
  split
  · rfl
  · have rings : ∀ (t : State) zs, (t.forEach zs State.fallbackRing).services = t.services :=
      fun t zs => State.forEach_services _ _ _ fun u z => u.fallbackRing_services z
    dsimp only
    split
    · exact (State.abandonStored_services _ _).trans (rings _ _)
    · exact rings _ _

/-- After the losses, settling the channels touches no arbiter (R150, R154). -/
theorem State.settleMap_changes :
    ChangesOnly [.playback, .net] s s.recomputeMap.settleEvac.settleStored := by
  simp [ChangesOnly]

@[simp] theorem State.settlePlayback_services : s.settlePlayback.services = s.services :=
  (State.services_congr s.loseZones.settleMap_changes.arbiters).trans s.loseZones_services

@[simp] theorem State.recomputeDisplays_services : s.recomputeDisplays.services = s.services :=
  State.services_congr (ChangesOnly.arbiters (F := [.calls, .net]) (State.recomputeDisplays_blank (by decide) (by decide) s))

end

/-! ### What sets a service -/

theorem State.arbiter_modArbiter_some {s : State} {i : Nat} {a : Arbiter} (here : s.arbiter i = some a) (f : Arbiter → Arbiter) :
    (s.modArbiter i f).arbiter i = some (f a) := by
  rw [State.arbiter_modArbiter, if_pos rfl, here]
  rfl

theorem State.service_evacuate {s : State} {i : Nat} {a : Arbiter} (here : s.arbiter i = some a) :
    ∃ b, (s.evacuate i).arbiter i = some b ∧ b.service = .evacuating :=
  State.arbiter_of_services (State.toll_services _ _ _ _) (State.arbiter_modArbiter_some here _)

theorem State.service_silence {s : State} {i : Nat} {a : Arbiter} (here : s.arbiter i = some a) (c : Arbiter) :
    ∃ b, (s.silence i c).arbiter i = some b ∧ b.service = .silent := by
  unfold State.silence
  dsimp only
  split
  · exact ⟨_, State.arbiter_modArbiter_some here _, rfl⟩
  · exact State.arbiter_of_services (State.toll_services _ _ _ _) (State.arbiter_modArbiter_some here _)

theorem State.service_arbitrate {s : State} {i : Nat} {a : Arbiter} (here : s.arbiter i = some a) (c : Arbiter) :
    ∃ b, (s.arbitrate i c).arbiter i = some b ∧ b.service = .arbitrating := by
  unfold State.arbitrate
  dsimp only
  refine State.arbiter_of_services (s := s.modArbiter i fun a =>
    { a with service := .arbitrating, inForce := .none, preempt := none, refresh := none }) ?_
    (State.arbiter_modArbiter_some here _)
  split <;> simp

/-- The service of an arbiter set afresh is the one its zone gives it (R120). -/
theorem State.service_updateService {s : State} {i : Nat} {a : Arbiter} (here : s.arbiter i = some a) :
    ∃ b, (s.updateService i).arbiter i = some b ∧ b.service = s.serviceFor i := by
  unfold State.updateService
  simp only [here]
  split
  · exact ⟨a, here, by assumption⟩
  · cases s.serviceFor i with
    | evacuating => exact State.service_evacuate here
    | silent => exact State.service_silence here a
    | arbitrating => exact State.service_arbitrate here a

/-- A new arbiter has the service of its zone (R119). -/
theorem State.service_createArbiter (s : State) {i : Nat} (inside : i < 96) :
    ∃ b, (s.createArbiter i).arbiter i = some b ∧ b.service = s.serviceFor i := by
  have made : ({ s with arbiters := s.arbiters.set i (some {}) } : State).arbiter i = some {} := by
    simp [State.arbiter, Tab.at?_set, inside]
  have same : ({ s with arbiters := s.arbiters.set i (some {}) } : State).serviceFor i = s.serviceFor i := rfl
  unfold State.createArbiter
  simp only [same]
  cases s.serviceFor i with
  | evacuating => exact State.service_evacuate made
  | silent => exact ⟨_, State.arbiter_modArbiter_some made _, rfl⟩
  | arbitrating => exact ⟨_, State.arbiter_modArbiter_some made _, rfl⟩

/-- The service that a record's zone gives depends on the tables and the zones' states only (R120). -/
theorem State.serviceFor_congr {s t : State} {i : Nat} (record : t.station i = s.station i)
    (zones : ∀ z, (t.zone z).state = (s.zone z).state) : t.serviceFor i = s.serviceFor i := by
  simp only [State.serviceFor, record, zones]

end Sys2Proof.Machine
end

section
/-! SETUP STATION (R4 to R6): what the write of a record, the end of an identity and what follows them make of the state. -/

namespace Sys2Proof.Machine

/-! ### A record that nothing references (R5) -/

theorem Tab.mem_cells_of_at? {α : Type} {n : Nat} {t : Tab (Option α) n} {i : Nat} {a : α} (found : t.at? i = some a) :
    some a ∈ t.cells :=
  List.mem_of_getElem? (Option.join_eq_some_iff.1 found)

section
variable {s : State} {i : Nat} (free : s.tables.namesStation i = false)
include free

theorem State.panel_ne_of_unnamed {n : Nat} {c : PointCfg} (used : s.point n = some c) : c.panel ≠ i := by
  simp only [Tables.namesStation, Bool.or_eq_false_iff] at free
  obtain ⟨⟨⟨points, -⟩, -⟩, -⟩ := free
  simpa using List.any_eq_false.1 points _ (Tab.mem_cells_of_at? used)

theorem State.drive_ne_of_unnamed {n : Nat} {c : ShutterCfg} (used : s.shutter n = some c) : c.drive ≠ i := by
  simp only [Tables.namesStation, Bool.or_eq_false_iff] at free
  obtain ⟨⟨⟨-, shutters⟩, -⟩, -⟩ := free
  simpa using List.any_eq_false.1 shutters _ (Tab.mem_cells_of_at? used)

theorem State.sill_ne_of_unnamed {k : Nat} {x : Sill} (mem : x ∈ s.sills k) : x.station ≠ i := by
  simp only [Tables.namesStation, Bool.or_eq_false_iff] at free
  obtain ⟨-, shafts⟩ := free
  by_cases inside : k < 2
  · obtain ⟨c, found⟩ := s.tables.shafts.get?_eq_some inside
    have sills : some x ∈ c.sills.cells := by simpa [State.sills, Tab.getD, found] using mem
    have unnamed : (c.sills.cells.any fun x => x.any fun y => decide (y.station = i)) = false := by
      simpa using List.any_eq_false.1 shafts c (List.mem_of_getElem? found)
    simpa using List.any_eq_false.1 unnamed _ sills
  · simp [State.sills, Tab.getD_eq_of_le _ (Nat.le_of_not_lt inside), Tab.replicate] at mem

theorem State.panelPoints_of_unnamed : s.panelPoints i = [] := by
  refine List.filter_eq_nil_iff.2 fun n _ => ?_
  cases used : s.point n with
  | none => simp
  | some c => simpa using State.panel_ne_of_unnamed free used

theorem State.driveShutter_of_unnamed : s.driveShutter i = none := by
  refine List.find?_eq_none.2 fun n _ => ?_
  cases used : s.shutter n with
  | none => simp
  | some c => simpa using State.drive_ne_of_unnamed free used

theorem State.landingOf_of_unnamed : s.landingOf i = none := by
  refine List.findSome?_eq_none_iff.2 fun k _ => ?_
  rw [Option.map_eq_none_iff, List.find?_eq_none]
  intro x mem
  simpa using State.sill_ne_of_unnamed free mem

/-- The loss of a station that no table entry names moves no shaft, shutter or point (R5, R13). -/
theorem State.handLoss_changes_of_unnamed (role : Role) :
    ChangesOnly [.zones, .calls, .arbiters, .playback, .net, .tokens] s (s.handLoss i role) := by
  cases role <;> simp only [State.handLoss]
  case shutterDrive => simp [State.driveLoss, State.driveShutter_of_unnamed free, ChangesOnly]
  case landingStation => simp [State.landingStationChanged, State.landingOf_of_unnamed free, ChangesOnly]
  case detectionPanel => simp [State.panelLoss, State.panelPoints_of_unnamed free, State.forEach, ChangesOnly]
  all_goals simp [ChangesOnly]

theorem State.partWith_changes_of_unnamed (c : StationCfg) :
    ChangesOnly [.stations, .zones, .calls, .arbiters, .playback, .net, .tokens] s (s.partWith i c) := by
  unfold State.partWith
  split
  · have free : (s.setPresence i .unknown).tables.namesStation i = false := free
    exact ChangesOnly.trans (by simp [ChangesOnly]) ((State.handLoss_changes_of_unnamed free c.role).mono (by decide))
  · exact .refl s

end

/-! ### Stations that the parts of a write leave -/

/-- A loss leaves the Station Table to it that hands it on. -/
theorem State.handLoss_stations (s : State) (i : Nat) (role : Role) : (s.handLoss i role).stations = s.stations :=
  ChangesOnly.stations (F := [.shafts, .points, .zones, .shutters, .calls, .arbiters, .playback, .net, .tokens])
    (by simp [ChangesOnly])

theorem State.stationLive_partWith {s : State} {i j : Nat} (c : StationCfg) (other : j ≠ i) :
    (s.partWith i c).stationLive j = s.stationLive j := by
  unfold State.partWith
  split
  · rw [State.stationLive, State.handLoss_stations]
    show (s.modStation i _).stationLive j = _
    rw [State.stationLive_modStation, if_neg (by simp [Ne.symm other])]
  · rfl

/-! ### The pieces of a write -/

theorem State.afterStation_changes (s : State) (old new : Option StationCfg) :
    ChangesOnly [.calls, .arbiters, .playback, .net, .tokens] s (s.afterStation old new) := by simp [ChangesOnly]

@[simp] theorem State.afterStation_services (s : State) (old new : Option StationCfg) :
    (s.afterStation old new).services = s.services := by
  unfold State.afterStation
  dsimp only
  split <;> simp

theorem State.ensureArbiter_changes (s : State) (i : Nat) (c : StationCfg) :
    ChangesOnly [.arbiters, .net, .tokens] s (s.ensureArbiter i c) := by simp [ChangesOnly]

theorem State.ensureArbiter_sounder (s : State) {i : Nat} {c : StationCfg} (inside : i < 96) (sounder : c.role = .sounder) :
    ∃ b, (s.ensureArbiter i c).arbiter i = some b ∧ b.service = s.serviceFor i := by
  unfold State.ensureArbiter
  rw [if_pos sounder]
  split
  · exact s.service_createArbiter inside
  · obtain ⟨a, here⟩ := Option.ne_none_iff_exists'.1 ‹s.arbiter i ≠ none›
    exact State.service_updateService here

theorem State.ensureArbiter_other {s : State} {i : Nat} {c : StationCfg} (other : c.role ≠ .sounder) :
    s.ensureArbiter i c = s := if_neg other

theorem State.endIdentity_changes (s : State) (i : Nat) (old : StationCfg) (new : Option StationCfg) :
    ChangesOnly [.calls, .arbiters, .playback, .net] s (s.endIdentity i old new) := by simp [ChangesOnly]

/-- A record that is no SOUNDER any more has no arbiter (R119). -/
theorem State.arbiter_endIdentity {s : State} {i : Nat} {old : StationCfg} {new : Option StationCfg} (inside : i < 96)
    (was : old.role = .sounder) (ends : ∀ c, new = some c → c.role ≠ .sounder) : (s.endIdentity i old new).arbiter i = none := by
  have gone : old.role = .sounder ∧ (new.all fun c => decide (c.role ≠ .sounder)) = true :=
    ⟨was, by cases new <;> simp_all⟩
  unfold State.endIdentity
  simp only [if_pos gone]
  show (s.arbiters.set i none).at? i = none
  rw [Tab.at?_set, if_pos ⟨rfl, inside⟩]

/-! ### Judging a write (R4) -/

/-- A SETUP STATION that gives every field. -/
def stationFields (a p rc n : Nat) (z : Option Nat) (ab : Abilities) : StationFields :=
  { address := some a, homePort := some p, role := some rc, zone := some z, beatPeriod := some n, abilities := some ab }

/-- The record it writes: the BEAT period is at most 10 s (R4). -/
def stationRecord (a p n : Nat) (role : Role) (z : Option Nat) (ab : Abilities) : StationCfg :=
  { address := BitVec.ofNat 16 a, homePort := p, role := role, zone := z, beatPeriod := min 10 n, abilities := ab }

theorem exec_setupStation_accepted {s : State} {i : Nat} {r : Received} (accepted : Accepted s .setup (some i) r)
    (w : Write StationFields) :
    exec (.setupStation i w) s = .next (answer r.ticket ((s.takeHead r).setupStation i w)) := by
  show Host.Outcome.next _ = _
  rw [State.onRequest_accepted (by simp) accepted]

section
variable {s : State} {i a p rc n : Nat} {z : Option Nat} {ab : Abilities}

theorem State.setupStation_outside (outside : 96 ≤ i) :
    s.setupStation i (.fields (stationFields a p rc n z ab)) = (s, .badIndex, .none) := by
  simp [State.setupStation, stationFields, outside, State.refuse]

theorem State.setupStation_badAddress (inside : i < 96) (bad : a = 0 ∨ 0x7FFF < a) :
    s.setupStation i (.fields (stationFields a p rc n z ab)) = (s, .badValue, .none) := by
  have out : inRange 1 0x7FFF a = false := by simp [inRange]; omega
  simp [State.setupStation, stationFields, Nat.not_le.2 inside, out, State.refuse]

theorem State.setupStation_badRole (inside : i < 96) (bad : roleOfCode rc = none) :
    s.setupStation i (.fields (stationFields a p rc n z ab)) = (s, .badValue, .none) := by
  simp [State.setupStation, stationFields, Nat.not_le.2 inside, stationDraft, bad, State.refuse]

/-- A SETUP STATION with every field in its range: the checks of R4 in their order, then the write. -/
theorem State.setupStation_eq {role : Role} {c : StationCfg} (inside : i < 96) (low : 1 ≤ a) (high : a ≤ 0x7FFF)
    (named : roleOfCode rc = some role) (draft : c = stationRecord a p n role z ab) :
    s.setupStation i (.fields (stationFields a p rc n z ab)) =
      if s.tables.stationOk i c = false then (s, .badValue, .none)
      else if s.referenced i = true ∧ (∃ o, s.station i = some o ∧ (o.address ≠ c.address ∨ o.role ≠ c.role)) then
        (s, .refusedState, .none)
      else if s.station i = some c then (s, if 10 < n then .clamped else .done, .none)
      else (s.applyStation i (s.station i) c, if 10 < n then .clamped else .done, .none) := by
  have range : inRange 1 0x7FFF a = true := by simp [inRange]; omega
  have drafted : stationDraft (s.station i) (stationFields a p rc n z ab) = some c := by
    simp [stationDraft, stationFields, named, field, draft, stationRecord]
  unfold State.setupStation
  simp only [drafted]
  rw [if_neg (by simp [stationFields]), if_neg (Nat.not_le.2 inside), if_neg (by simp [stationFields, range])]
  by_cases ok : s.tables.stationOk i c = true
  · simp only [ok, Bool.not_true, Bool.false_eq_true, if_false, State.refuse, State.carried, Bool.true_eq_false]
    have moved : ((s.referenced i && (s.station i).any fun o => decide (o.address ≠ c.address ∨ o.role ≠ c.role)) = true) ↔
        (s.referenced i = true ∧ ∃ o, s.station i = some o ∧ (o.address ≠ c.address ∨ o.role ≠ c.role)) := by
      simp only [Bool.and_eq_true, Option.any_eq_true, decide_eq_true_eq]
    simp only [moved, stationFields, Option.any_some, decide_eq_true_eq]
  · simp [ok, State.refuse]

theorem State.setupStation_badValue {role : Role} {c : StationCfg} (inside : i < 96) (named : roleOfCode rc = some role)
    (draft : c = stationRecord a p n role z ab) (bad : s.tables.stationOk i c = false) :
    s.setupStation i (.fields (stationFields a p rc n z ab)) = (s, .badValue, .none) := by
  by_cases range : a = 0 ∨ 0x7FFF < a
  · exact State.setupStation_badAddress inside range
  · rw [State.setupStation_eq inside (by omega) (by omega) named draft, if_pos bad]

end

end Sys2Proof.Machine
end

section
/-! The writes of SETUP STATION carried out (R5, R6, R119, R120): a new station, a rewrite that keeps the identity, a free. -/

namespace Sys2Proof.Machine

/-! ### A new station (R6) -/

/-- A record put in use, or made a new station, on a state in which its index is free to be so. -/
def State.enterStation (s : State) (i : Nat) (old : Option StationCfg) (c : StationCfg) : State :=
  (((s.writeStation i (some c)).freshStation i c).ensureArbiter i c).afterStation old (some c)

section
variable (s : State) (i : Nat) (old : Option StationCfg) (c : StationCfg)

theorem State.enterStation_frame : ChangesOnly [.calls, .arbiters, .playback, .net, .tokens]
    ((s.writeStation i (some c)).freshStation i c) (s.enterStation i old c) :=
  ((State.ensureArbiter_changes _ i c).mono (by decide)).trans (State.afterStation_changes _ old (some c))

theorem State.enterStation_changes :
    ChangesOnly [.tables, .stations, .calls, .arbiters, .playback, .net, .tokens] s (s.enterStation i old c) :=
  ChangesOnly.trans (by simp [ChangesOnly]) ((s.enterStation_frame i old c).mono (by decide))

theorem State.enterStation_tables :
    (s.enterStation i old c).tables = { s.tables with stations := s.tables.stations.set i (some c) } :=
  (s.enterStation_frame i old c).tables

variable {i}

theorem State.stationLive_enterStation (inside : i < 96) : (s.enterStation i old c).stationLive i =
    { supervision := if c.beatPeriod = 0 then none else some (s.now + 1500000 * c.beatPeriod) } := by
  rw [State.stationLive, (s.enterStation_frame i old c).stations]
  show ((s.writeStation i (some c)).modStation i _).stationLive i = _
  rw [State.stationLive_modStation, if_pos ⟨rfl, inside⟩, State.supervisionTimer_eq]
  rfl

theorem State.stationLive_enterStation_other {j : Nat} (other : j ≠ i) :
    (s.enterStation i old c).stationLive j = s.stationLive j := by
  rw [State.stationLive, (s.enterStation_frame i old c).stations]
  show ((s.writeStation i (some c)).modStation i _).stationLive j = _
  rw [State.stationLive_modStation, if_neg (by simp [Ne.symm other])]
  rfl

/-- A new SOUNDER has an arbiter, with the service of its zone (R119, R120). -/
theorem State.enterStation_sounder (inside : i < 96) (sounder : c.role = .sounder) :
    ∃ b, (s.enterStation i old c).arbiter i = some b ∧ b.service = (s.enterStation i old c).serviceFor i := by
  obtain ⟨a, here, service⟩ := State.ensureArbiter_sounder ((s.writeStation i (some c)).freshStation i c) inside sounder
  obtain ⟨b, later, kept⟩ := State.arbiter_of_services (State.afterStation_services _ old (some c)) here
  have frame := s.enterStation_frame i old c
  refine ⟨b, later, (kept.trans service).trans (State.serviceFor_congr ?_ fun z => ?_).symm⟩
  · simp only [State.station, frame.tables]
  · simp only [State.zone, frame.zones]

theorem State.enterStation_other (other : c.role ≠ .sounder) (gone : s.arbiter i = none) :
    (s.enterStation i old c).arbiter i = none := by
  refine State.arbiter_none_of_services ?_ gone
  rw [State.enterStation, State.afterStation_services, State.ensureArbiter_other other]
  rfl

end

/-! ### A write that keeps the identity (R6) -/

section
variable {s : State} {i : Nat} {o c : StationCfg}

/-- The record rewritten and, with a changed BEAT period, supervised afresh; the jobs of its role follow. -/
theorem State.rewriteStation_frame : ChangesOnly [.calls, .arbiters, .playback, .net, .tokens]
    (if o.beatPeriod = c.beatPeriod then s.writeStation i (some c) else (s.writeStation i (some c)).refresh i c)
    (s.rewriteStation i o c) := by
  unfold State.rewriteStation
  dsimp only
  generalize (if o.beatPeriod = c.beatPeriod then s.writeStation i (some c) else (s.writeStation i (some c)).refresh i c) = u
  cases c.role <;> dsimp only
  case sounder => split <;> simp [ChangesOnly]
  case callPoint => split <;> simp [ChangesOnly]
  case speaker => split <;> simp [ChangesOnly]
  all_goals exact .refl u

theorem State.rewriteStation_tables :
    (s.rewriteStation i o c).tables = { s.tables with stations := s.tables.stations.set i (some c) } := by
  rw [State.rewriteStation_frame.tables]
  split <;> rfl

theorem State.stationLive_rewriteStation (inside : i < 96) : (s.rewriteStation i o c).stationLive i =
    if o.beatPeriod = c.beatPeriod then s.stationLive i else { s.stationLive i with
      missed := 0, supervision := if c.beatPeriod = 0 then none else some (s.now + 1500000 * c.beatPeriod) } := by
  rw [State.stationLive, State.rewriteStation_frame.stations]
  split
  · rfl
  · show ((s.writeStation i (some c)).modStation i _).stationLive i = _
    rw [State.stationLive_modStation, if_pos ⟨rfl, inside⟩, State.supervisionTimer_eq]
    rfl

theorem State.stationLive_rewriteStation_other {j : Nat} (other : j ≠ i) :
    (s.rewriteStation i o c).stationLive j = s.stationLive j := by
  rw [State.stationLive, State.rewriteStation_frame.stations]
  split
  · rfl
  · show ((s.writeStation i (some c)).modStation i _).stationLive j = _
    rw [State.stationLive_modStation, if_neg (by simp [Ne.symm other])]
    rfl

/-- A SOUNDER moved between zones takes the service of its new zone (R131); one that stays keeps its service. -/
theorem State.rewriteStation_sounder {a : Arbiter} (sounder : c.role = .sounder) (used : s.station i = some o)
    (here : s.arbiter i = some a) (follows : a.service = s.serviceFor i) :
    ∃ b, (s.rewriteStation i o c).arbiter i = some b ∧ b.service = (s.rewriteStation i o c).serviceFor i := by
  have inside : i < 96 := Tab.lt_of_at? used
  let u := if o.beatPeriod = c.beatPeriod then s.writeStation i (some c) else (s.writeStation i (some c)).refresh i c
  have arbiters : u.arbiters = s.arbiters := by simp only [u]; split <;> rfl
  have record : u.station i = some c := by
    have written : (s.writeStation i (some c)).station i = some c := by
      simp [State.station, State.writeStation, Tab.at?_set, inside]
    simp only [u]; split <;> exact written
  have zones : u.zones = s.zones := by simp only [u]; split <;> rfl
  have here : u.arbiter i = some a := by rw [State.arbiter, arbiters]; exact here
  have later : (s.rewriteStation i o c).serviceFor i = u.serviceFor i := by
    refine State.serviceFor_congr ?_ fun z => ?_
    · simp only [State.station, State.rewriteStation_frame.tables, u]
    · simp only [State.zone, State.rewriteStation_frame.zones, u]
  have result : s.rewriteStation i o c = if o.zone = c.zone then u else u.updateService i := by
    simp only [State.rewriteStation, sounder, u]
  rw [later, result]
  split
  · refine ⟨a, here, follows.trans ?_⟩
    simp only [State.serviceFor, used, record, Option.bind_some, State.zone, zones]
    rw [‹o.zone = c.zone›]
  · exact State.service_updateService here

end

/-! ### The writes of SETUP STATION (R4 to R6) -/

section
variable {s : State} {i : Nat} {o c : StationCfg}

theorem State.applyStation_free : s.applyStation i none c = s.enterStation i none c := rfl

theorem State.applyStation_kept (address : o.address = c.address) (role : o.role = c.role) :
    s.applyStation i (some o) c = (s.rewriteStation i o c).afterStation (some o) (some c) :=
  if_pos ⟨address, role⟩

theorem State.applyStation_moved (moved : o.address ≠ c.address ∨ o.role ≠ c.role) : s.applyStation i (some o) c =
    ((s.partWith i o).endIdentity i o (some c)).enterStation i (some o) c :=
  if_neg fun same => moved.elim (· same.1) (· same.2)

/-- A record written as it keeps its address and role (R6). -/
theorem State.applyStation_kept_spec (used : s.station i = some o) (address : o.address = c.address) (role : o.role = c.role) :
    (s.applyStation i (some o) c).tables = { s.tables with stations := s.tables.stations.set i (some c) } ∧
    (s.applyStation i (some o) c).stationLive i = (if o.beatPeriod = c.beatPeriod then s.stationLive i else
      { s.stationLive i with
        missed := 0, supervision := if c.beatPeriod = 0 then none else some (s.now + 1500000 * c.beatPeriod) }) ∧
    (∀ j, j ≠ i → (s.applyStation i (some o) c).stationLive j = s.stationLive j) ∧
    (c.role = .sounder → ∀ a, s.arbiter i = some a → a.service = s.serviceFor i →
      ∃ b, (s.applyStation i (some o) c).arbiter i = some b ∧
        b.service = (s.applyStation i (some o) c).serviceFor i) ∧
    ChangesOnly [.tables, .stations, .calls, .arbiters, .playback, .net, .tokens] s (s.applyStation i (some o) c) := by
  rw [State.applyStation_kept address role]
  have after := State.afterStation_changes (s.rewriteStation i o c) (some o) (some c)
  refine ⟨after.tables.trans State.rewriteStation_tables, ?_, fun j other => ?_, fun sounder a here follows => ?_, ?_⟩
  · rw [State.stationLive, after.stations]
    exact State.stationLive_rewriteStation (Tab.lt_of_at? used)
  · rw [State.stationLive, after.stations]
    exact State.stationLive_rewriteStation_other other
  · obtain ⟨b, there, service⟩ := State.rewriteStation_sounder sounder used here follows
    obtain ⟨b', later, kept⟩ := State.arbiter_of_services (State.afterStation_services _ (some o) (some c)) there
    refine ⟨b', later, (kept.trans service).trans (State.serviceFor_congr ?_ fun z => ?_).symm⟩
    · simp only [State.station, after.tables]
    · simp only [State.zone, after.zones]
  · refine ChangesOnly.trans ?_ (after.mono (by decide))
    exact State.rewriteStation_blank (by decide) (by decide) (by decide) (by decide) (by decide) (by decide) (by decide) s i o c

/-- What is left of an unreferenced record's identity when it is freed or made a new station (R6). -/
theorem State.parted_changes (unreferenced : s.referenced i = false) (new : Option StationCfg) :
    ChangesOnly [.stations, .zones, .calls, .arbiters, .playback, .net, .tokens] s
      ((s.partWith i o).endIdentity i o new) := by
  have unnamed : s.tables.namesStation i = false := (Bool.or_eq_false_iff.1 unreferenced).1
  exact (State.partWith_changes_of_unnamed unnamed o).trans ((State.endIdentity_changes _ i o new).mono (by decide))

theorem State.stationLive_parted {j : Nat} (other : j ≠ i) (new : Option StationCfg) :
    ((s.partWith i o).endIdentity i o new).stationLive j = s.stationLive j := by
  rw [State.stationLive, (State.endIdentity_changes _ i o new).stations]
  exact State.stationLive_partWith o other

/-- An unreferenced record made a new station by a change of its address or role (R6). -/
theorem State.applyStation_moved_spec (used : s.station i = some o) (unreferenced : s.referenced i = false)
    (moved : o.address ≠ c.address ∨ o.role ≠ c.role) :
    (s.applyStation i (some o) c).tables = { s.tables with stations := s.tables.stations.set i (some c) } ∧
    (s.applyStation i (some o) c).stationLive i =
      { supervision := if c.beatPeriod = 0 then none else some (s.now + 1500000 * c.beatPeriod) } ∧
    (∀ j, j ≠ i → (s.applyStation i (some o) c).stationLive j = s.stationLive j) ∧
    (c.role = .sounder → ∃ b, (s.applyStation i (some o) c).arbiter i = some b ∧
      b.service = (s.applyStation i (some o) c).serviceFor i) ∧
    (o.role = .sounder → c.role ≠ .sounder → (s.applyStation i (some o) c).arbiter i = none) ∧
    ChangesOnly [.tables, .stations, .zones, .calls, .arbiters, .playback, .net, .tokens] s
      (s.applyStation i (some o) c) := by
  have inside : i < 96 := Tab.lt_of_at? used
  rw [State.applyStation_moved moved]
  have parted := State.parted_changes (o := o) unreferenced (some c)
  refine ⟨?_, ?_, fun j other => ?_, State.enterStation_sounder _ _ c inside, fun was other => ?_, ?_⟩
  · rw [State.enterStation_tables, parted.tables]
  · rw [State.stationLive_enterStation _ _ _ inside, parted.now]
  · rw [State.stationLive_enterStation_other _ _ _ other, State.stationLive_parted other]
  · refine State.enterStation_other _ _ c other (State.arbiter_endIdentity inside was ?_)
    rintro _ ⟨⟩
    exact other
  · exact (parted.mono (by decide)).trans ((State.enterStation_changes _ i _ c).mono (by decide))

/-- An unreferenced record freed (R6). -/
theorem State.freeStation_spec (used : s.station i = some o) (unreferenced : s.referenced i = false) :
    (s.freeStation i o).tables = { s.tables with stations := s.tables.stations.set i none } ∧
    (s.freeStation i o).stationLive i = {} ∧ (∀ j, j ≠ i → (s.freeStation i o).stationLive j = s.stationLive j) ∧
    (o.role = .sounder → (s.freeStation i o).arbiter i = none) ∧
    ChangesOnly [.tables, .stations, .zones, .calls, .arbiters, .playback, .net, .tokens] s (s.freeStation i o) := by
  have inside : i < 96 := Tab.lt_of_at? used
  let u := (s.partWith i o).endIdentity i o none
  have parted : ChangesOnly _ s u := State.parted_changes (o := o) unreferenced none
  have after : ChangesOnly _ ((u.writeStation i none).modStation i fun _ => {}) (s.freeStation i o) :=
    State.afterStation_changes _ (some o) none
  have read : ∀ j, (s.freeStation i o).stationLive j = if i = j ∧ j < 96 then {} else u.stationLive j := fun j => by
    rw [State.stationLive, after.stations]
    exact State.stationLive_modStation (u.writeStation i none) i j _
  refine ⟨?_, (read i).trans (if_pos ⟨rfl, inside⟩), fun j other => ?_, fun was => ?_, ?_⟩
  · rw [after.tables, ← parted.tables]
    rfl
  · rw [read, if_neg (by simp [Ne.symm other])]
    exact State.stationLive_parted other none
  · refine State.arbiter_none_of_services (State.afterStation_services _ (some o) none) ?_
    exact State.arbiter_endIdentity (s := s.partWith i o) inside was (by simp)
  · refine (parted.mono (by decide)).trans (ChangesOnly.trans (t := (u.writeStation i none).modStation i fun _ => {}) ?_
      (after.mono (by decide)))
    simp [ChangesOnly]

/-! ### A free judged (R5) -/

theorem State.setupStation_free_outside (outside : 96 ≤ i) : s.setupStation i .free = (s, .badIndex, .none) := if_pos outside

theorem State.setupStation_free_unused (inside : i < 96) (unused : s.station i = none) :
    s.setupStation i .free = (s, .done, .none) := by
  simp [State.setupStation, Nat.not_le.2 inside, unused, State.carried]

theorem State.setupStation_free_referenced (used : s.station i = some o) (referenced : s.referenced i = true) :
    s.setupStation i .free = (s, .refusedState, .none) := by
  simp [State.setupStation, Nat.not_le.2 (Tab.lt_of_at? used), used, referenced, State.refuse]

theorem State.setupStation_free (used : s.station i = some o) (unreferenced : s.referenced i = false) :
    s.setupStation i .free = (s.freeStation i o, .done, .none) := by
  simp [State.setupStation, Nat.not_le.2 (Tab.lt_of_at? used), used, unreferenced, State.carried]

/-- A record that passes the checks of R4 has an address in the range of individual ones (R165). -/
theorem Tables.stationOk_address {t : Tables} (good : t.stationOk i c = true) :
    1 ≤ c.address.toNat ∧ c.address.toNat ≤ 0x7FFF := by
  simp only [Tables.stationOk, individual, Bool.and_eq_true, decide_eq_true_eq, Bool.not_eq_true'] at good
  obtain ⟨⟨⟨⟨⟨⟨⟨⟨nonzero, low⟩, -⟩, -⟩, -⟩, -⟩, -⟩, -⟩, -⟩ := good
  have small := BitVec.msb_eq_false_iff_two_mul_lt.1 low
  have positive : c.address.toNat ≠ 0 := fun zero => nonzero (BitVec.eq_of_toNat_eq (by simpa using zero))
  omega

theorem stationRecord_self {n : Nat} (period : c.beatPeriod = min 10 n) :
    c = stationRecord c.address.toNat c.homePort n c.role c.zone c.abilities := by
  cases c
  simp_all [stationRecord]

end

/-- SETUP STATION of a free index (R4, R6). -/
theorem setupStation_new {i a p rc n : Nat} {s : State} {r : Received} {z : Option Nat} {ab : Abilities} {role : Role}
    {c : StationCfg} (accepted : Accepted s .setup (some i) r) (unused : (s.takeHead r).station i = none) (inside : i < 96)
    (low : 1 ≤ a) (high : a ≤ 0x7FFF) (named : roleOfCode rc = some role) (draft : c = stationRecord a p n role z ab)
    (good : (s.takeHead r).tables.stationOk i c = true) :
    exec (.setupStation i (.fields (stationFields a p rc n z ab))) s =
      .next (((s.takeHead r).enterStation i none c).reply r.ticket (if 10 < n then .clamped else .done)) := by
  rw [exec_setupStation_accepted accepted, State.setupStation_eq inside low high named draft, if_neg (by rw [good]; decide),
    if_neg (by simp [unused]), if_neg (by simp [unused]), unused, State.applyStation_free]
  rfl

/-- Settles O42: the checks of R4 in their order; then a new station, a rewrite or a free, each by its own lemma. -/
theorem setupStationWritesTheRecord : Obligations.SetupStationWritesTheRecord := by
  refine ⟨fun i s s₁ r accepted taken => ?_, fun i rc n s s₁ r o c f ok accepted taken used named period status given => ?_⟩
  · have moment : s₁.now = s.now := by rw [taken]; exact (s.takeHead_changes r).now
    subst taken
    refine ⟨fun a p rc n z ab f given unused => ?_, fun outside => ?_, fun inside unused => ?_, fun c used named => ?_,
      fun c used unreferenced => ⟨_, ?_, State.freeStation_spec used unreferenced⟩⟩
    · obtain rfl : f = stationFields a p rc n z ab := given
      refine ⟨fun outside => ?_, fun inside bad => ?_, fun role c inside low high named draft => ⟨fun bad => ?_, fun good => ?_⟩⟩
      · rw [exec_setupStation_accepted accepted, State.setupStation_outside outside]; rfl
      · have refused : (s.takeHead r).setupStation i (.fields (stationFields a p rc n z ab)) =
            (s.takeHead r, .badValue, .none) := by
          rcases bad with zero | large | nameless
          · exact State.setupStation_badAddress inside (.inl zero)
          · exact State.setupStation_badAddress inside (.inr large)
          · exact State.setupStation_badRole inside nameless
        rw [exec_setupStation_accepted accepted, refused]; rfl
      · rw [exec_setupStation_accepted accepted, State.setupStation_badValue inside named draft bad]; rfl
      · refine ⟨(s.takeHead r).enterStation i none c, setupStation_new accepted unused inside low high named draft good,
          State.enterStation_tables _ i none c, ?_, fun j other => State.stationLive_enterStation_other _ none c other,
          fun sounder => ?_, State.enterStation_changes _ i none c⟩
        · have record : c.beatPeriod = min 10 n := by rw [draft]
          rw [State.stationLive_enterStation _ _ _ inside, moment, record]
          have zero : min 10 n = 0 ↔ n = 0 := by omega
          simp only [zero]
        · obtain ⟨b, here, -⟩ := State.enterStation_sounder (s.takeHead r) none c inside (by rw [draft]; exact sounder)
          exact ⟨b, here⟩
    · rw [exec_setupStation_accepted accepted, State.setupStation_free_outside outside]; rfl
    · rw [exec_setupStation_accepted accepted, State.setupStation_free_unused inside unused]; rfl
    · rw [exec_setupStation_accepted accepted, State.setupStation_free_referenced used named]; rfl
    · rw [exec_setupStation_accepted accepted, State.setupStation_free used unreferenced]; rfl
  · have moment : s₁.now = s.now := by rw [taken]; exact (s.takeHead_changes r).now
    subst taken
    have inside : i < 96 := Tab.lt_of_at? used
    have draft := stationRecord_self period
    obtain rfl : f = stationFields c.address.toNat c.homePort rc n c.zone c.abilities := given
    refine ⟨fun bad => ?_, fun good => ?_⟩
    · rw [exec_setupStation_accepted accepted, State.setupStation_badValue inside named draft bad]; rfl
    · obtain ⟨low, high⟩ := Tables.stationOk_address good
      have judged := State.setupStation_eq (s := s.takeHead r) inside low high named draft
      rw [if_neg (by rw [good]; decide), used, ← status] at judged
      refine ⟨fun referenced moved => ?_, fun same => ?_, fun differs address role =>
        ⟨(s.takeHead r).applyStation i (some o) c, ?_, ?_⟩,
        fun unreferenced moved => ⟨(s.takeHead r).applyStation i (some o) c, ?_, ?_⟩⟩
      · rw [exec_setupStation_accepted accepted, judged, if_pos ⟨referenced, o, rfl, moved⟩]; rfl
      · rw [exec_setupStation_accepted accepted, judged, if_neg (by simp [same]), if_pos (by rw [same])]; rfl
      · rw [exec_setupStation_accepted accepted, judged, if_neg (by simp [address, role]), if_neg (by simpa using differs)]; rfl
      · rw [← moment]; exact State.applyStation_kept_spec used address role
      · rw [exec_setupStation_accepted accepted, judged, if_neg (by simp [unreferenced]),
          if_neg (by rintro ⟨⟩; simp at moved)]; rfl
      · rw [← moment]; exact State.applyStation_moved_spec used unreferenced moved

end Sys2Proof.Machine
end

section
/-! Presence told to the jobs (R13): what a step does before and after it hands a loss or a regain over, and that
`State.LossTold` and `State.RegainTold` may be read over such a step. -/

namespace Sys2Proof.Machine

/-- What a step does before it hands a loss or a regain over, from `s` to `u`: it changes no more than the station records and
the exchange, leaves the ports of the lines L0 to L3, and keeps the abilities. -/
structure State.Approaches (s u : State) : Prop where
  frame : ChangesOnly [.stations, .net, .exchange, .now] s u
  port : ∀ p < 4, u.port p = s.port p
  effective : ∀ j, u.effective j = s.effective j

/-- What a step does after it has handed a loss or a regain of station `i` over, from `v` to `t`: it stores what the frame said
of station `i`, and requests notices. -/
structure State.Closes (i : Nat) (v t : State) : Prop where
  frame : ChangesOnly [.stations, .net] v t
  port : ∀ p < 4, t.port p = v.port p
  isPresent : ∀ j, t.isPresent j = v.isPresent j
  effective : ∀ j, j ≠ i → t.effective j = v.effective j
  sticky : ∀ b, v.net.mgmt.sticky.getLsbD b = true → t.net.mgmt.sticky.getLsbD b = true

theorem State.Closes.refl (i : Nat) (v : State) : State.Closes i v v where
  frame := .refl v
  port _ _ := rfl
  isPresent _ := rfl
  effective _ _ := rfl
  sticky _ set := set

/-- A state that differs as `State.Approaches` says is the first with new station records, ports, intake queue and moment. -/
theorem State.Approaches.eq_with {s u : State} (near : State.Approaches s u) :
    ∃ ss nn ee m c, u = { s with stations := ss, net := nn, exchange := ee, now := m, clock := c } := by
  refine ⟨u.stations, u.net, u.exchange, u.now, u.clock, ?_⟩
  have f := near.frame
  have same := congrArg (fun x : State =>
    { x with stations := u.stations, net := u.net, exchange := u.exchange, now := u.now, clock := u.clock }) f
  cases u
  simpa [State.blank] using same

theorem State.Closes.eq_with {i : Nat} {v t : State} (close : State.Closes i v t) :
    ∃ ss nn, t = { v with stations := ss, net := nn } := by
  refine ⟨t.stations, t.net, ?_⟩
  have same := congrArg (fun x : State => { x with stations := t.stations, net := t.net }) close.frame
  cases t
  simpa [State.blank] using same

section
variable {s u v t : State} {i : Nat}

/-- What is told of a frame that names the records and the exchange may be told over the whole step. -/
theorem ChangesOnly.over {G : List Field} (f : ChangesOnly G u v) (near : State.Approaches s u) (close : State.Closes i v t)
    (sub : ∀ x ∈ [Field.stations, .net, .exchange, .now], x ∈ G) : ChangesOnly G s t :=
  (near.frame.mono sub).trans (f.trans (close.frame.mono fun x mem => sub x (by revert mem; revert x; decide)))

theorem State.Sent.over {j : Nat} {q : QueueClass} {kind : Byte} {bytes : List Byte} (sent : u.Sent v j q kind bytes)
    (near : State.Approaches s u) (close : State.Closes i v t) : s.Sent t j q kind bytes := by
  intro x found line takes
  have tables := near.frame.tables
  have before := near.port x.homePort line
  obtain ⟨later, queued⟩ := sent x (by rw [State.station, tables]; exact found) line (by rw [before]; exact takes)
  refine ⟨later, ?_⟩
  rw [close.port _ line, queued, before, State.globals, tables]
  rfl

theorem State.FaultsFollow.over (told : u.FaultsFollow v) (near : State.Approaches s u) (close : State.Closes i v t) :
    s.FaultsFollow t := by
  obtain ⟨ss, nn, ee, m, c, rfl⟩ := near.eq_with
  have sticky := close.sticky
  obtain ⟨ss', nn', rfl⟩ := close.eq_with
  intro z small
  obtain ⟨follows, kept, flag⟩ := told z small
  exact ⟨follows, kept, fun changed => sticky 8 (flag changed)⟩

theorem State.PanelLost.over (told : u.PanelLost v i) (near : State.Approaches s u) (close : State.Closes i v t) :
    s.PanelLost t i := by
  obtain ⟨points, free, faults, frame⟩ := told
  refine ⟨?_, ?_, faults.over near close, frame.over near close (by decide)⟩
  all_goals
    obtain ⟨ss, nn, ee, m, c, rfl⟩ := near.eq_with
    obtain ⟨ss', nn', rfl⟩ := close.eq_with
  · exact points
  · exact free

theorem State.PanelRegained.over (told : u.PanelRegained v i) (near : State.Approaches s u) (close : State.Closes i v t) :
    s.PanelRegained t i := by
  obtain ⟨points, free, faults, frame⟩ := told
  refine ⟨?_, ?_, faults.over near close, frame.over near close (by decide)⟩
  all_goals
    obtain ⟨ss, nn, ee, m, c, rfl⟩ := near.eq_with
    obtain ⟨ss', nn', rfl⟩ := close.eq_with
  · exact points
  · exact free

theorem State.Closes.isPresent_eq (close : State.Closes i v t) : t.isPresent = v.isPresent := funext close.isPresent

theorem State.Closes.lampOf (close : State.Closes i v t) (k l : Nat) : t.lampOf k l = v.lampOf k l := by
  have present := close.isPresent_eq
  obtain ⟨ss, nn, rfl⟩ := close.eq_with
  unfold State.lampOf
  rw [present]
  rfl

theorem State.Closes.landingSilent (close : State.Closes i v t) (k : Nat) : t.landingSilent k = v.landingSilent k := by
  have present := close.isPresent_eq
  obtain ⟨ss, nn, rfl⟩ := close.eq_with
  unfold State.landingSilent
  rw [present]
  rfl

theorem State.CommsTold.over {n : Nat} {on : Bool} (told : u.CommsTold v n on) (near : State.Approaches s u)
    (close : State.Closes i v t) : s.CommsTold t n on := by
  obtain ⟨ss, nn, ee, m, c, rfl⟩ := near.eq_with
  have sticky := close.sticky
  have lamp := close.lampOf
  obtain ⟨ss', nn', rfl⟩ := close.eq_with
  intro changed
  obtain ⟨flag, lamps⟩ := told changed
  refine ⟨sticky 9 flag, fun c k l found at_ small short enabled named => ?_⟩
  rw [lamp]
  exact lamps c k l found at_ small short enabled named

theorem State.DriveLost.over (told : u.DriveLost v i) (near : State.Approaches s u) (close : State.Closes i v t) :
    s.DriveLost t i := by
  obtain ⟨driven, others, cores, frame⟩ := told
  have comms : ∀ n, u.CommsTold v n true → s.CommsTold t n true := fun n c => c.over near close
  refine ⟨?_, ?_, ?_, frame.over near close (by decide)⟩
  all_goals
    obtain ⟨ss, nn, ee, m, c, rfl⟩ := near.eq_with
    obtain ⟨ss', nn', rfl⟩ := close.eq_with
  · exact fun n drives => ⟨comms n (driven n drives).1, (driven n drives).2⟩
  · exact others
  · exact cores

theorem State.DriveRegained.over (told : u.DriveRegained v i) (near : State.Approaches s u) (close : State.Closes i v t) :
    s.DriveRegained t i := by
  obtain ⟨driven, others, cores, frame⟩ := told
  have comms : ∀ n, u.CommsTold v n false → s.CommsTold t n false := fun n c => c.over near close
  have sent : ∀ bytes, u.Sent v i .safety 0x11#8 bytes → s.Sent t i .safety 0x11#8 bytes := fun _ k => k.over near close
  refine ⟨?_, ?_, ?_, frame.over near close (by decide)⟩
  all_goals
    obtain ⟨ss, nn, ee, m, c, rfl⟩ := near.eq_with
    obtain ⟨ss', nn', rfl⟩ := close.eq_with
  · intro n c x drives found here
    obtain ⟨told, again, stays⟩ := driven n c x drives found here
    refine ⟨comms n told, fun m inForce idle waits release raise => ?_, stays⟩
    obtain ⟨shutter, shut⟩ := again m inForce idle waits release raise
    exact ⟨shutter, fun none => sent _ (shut none)⟩
  · exact others
  · exact cores

theorem State.LandingStationLost.over (told : u.LandingStationLost v i) (near : State.Approaches s u)
    (close : State.Closes i v t) : s.LandingStationLost t i := by
  obtain ⟨landing, none, frame⟩ := told
  have free := fun h => (none h).over near close (by decide)
  have sticky := close.sticky
  refine ⟨?_, ?_, frame.over near close (by decide)⟩
  all_goals obtain ⟨ss, nn, ee, m, c, rfl⟩ := near.eq_with
  · obtain ⟨ss', nn', rfl⟩ := close.eq_with
    intro k l here
    obtain ⟨others, core, flag, lamp⟩ := landing k l here
    exact ⟨others, core, fun changed => sticky 11 (flag changed), lamp⟩
  · exact free

theorem State.LandingStationRegained.over (told : u.LandingStationRegained v i) (near : State.Approaches s u)
    (close : State.Closes i v t) : s.LandingStationRegained t i := by
  obtain ⟨landing, none, frame⟩ := told
  have free := fun h => (none h).over near close (by decide)
  have sticky := close.sticky
  have lamps := close.lampOf
  have silent := close.landingSilent
  refine ⟨?_, ?_, frame.over near close (by decide)⟩
  all_goals obtain ⟨ss, nn, ee, m, c, rfl⟩ := near.eq_with
  · obtain ⟨ss', nn', rfl⟩ := close.eq_with
    intro k l here
    obtain ⟨others, core, flag, lamp⟩ := landing k l here
    refine ⟨others, core, fun changed => sticky 11 (flag changed), fun small short enabled named => ?_⟩
    rw [silent, lamps]
    exact lamp small short enabled named
  · exact free

theorem State.Closes.targetWithout (close : State.Closes i v t) : t.targetWithout i = v.targetWithout i := by
  have present := close.isPresent_eq
  obtain ⟨ss, nn, rfl⟩ := close.eq_with
  funext r
  unfold State.targetWithout
  rw [present]
  rfl

theorem State.DisplaysFollow.after (told : v.DisplaysFollow) (close : State.Closes i v t) : t.DisplaysFollow := by
  have present := close.isPresent
  obtain ⟨ss, nn, rfl⟩ := close.eq_with
  exact fun j d found role here => told j d found role ((present j).symm.trans here)

theorem State.Placed.after {j : Nat} {c : RingClass} {p : Pattern} {o : RingOwner} {a b : Arbiter}
    (placed : v.Placed j c p o a b) (other : j ≠ i) (close : State.Closes i v t) : t.Placed j c p o a b := by
  have present := close.isPresent j
  have effective := close.effective j other
  obtain ⟨ss, nn, rfl⟩ := close.eq_with
  unfold State.Placed at placed ⊢
  rw [present, effective]
  exact placed

theorem State.AnnunciatorLost.over {c : StationCfg} (told : u.AnnunciatorLost v i) (near : State.Approaches s u)
    (close : State.Closes i v t) (found : s.station i = some c) (role : c.role = .annunciator) : s.AnnunciatorLost t i := by
  obtain ⟨records, silent, shows, frame⟩ := told
  have alone := fun h => (silent h).over near close (by decide)
  have sticky := close.sticky
  have present := close.isPresent
  have target := close.targetWithout
  have placed : ∀ {j : Nat} {c' : RingClass} {p : Pattern} {o : RingOwner} {a b : Arbiter},
      j ≠ i → v.Placed j c' p o a b → t.Placed j c' p o a b := fun other k => k.after other close
  refine ⟨?_, ?_, shows.after close, frame.over near close (by decide)⟩
  all_goals
    rw [target]
    obtain ⟨ss, nn, ee, m, c, rfl⟩ := near.eq_with
  · intro once
    obtain ⟨calls, moved⟩ := records once
    obtain ⟨ss', nn', rfl⟩ := close.eq_with
    refine ⟨calls, fun r mem before after => ?_⟩
    obtain ⟨flag, rings⟩ := moved r mem before after
    refine ⟨sticky 19 flag, fun free => ?_⟩
    obtain ⟨none, office⟩ := rings free
    refine ⟨none, fun only j d a sounder roleJ port here arbiter pending inForce => ?_⟩
    obtain ⟨b, arb, place⟩ := office only j d a sounder roleJ port ((present j).symm.trans here) arbiter pending inForce
    refine ⟨b, arb, placed (fun same => ?_) place⟩
    subst same
    have agree : some d = some _ := sounder.symm.trans found
    rw [Option.some.inj agree, role] at roleJ
    exact absurd roleJ (by decide)
  · exact alone

theorem State.AnnunciatorRegained.over (told : u.AnnunciatorRegained v i) (near : State.Approaches s u)
    (close : State.Closes i v t) : s.AnnunciatorRegained t i := by
  obtain ⟨calls, shows, sent, frame⟩ := told
  have sent := sent.over near close
  refine ⟨?_, shows.after close, ?_, frame.over near close (by decide)⟩
  all_goals
    obtain ⟨ss, nn, ee, m, c, rfl⟩ := near.eq_with
    obtain ⟨ss', nn', rfl⟩ := close.eq_with
  · exact calls
  · exact sent

theorem State.SounderLost.over (told : u.SounderLost v i) (near : State.Approaches s u) (close : State.Closes i v t) :
    s.SounderLost t i := by
  obtain ⟨here, others, frame⟩ := told
  refine ⟨?_, ?_, frame.over near close (by decide)⟩
  all_goals
    obtain ⟨ss, nn, ee, m, c, rfl⟩ := near.eq_with
    obtain ⟨ss', nn', rfl⟩ := close.eq_with
  · exact here
  · exact others

theorem State.SounderRegained.over (told : u.SounderRegained v i) (near : State.Approaches s u) (close : State.Closes i v t) :
    s.SounderRegained t i := by
  obtain ⟨here, others, frame⟩ := told
  have sent : ∀ q bytes, u.Sent v i q 0x23#8 bytes → s.Sent t i q 0x23#8 bytes := fun _ _ k => k.over near close
  refine ⟨?_, ?_, frame.over near close (by decide)⟩
  all_goals
    obtain ⟨ss, nn, ee, m, c, rfl⟩ := near.eq_with
    obtain ⟨ss', nn', rfl⟩ := close.eq_with
  · exact fun a x arb toll => ⟨(here a x arb toll).1, sent _ _ (here a x arb toll).2⟩
  · exact others

theorem State.SpeakerChanged.over (told : u.SpeakerChanged v) (near : State.Approaches s u) (close : State.Closes i v t) :
    s.SpeakerChanged t := by
  obtain ⟨map, stored, none, frame⟩ := told
  have present := close.isPresent_eq
  refine ⟨?_, ?_, ?_, frame.over near close (by decide)⟩
  all_goals
    obtain ⟨ss, nn, ee, m, c, rfl⟩ := near.eq_with
    obtain ⟨ss', nn', rfl⟩ := close.eq_with
  · exact map
  · intro p kept playing here
    refine stored p kept playing (here.trans ?_)
    unfold State.presentSpeakers
    rw [present]
    rfl
  · exact none

theorem State.SpeakerRegained.over (told : u.SpeakerRegained v i) (near : State.Approaches s u) (close : State.Closes i v t) :
    s.SpeakerRegained t i := by
  obtain ⟨changed, tuned, sent⟩ := told
  have changed := changed.over near close
  have fade := near.effective i
  have told : ∀ q bytes, u.Sent v i q 0x31#8 bytes → s.Sent t i q 0x31#8 bytes := fun _ _ k => k.over near close
  refine ⟨changed, ?_, ?_⟩
  · obtain ⟨ss', nn', rfl⟩ := close.eq_with
    exact tuned
  · rw [fade] at sent
    obtain ⟨ss, nn, ee, m, c, rfl⟩ := near.eq_with
    exact fun idle settled => told _ _ (sent idle settled)

/-- A loss told to the job of a station's role, over the step that hands it over. -/
theorem State.LossTold.over {c : StationCfg} (told : u.LossTold v i c.role) (near : State.Approaches s u)
    (close : State.Closes i v t) (found : s.station i = some c) : s.LossTold t i c.role := by
  generalize same : c.role = role at told ⊢
  cases role with
  | detectionPanel => exact State.PanelLost.over told near close
  | shutterDrive => exact State.DriveLost.over told near close
  | landingStation => exact State.LandingStationLost.over told near close
  | annunciator => exact State.AnnunciatorLost.over told near close found same
  | sounder => exact State.SounderLost.over told near close
  | speaker => exact State.SpeakerChanged.over told near close
  | callPoint | console | other => exact ChangesOnly.over told near close (by decide)

/-- A regain told to the job of a station's role, over the step that hands it over. -/
theorem State.RegainTold.over {role : Role} (told : u.RegainTold v i role) (near : State.Approaches s u)
    (close : State.Closes i v t) : s.RegainTold t i role := by
  cases role with
  | detectionPanel => exact State.PanelRegained.over told near close
  | shutterDrive => exact State.DriveRegained.over told near close
  | landingStation => exact State.LandingStationRegained.over told near close
  | annunciator => exact State.AnnunciatorRegained.over told near close
  | sounder => exact State.SounderRegained.over told near close
  | speaker => exact State.SpeakerRegained.over told near close
  | callPoint | console | other => exact ChangesOnly.over told near close (by decide)

end

end Sys2Proof.Machine
end

section
/-! Notices that a step requests, and the loss and the regain of a detection panel (R60, R61). -/

namespace Sys2Proof.Machine

/-! ### Flags of notices (R185) -/

/-- A notice requested sets the flag of its kind and leaves the others (R185). -/
theorem State.getLsbD_notify (s : State) (b : NoticeBody) (j : Nat) :
    (s.notify b).net.mgmt.sticky.getLsbD j = (s.net.mgmt.sticky.getLsbD j || decide (j = noticeIndex b.key.kind)) := by
  rw [State.notify_net, Net.request_sticky, getLsbD_setSticky]

/-- A step clears no flag of a notice. -/
def State.KeepsFlags (s t : State) : Prop :=
  ∀ j, s.net.mgmt.sticky.getLsbD j = true → t.net.mgmt.sticky.getLsbD j = true

theorem State.KeepsFlags.refl (s : State) : s.KeepsFlags s := fun _ set => set

theorem State.KeepsFlags.trans {s t u : State} (first : s.KeepsFlags t) (second : t.KeepsFlags u) : s.KeepsFlags u :=
  fun j set => second j (first j set)

theorem State.keepsFlags_of_net {s t : State} (same : t.net = s.net) : s.KeepsFlags t := fun j set => by rw [same]; exact set

theorem State.keepsFlags_notify (s : State) (b : NoticeBody) : s.KeepsFlags (s.notify b) := fun j set => by
  rw [State.getLsbD_notify, set, Bool.true_or]

theorem State.keepsFlags_forEach {s : State} {is : List Nat} {f : State → Nat → State} (keeps : ∀ (t : State) i, t.KeepsFlags (f t i)) :
    s.KeepsFlags (s.forEach is f) :=
  State.forEach_induction (fun t => s.KeepsFlags t) (.refl s) fun t i _ kept => kept.trans (keeps t i)

theorem State.keepsFlags_foldl {α : Type} {f : State → α → State} (keeps : ∀ (t : State) a, t.KeepsFlags (f t a)) (l : List α)
    (s : State) : s.KeepsFlags (l.foldl f s) := by
  induction l generalizing s with
  | nil => exact .refl s
  | cons a l ih => exact (keeps s a).trans (ih _)

theorem State.keepsFlags_ite {s t u : State} {c : Prop} [Decidable c] (yes : s.KeepsFlags t) (no : s.KeepsFlags u) :
    s.KeepsFlags (if c then t else u) := by
  split
  · exact yes
  · exact no

theorem State.keepsFlags_modPort (s : State) (p : Nat) (f : Port → Port) : s.KeepsFlags (s.modPort p f) := fun _ set => set

theorem State.keepsFlags_offer (s : State) (p : Nat) (c : QueueClass) (f : TxFrame) : s.KeepsFlags (s.offer p c f) := by
  unfold State.offer
  exact State.keepsFlags_ite ((s.keepsFlags_modPort _ _).trans (State.keepsFlags_notify _ _)) (s.keepsFlags_modPort _ _)

theorem State.keepsFlags_sendTo (s : State) (i : Nat) (c : QueueClass) (kind : Byte) (bytes : List Byte) (report : Report) :
    s.KeepsFlags (s.sendTo i c kind bytes report) := by
  unfold State.sendTo
  split
  · exact .refl s
  · exact State.keepsFlags_offer s _ _ _

/-! ### FAULT flags of the zones (R61) -/

section
variable (s : State)

/-- Whether a point of a zone is in FAULT. -/
def State.faulty (z : Nat) : Bool := (s.zonePoints z).any fun i => decide ((s.pointLive i).state = .fault)

theorem State.faulty_iff (z : Nat) :
    s.faulty z = true ↔ ∃ n c, s.point n = some c ∧ c.zone = z ∧ (s.pointLive n).state = .fault := by
  simp only [State.faulty, State.zonePoints, List.any_eq_true, mem_indicesWhere, Option.any_eq_true, decide_eq_true_eq]
  constructor
  · rintro ⟨n, ⟨-, c, found, zone⟩, fault⟩
    exact ⟨n, c, found, zone, fault⟩
  · rintro ⟨n, c, found, zone, fault⟩
    exact ⟨n, ⟨Tab.lt_of_at? found, c, found, zone⟩, fault⟩

theorem State.recomputeFault_eq (z : Nat) : s.recomputeFault z = if (s.zone z).fault = s.faulty z then s
    else (s.modZone z fun x => { x with fault := s.faulty z }).notify (.zoneFault z (s.faulty z)) := rfl

theorem State.recomputeFault_changes (z : Nat) : ChangesOnly [.zones, .net] s (s.recomputeFault z) :=
  State.recomputeFault_blank (by decide) (by decide) s z

theorem State.zone_recomputeFault (z j : Nat) (inside : z < 16) :
    (s.recomputeFault z).zone j = if z = j then { s.zone j with fault := s.faulty j } else s.zone j := by
  rw [State.recomputeFault_eq]
  by_cases same : z = j
  · subst same
    rw [if_pos rfl]
    split
    next kept => rw [← kept]
    next =>
      show (s.modZone z fun x => { x with fault := s.faulty z }).zone z = _
      rw [State.zone_modZone, if_pos ⟨rfl, inside⟩]
  · rw [if_neg same]
    split
    · rfl
    · show (s.modZone z fun x => { x with fault := s.faulty z }).zone j = _
      rw [State.zone_modZone, if_neg fun h => same h.1]

theorem State.faulty_congr {t : State} (same : ChangesOnly [.zones, .net] s t) : t.faulty = s.faulty := by
  unfold State.faulty State.zonePoints State.point State.pointLive
  rw [same.tables, same.points]

theorem State.zone_recomputeFaults (z : Nat) (inside : z < 16) :
    s.recomputeFaults.zone z = { s.zone z with fault := s.faulty z } := by
  have read := State.forEach_read (s := s) (is := List.range 16) (f := State.recomputeFault)
    (fun t => ChangesOnly [.zones, .net] s t) State.zone (fun j x => { x with fault := s.faulty j }) (.refl s)
    (fun t i _ kept => kept.trans (t.recomputeFault_changes i))
    (fun t i mem kept j => by rw [t.zone_recomputeFault i j (List.mem_range.1 mem), s.faulty_congr kept])
    List.nodup_range z
  rw [if_pos (List.mem_range.2 inside)] at read
  exact read

/-- A FAULT flag that changes sets the flag of ZONE_FAULT (R61). -/
theorem State.recomputeFaults_flag :
    s.recomputeFaults.net.mgmt.sticky.getLsbD 8 = true ∨ s.recomputeFaults.zones = s.zones := by
  have start : s.net.mgmt.sticky.getLsbD 8 = true ∨ s.zones = s.zones := .inr rfl
  have step : ∀ t : State, ∀ z ∈ List.range 16, (t.net.mgmt.sticky.getLsbD 8 = true ∨ t.zones = s.zones) →
      (t.recomputeFault z).net.mgmt.sticky.getLsbD 8 = true ∨ (t.recomputeFault z).zones = s.zones := by
    intro t z _ kept
    rw [State.recomputeFault_eq]
    split
    · exact kept
    · left
      rw [State.getLsbD_notify]
      exact Bool.or_true _
  unfold State.recomputeFaults
  exact State.forEach_induction (fun t => t.net.mgmt.sticky.getLsbD 8 = true ∨ t.zones = s.zones) start step

/-- The FAULT flags recomputed follow the points (R61). -/
theorem State.faultsFollow_recomputeFaults {s t : State} (zones : s.zones = t.zones) (tables : s.tables = t.tables) :
    s.FaultsFollow t.recomputeFaults := by
  have frame : ChangesOnly [.zones, .net] t t.recomputeFaults := State.recomputeFaults_blank (by decide) (by decide) t
  intro z inside
  have zone : s.zone z = t.zone z := by rw [State.zone, zones]; rfl
  have live : t.recomputeFaults.pointLive = t.pointLive := by unfold State.pointLive; rw [frame.points]
  have point : s.point = t.point := by unfold State.point; rw [tables]
  refine ⟨?_, ?_, fun changed => ?_⟩
  · rw [t.zone_recomputeFaults z inside, live, point]
    exact t.faulty_iff z
  · rw [t.zone_recomputeFaults z inside, zone]
  · rcases t.recomputeFaults_flag with flag | same
    · exact flag
    · exact absurd (by rw [State.zone, same, ← zones]; rfl) changed

/-! ### Panels (R60) -/

theorem State.mem_panelPoints (i n : Nat) : n ∈ s.panelPoints i ↔ ∃ c, s.point n = some c ∧ c.panel = i := by
  simp only [State.panelPoints, mem_indicesWhere, Option.any_eq_true, decide_eq_true_eq]
  exact ⟨fun ⟨_, c⟩ => c, fun ⟨c, found, panel⟩ => ⟨Tab.lt_of_at? found, c, found, panel⟩⟩

theorem State.pointLive_of_recomputeFaults (n : Nat) : s.recomputeFaults.pointLive n = s.pointLive n := by
  have frame : ChangesOnly [.zones, .net] s s.recomputeFaults := State.recomputeFaults_blank (by decide) (by decide) s
  rw [State.pointLive, frame.points]; rfl

/-- What a change of the points of a panel, by a function of the point, makes of the points. -/
theorem State.pointLive_forEach_panelPoints (i : Nat) (f : State → Nat → State) (new : PointLive → PointLive)
    (reads : ∀ t, ∀ n, n < 128 → ∀ j, (f t n).pointLive j = if n = j then new (t.pointLive j) else t.pointLive j) (n : Nat) :
    (∀ c, s.point n = some c →
      (s.forEach (s.panelPoints i) f).pointLive n = if c.panel = i then new (s.pointLive n) else s.pointLive n) ∧
    (s.point n = none → (s.forEach (s.panelPoints i) f).pointLive n = s.pointLive n) := by
  have read := State.forEach_read (s := s) (is := s.panelPoints i) (f := f) (fun _ => True) State.pointLive (fun _ => new)
    trivial (fun _ _ _ _ => trivial)
    (fun t m mem _ j => reads t m (mem_indicesWhere.1 mem).1 j) (nodup_indicesWhere _ _) n
  rw [read]
  simp only [State.mem_panelPoints]
  constructor
  · intro c found
    simp [found]
  · intro free
    simp [free]

/-- The loss of a panel is told to its points (R60). -/
theorem State.panelLost_panelLoss (i : Nat) : s.PanelLost (s.panelLoss i) i := by
  have points : ChangesOnly [.points] s (s.forEach (s.panelPoints i) fun s n =>
      s.modPoint n fun _ => { state := .fault, source := some .link }) := State.forEach_blank _ _ _ (by simp)
  have read := s.pointLive_forEach_panelPoints i (fun s n => s.modPoint n fun _ => { state := .fault, source := some .link })
    (fun _ => { state := .fault, source := some .link }) fun t n inside j => by
      rw [State.pointLive_modPoint]
      by_cases same : n = j
      · subst same; rw [if_pos ⟨rfl, inside⟩, if_pos rfl]
      · rw [if_neg fun h => same h.1, if_neg same]
  refine ⟨fun n c found => ?_, fun n free => ?_, State.faultsFollow_recomputeFaults points.zones.symm points.tables.symm,
    State.panelLoss_blank (by decide) (by decide) (by decide) s i⟩
  · exact (State.pointLive_of_recomputeFaults _ n).trans ((read n).1 c found)
  · exact (State.pointLive_of_recomputeFaults _ n).trans ((read n).2 free)

/-- The regain of a panel is told to its points (R60). -/
theorem State.panelRegained_panelRegain (i : Nat) : s.PanelRegained (s.panelRegain i) i := by
  have points : ChangesOnly [.points] s (s.forEach (s.panelPoints i) fun s n =>
      if (s.pointLive n).source = some .link then s.modPoint n fun _ => {} else s) := State.forEach_blank _ _ _ (by simp)
  have read := s.pointLive_forEach_panelPoints i
    (fun s n => if (s.pointLive n).source = some .link then s.modPoint n fun _ => {} else s)
    (fun x => if x.source = some .link then {} else x) fun t n inside j => by
      by_cases same : n = j
      · subst same
        rw [if_pos rfl]
        split
        · rw [State.pointLive_modPoint, if_pos ⟨rfl, inside⟩]
        · rfl
      · rw [if_neg same]
        split
        · rw [State.pointLive_modPoint, if_neg fun h => same h.1]
        · rfl
  refine ⟨fun n c found => ?_, fun n free => ?_, State.faultsFollow_recomputeFaults points.zones.symm points.tables.symm,
    State.panelRegain_blank (by decide) (by decide) (by decide) s i⟩
  · refine (State.pointLive_of_recomputeFaults _ n).trans (((read n).1 c found).trans ?_)
    rw [← ite_and]
  · exact (State.pointLive_of_recomputeFaults _ n).trans ((read n).2 free)

end

end Sys2Proof.Machine
end

section
/-! Frames sent to a station (R165, R172), and the loss and the regain of a sounder (R130). -/

namespace Sys2Proof.Machine

/-! ### Frames that join a transmit queue (R172) -/

theorem Port.waiting_pick (p : Port) (q : QueueClass) : p.pick.waiting q = p.waiting q := by
  unfold Port.pick
  (repeat' split) <;> cases q <;> rfl

theorem Port.state_pick (p : Port) : p.pick.state = p.state := by
  unfold Port.pick
  (repeat' split) <;> rfl

/-- A frame that a port takes in a class other than STREAM joins the tail of that queue (R172). -/
theorem Port.waiting_offer {p : Port} {q : QueueClass} (f : TxFrame) (notStream : q ≠ .stream) (takes : p.accepts q = true) :
    (p.offer q f).waiting q = p.waiting q ++ [f] := by
  unfold Port.accepts at takes
  rw [Bool.and_eq_true, decide_eq_true_eq] at takes
  obtain ⟨line, room⟩ := takes
  cases q with
  | stream => exact absurd rfl notStream
  | safety =>
    have offered : p.offer .safety f = Port.pick { p with safety := p.safety ++ [f] } := by
      unfold Port.offer
      rcases line with line | line <;> simp only [line, if_pos (of_decide_eq_true room)]
    rw [offered, Port.waiting_pick]; rfl
  | normal =>
    have offered : p.offer .normal f = Port.pick { p with normal := p.normal ++ [f] } := by
      unfold Port.offer
      rcases line with line | line <;> simp only [line, if_pos (of_decide_eq_true room)]
    rw [offered, Port.waiting_pick]; rfl

/-- An offer to a queue other than STREAM takes nothing out of it (R172). -/
theorem Port.waiting_offer_append (p : Port) (q : QueueClass) (f : TxFrame) (notStream : q ≠ .stream) :
    ∃ later, (p.offer q f).waiting q = p.waiting q ++ later := by
  have same : ∃ later, p.waiting q = p.waiting q ++ later := ⟨[], (List.append_nil _).symm⟩
  unfold Port.offer
  split
  · cases q <;> exact same
  · cases q <;> exact same
  all_goals
    cases q with
    | stream => exact absurd rfl notStream
    | safety | normal =>
      dsimp only
      split
      · exact ⟨[f], Port.waiting_pick _ _⟩
      · exact same

/-- An offer in the STREAM class leaves the other queues, and whether they take a frame (R172). -/
theorem Port.offer_stream_leaves (p : Port) (f : TxFrame) {q : QueueClass} (notStream : q ≠ .stream) :
    (p.offer .stream f).waiting q = p.waiting q ∧ (p.offer .stream f).accepts q = p.accepts q := by
  have picked : ∀ x : Port, x.pick.accepts q = x.accepts q := by
    intro x
    have safety : x.pick.safety = x.safety := x.waiting_pick .safety
    have normal : x.pick.normal = x.normal := x.waiting_pick .normal
    unfold Port.accepts
    rw [x.state_pick, safety, normal]
  have safe : ∀ x : Port, x.state = p.state → x.safety = p.safety → x.normal = p.normal →
      x.waiting q = p.waiting q ∧ x.accepts q = p.accepts q := by
    intro x state safety normal
    unfold Port.waiting Port.accepts
    rw [state, safety, normal]
    cases q with
    | stream => exact absurd rfl notStream
    | safety | normal => exact ⟨rfl, rfl⟩
  have taken : ∀ x : Port, x.state = p.state → x.safety = p.safety → x.normal = p.normal →
      x.pick.waiting q = p.waiting q ∧ x.pick.accepts q = p.accepts q := fun x state safety normal => by
    rw [Port.waiting_pick, picked]
    exact safe x state safety normal
  unfold Port.offer
  dsimp only
  split
  · exact safe _ rfl rfl rfl
  · exact safe _ rfl rfl rfl
  all_goals
    split
    · exact taken _ rfl rfl rfl
    · exact taken _ rfl rfl rfl

section
variable {s t u : State}

theorem State.port_offer (s : State) (p : Nat) (c : QueueClass) (f : TxFrame) {q : Nat} (line : q < 4) :
    (s.offer p c f).port q = if p = q then (s.port q).offer c f else s.port q := by
  have changed : (s.modPort p fun x => x.offer c f).port q = if p = q then (s.port q).offer c f else s.port q := by
    unfold State.port State.modPort
    dsimp only
    rw [Tab.getD_modify]
    by_cases same : p = q
    · rw [if_pos ⟨same, by omega⟩, if_pos same]
    · rw [if_neg fun h => same h.1, if_neg same]
  unfold State.offer
  dsimp only
  split
  · rw [State.notify_port _ _ line]; exact changed
  · exact changed

/-- A frame is sent from a state whose queues read as an earlier one's, so it is sent from the earlier one too. -/
theorem State.Sent.of_queues {i : Nat} {q : QueueClass} {kind : Byte} {bytes : List Byte} (sent : u.Sent t i q kind bytes)
    (tables : u.tables = s.tables)
    (same : ∀ p < 4, (u.port p).waiting q = (s.port p).waiting q ∧ (u.port p).accepts q = (s.port p).accepts q) :
    s.Sent t i q kind bytes := by
  intro x found line takes
  obtain ⟨waits, accepts⟩ := same x.homePort line
  obtain ⟨later, queued⟩ := sent x (by rw [State.station, tables]; exact found) line (accepts.trans takes)
  refine ⟨later, ?_⟩
  rw [queued, waits, State.globals, tables]
  rfl

/-- A frame that has been sent stays sent while frames only join its queue. -/
theorem State.Sent.later {i : Nat} {q : QueueClass} {kind : Byte} {bytes : List Byte} (sent : s.Sent t i q kind bytes)
    (grows : ∀ p < 4, ∃ later, (u.port p).waiting q = (t.port p).waiting q ++ later) : s.Sent u i q kind bytes := by
  intro x found line takes
  obtain ⟨behind, queued⟩ := sent x found line takes
  obtain ⟨later, more⟩ := grows x.homePort line
  exact ⟨behind ++ later, by rw [more, queued, List.append_assoc, List.cons_append]⟩

/-- A frame of the part to a station record joins its home port's queue (R165, R172). -/
theorem State.sent_sendTo (s : State) (i : Nat) {q : QueueClass} (kind : Byte) (bytes : List Byte) (notStream : q ≠ .stream) :
    s.Sent (s.sendTo i q kind bytes) i q kind bytes := by
  intro x found line takes
  refine ⟨[], ?_⟩
  unfold State.sendTo
  rw [found]
  dsimp only
  rw [State.port_offer _ _ _ _ line, if_pos rfl]
  exact Port.waiting_offer _ notStream takes

theorem State.sendTo_grows (s : State) (i : Nat) {q : QueueClass} (kind : Byte) (bytes : List Byte) (notStream : q ≠ .stream)
    {p : Nat} (line : p < 4) : ∃ later, ((s.sendTo i q kind bytes).port p).waiting q = (s.port p).waiting q ++ later := by
  unfold State.sendTo
  split
  · exact ⟨[], (List.append_nil _).symm⟩
  · rw [State.port_offer _ _ _ _ line]
    split
    · exact Port.waiting_offer_append _ _ _ notStream
    · exact ⟨[], (List.append_nil _).symm⟩

theorem State.sendTo_changes (s : State) (i : Nat) (q : QueueClass) (kind : Byte) (bytes : List Byte) (report : Report) :
    ChangesOnly [.net] s (s.sendTo i q kind bytes report) := State.sendTo_blank (by decide) s i q kind bytes report

end

/-! ### TOLL frames (R118) -/

section
variable (s : State)

theorem State.toll_of_present {i : Nat} (present : s.isPresent i = true) (t : Toll) (report : Report) :
    s.toll i t report = (s.modArbiter i fun a => { a with lastSent := some t }).sendTo i
      (t.queueClass ((s.arbiter i).bind Arbiter.lastSent)) Kind.toll t.payload report := by
  unfold State.toll
  rw [if_pos present]

theorem State.toll_of_absent {i : Nat} (absent : s.isPresent i = false) (t : Toll) (report : Report) :
    s.toll i t report = s := by
  unfold State.toll
  rw [if_neg (by rw [absent]; decide)]

theorem State.arbiter_sendTo (i : Nat) (q : QueueClass) (kind : Byte) (bytes : List Byte) (report : Report) (j : Nat) :
    (s.sendTo i q kind bytes report).arbiter j = s.arbiter j := by
  have frame := s.sendTo_changes i q kind bytes report
  unfold State.arbiter
  rw [frame.arbiters]

/-- A TOLL frame is recorded as the last one sent, and changes no other arbiter (R118). -/
theorem State.arbiter_toll (i : Nat) (t : Toll) (report : Report) (j : Nat) :
    (s.toll i t report).arbiter j =
      if i = j ∧ s.isPresent i = true then (s.arbiter j).map fun a => { a with lastSent := some t } else s.arbiter j := by
  cases present : s.isPresent i with
  | false => rw [s.toll_of_absent present, if_neg (by simp)]
  | true =>
    rw [s.toll_of_present present, State.arbiter_sendTo, State.arbiter_modArbiter]
    by_cases same : i = j
    · rw [if_pos same, if_pos ⟨same, rfl⟩]
    · rw [if_neg same, if_neg fun h => same h.1]

/-! ### Loss and regain (R130) -/

/-- The loss of a sounder is told to its arbiter (R130). -/
theorem State.sounderLost_sounderLoss (i : Nat) : s.SounderLost (s.sounderLoss i) i := by
  refine ⟨?_, fun j other => ?_, by unfold State.sounderLoss; exact State.modArbiter_blank (by decide) s i _⟩
  · rw [State.sounderLoss, State.arbiter_modArbiter, if_pos rfl]
  · rw [State.sounderLoss, State.arbiter_modArbiter, if_neg (Ne.symm other)]

/-- The TOLL frame that brings a regained sounder into line is sent in its class (R118, R130). -/
theorem Toll.queueClass_regain {x : Toll} (last : Option Toll) (line : x = .continuous ∨ x = .stop) :
    x.queueClass last = if x = .continuous ∨ last = some .continuous then .safety else .normal := by
  rcases line with rfl | rfl
  · simp [Toll.queueClass]
  · simp [Toll.queueClass]

theorem State.sounderRegain_of_arbiter {i : Nat} {a : Arbiter} (here : s.arbiter i = some a) :
    s.sounderRegain i = s.toll i (if a.service = .evacuating then .continuous else .stop) := by
  unfold State.sounderRegain
  rw [here]

theorem State.sounderRegain_of_none {i : Nat} (none : s.arbiter i = none) : s.sounderRegain i = s := by
  unfold State.sounderRegain
  rw [none]

/-- The regain of a sounder is told to its arbiter (R118, R130). -/
theorem State.sounderRegained_sounderRegain {i : Nat} (present : s.isPresent i = true) : s.SounderRegained (s.sounderRegain i) i := by
  refine ⟨fun a x here line => ?_, fun j other => ?_, State.sounderRegain_blank (by decide) (by decide) s i⟩
  · have kind : x = .continuous ∨ x = .stop := by rw [line]; split <;> simp
    rw [s.sounderRegain_of_arbiter here, ← line]
    refine ⟨by rw [State.arbiter_toll, if_pos ⟨rfl, present⟩, here]; rfl, ?_⟩
    rw [s.toll_of_present present, here, Option.bind_some, Toll.queueClass_regain _ kind]
    have notStream : (if x = .continuous ∨ a.lastSent = some .continuous then QueueClass.safety else .normal) ≠ .stream := by
      split <;> decide
    exact (State.sent_sendTo _ i _ _ notStream).of_queues rfl fun p _ => ⟨rfl, rfl⟩
  · cases here : s.arbiter i with
    | none => rw [s.sounderRegain_of_none here]
    | some a =>
      have apart : i ≠ j := by
        rintro rfl
        rcases other with h | h
        · exact h rfl
        · rw [here] at h; exact absurd h (by simp)
      rw [s.sounderRegain_of_arbiter here, State.arbiter_toll, if_neg fun h => apart h.1]

end

end Sys2Proof.Machine
end

section
/-! Boarding lamps recomputed (R33), and the loss and the regain of a landing station (R26, R33). -/

namespace Sys2Proof.Machine

variable {s t : State}

/-! ### What a lamp reads (R33) -/

/-- A shaft with the same core reads the same but for its landings. -/
theorem Shaft.eq_of_core {x y : Shaft} (same : x.core = y.core) : x = { y with landings := x.landings } := by
  have taken := congrArg (fun z : Shaft => { z with landings := x.landings }) same
  exact taken

/-- The presence of a station is read from the tables and its record. -/
theorem State.isPresent_congr (tables : t.tables = s.tables) (stations : t.stations = s.stations) : t.isPresent = s.isPresent := by
  have record : t.station = s.station := by unfold State.station; rw [tables]
  have live : t.stationLive = s.stationLive := by unfold State.stationLive; rw [stations]
  unfold State.isPresent
  rw [record, live]

theorem State.shaft_state_of_cores (same : t.cores = s.cores) (k : Nat) : (t.shaft k).state = (s.shaft k).state := by
  rw [Shaft.eq_of_core (State.core_shaft same k)]

theorem State.shaft_degraded_of_cores (same : t.cores = s.cores) (k : Nat) : (t.shaft k).degraded = (s.shaft k).degraded := by
  rw [Shaft.eq_of_core (State.core_shaft same k)]

/-- A lamp depends on the tables, the presence of the stations, the zones, the store mode, the shafts less their landings, and
the states and the COMMS faults of the shutters (R33). -/
theorem State.lampOf_congr {F : List Field} (kept : ChangesOnly F s t) (cores : t.cores = s.cores)
    (shutters : ∀ n, (t.shutterLive n).state = (s.shutterLive n).state ∧
      (t.shutterLive n).faults.comms = (s.shutterLive n).faults.comms)
    (sub : Field.tables ∉ F ∧ Field.stations ∉ F ∧ Field.zones ∉ F ∧ Field.day ∉ F := by decide) :
    t.lampOf = s.lampOf := by
  obtain ⟨noTables, noStations, noZones, noDay⟩ := sub
  have tables := kept.tables noTables
  have named : t.landingShutter = s.landingShutter := by
    funext k l; simp only [State.landingShutter, State.shutter, tables]
  have station : t.landingStation = s.landingStation := by funext k l; simp only [State.landingStation, State.sills, tables]
  have zone : t.landingZone = s.landingZone := by funext k l; simp only [State.landingZone, named, State.shutter, tables]
  have present : t.isPresent = s.isPresent := State.isPresent_congr tables (kept.stations noStations)
  have zones : t.zone = s.zone := by funext z; rw [State.zone, kept.zones noZones]; rfl
  have warned : (fun i => decide ((t.shutterLive i).state = .warning)) = fun i => decide ((s.shutterLive i).state = .warning) := by
    funext i; rw [(shutters i).1]
  have bars : t.shutterBars = s.shutterBars := by
    funext k l
    have read : (fun i => decide ((t.shutterLive i).state ≠ .open) || (t.shutterLive i).faults.comms) =
        fun i => decide ((s.shutterLive i).state ≠ .open) || (s.shutterLive i).faults.comms := by
      funext i; rw [(shutters i).1, (shutters i).2]
    rw [State.shutterBars, read, named]; rfl
  funext k l
  unfold State.lampOf
  rw [named, warned, State.shaft_state_of_cores cores, State.shaft_degraded_of_cores cores, station, present, bars, zone, zones,
    kept.day noDay]

/-! ### A lamp recomputed (R33) -/

/-- What a shaft keeps for a landing once its lamp is recomputed: a changed lamp is sent to a PRESENT station (R33). -/
def State.relit (s : State) (k l : Nat) (x : LandingLive) : LandingLive :=
  if x.lamp = s.lampOf k l then x
  else { x with
    lamp := s.lampOf k l
    refresh := if (s.landingStation k l).any s.isPresent then some (s.now + 5000000) else x.refresh }

theorem State.relit_lamp (k l : Nat) (x : LandingLive) : (s.relit k l x).lamp = s.lampOf k l := by
  unfold State.relit
  split
  · assumption
  · rfl

theorem State.landingLive_of_shafts (same : t.shafts = s.shafts) (k l : Nat) : t.landingLive k l = s.landingLive k l := by
  rw [State.landingLive, State.shaft, same]; rfl

theorem State.sendLamp_changes (s : State) (k l : Nat) : ChangesOnly [.shafts, .net] s (s.sendLamp k l) :=
  State.sendLamp_blank (by decide) (by decide) s k l

theorem State.landingLive_sendLamp {k l : Nat} (shaft : k < 2) (landing : l < 12) (j : Nat) :
    (s.sendLamp k l).landingLive k j =
      if l = j ∧ (s.landingStation k l).any s.isPresent = true then
        { s.landingLive k j with refresh := some (s.now + 5000000) }
      else s.landingLive k j := by
  unfold State.sendLamp
  cases named : s.landingStation k l with
  | none => rw [if_neg (by simp)]
  | some i =>
    rw [Option.any_some]
    dsimp only
    cases here : s.isPresent i with
    | false => rw [if_neg (by decide), if_neg (by simp)]
    | true =>
      rw [if_pos rfl, State.landingLive_of_shafts (ChangesOnly.shafts (State.sendTo_changes _ _ _ _ _ _)),
        State.landingLive_modLanding]
      by_cases same : l = j
      · rw [if_pos ⟨⟨rfl, shaft⟩, same, same ▸ landing⟩, if_pos ⟨same, rfl⟩]; rfl
      · rw [if_neg fun h => same h.2.1, if_neg fun h => same h.1]

theorem State.landingLive_recomputeLamp {k l : Nat} (shaft : k < 2) (landing : l < 12) (j : Nat) :
    (s.recomputeLamp k l).landingLive k j = if l = j then s.relit k j (s.landingLive k j) else s.landingLive k j := by
  unfold State.recomputeLamp
  dsimp only
  split
  next kept =>
    by_cases same : l = j
    · subst same; rw [if_pos rfl, State.relit, if_pos kept]
    · rw [if_neg same]
  next changed =>
    rw [State.landingLive_sendLamp shaft landing, State.landingLive_modLanding]
    by_cases same : l = j
    · subst same
      rw [if_pos (⟨⟨rfl, shaft⟩, rfl, landing⟩ : (k = k ∧ k < 2) ∧ l = l ∧ l < 12), if_pos rfl, State.relit, if_neg changed]
      by_cases here : (s.landingStation k l).any s.isPresent = true
      · rw [if_pos here, if_pos ⟨rfl, here⟩]; rfl
      · rw [if_neg here, if_neg fun h => here h.2]
    · rw [if_neg fun h => same h.1, if_neg fun h => same h.2.1, if_neg same]

theorem State.recomputeLamp_changes (s : State) (k l : Nat) : ChangesOnly [.shafts, .net] s (s.recomputeLamp k l) :=
  State.recomputeLamp_blank (by decide) (by decide) s k l

theorem State.recomputeLamps_changes (s : State) (k : Nat) : ChangesOnly [.shafts, .net] s (s.recomputeLamps k) :=
  State.recomputeLamps_blank (by decide) (by decide) s k

/-- A step that redraws lamps changes no lamp that is to be shown. -/
theorem State.lampOf_of_redraw (kept : ChangesOnly [.shafts, .net] s t) (cores : t.cores = s.cores) : t.lampOf = s.lampOf :=
  State.lampOf_congr kept cores fun n => by rw [State.shutterLive, kept.shutters]; exact ⟨rfl, rfl⟩

theorem State.relit_of_redraw (kept : ChangesOnly [.shafts, .net] s t) (cores : t.cores = s.cores) : t.relit = s.relit := by
  have present : t.isPresent = s.isPresent := State.isPresent_congr kept.tables kept.stations
  have station : t.landingStation = s.landingStation := by
    funext k l; simp only [State.landingStation, State.sills, kept.tables]
  funext k l x
  unfold State.relit
  rw [State.lampOf_of_redraw kept cores, present, station, kept.now]

/-- The lamps of an enabled shaft recomputed: each landing's is redrawn (R17, R33). -/
theorem State.landingLive_recomputeLamps {k : Nat} (shaft : k < 2) (enabled : s.shaftEnabled k = true) {l : Nat}
    (landing : l ∈ s.landings k) : (s.recomputeLamps k).landingLive k l = s.relit k l (s.landingLive k l) := by
  have read := State.forEach_read (s := s) (is := s.landings k) (f := fun s l => s.recomputeLamp k l)
    (fun u => ChangesOnly [.shafts, .net] s u ∧ u.cores = s.cores) (fun u l => u.landingLive k l) (fun l => s.relit k l)
    ⟨.refl s, rfl⟩
    (fun u l _ ⟨kept, cores⟩ => ⟨kept.trans (u.recomputeLamp_changes k l), (State.recomputeLamp_cores u k l).trans cores⟩)
    (fun u l mem ⟨kept, cores⟩ j => by
      rw [State.landingLive_recomputeLamp shaft (mem_indicesWhere.1 mem).1, State.relit_of_redraw kept cores])
    (nodup_indicesWhere _ _) l
  rw [if_pos landing] at read
  unfold State.recomputeLamps
  rw [if_pos enabled]
  exact read

theorem State.keepsFlags_modLanding (s : State) (k l : Nat) (f : LandingLive → LandingLive) : s.KeepsFlags (s.modLanding k l f) :=
  State.keepsFlags_of_net (by unfold State.modLanding; rw [State.modShaft_net])

theorem State.keepsFlags_sendLamp (s : State) (k l : Nat) : s.KeepsFlags (s.sendLamp k l) := by
  unfold State.sendLamp
  split
  · exact .refl s
  · exact State.keepsFlags_ite ((s.keepsFlags_modLanding k l _).trans (State.keepsFlags_sendTo _ _ _ _ _ _)) (.refl s)

theorem State.keepsFlags_recomputeLamps (s : State) (k : Nat) : s.KeepsFlags (s.recomputeLamps k) := by
  unfold State.recomputeLamps
  refine State.keepsFlags_ite (State.keepsFlags_forEach fun t l => ?_) (.refl s)
  unfold State.recomputeLamp
  exact State.keepsFlags_ite (.refl t) ((t.keepsFlags_modLanding k l _).trans (State.keepsFlags_sendLamp _ _ _))

/-! ### DEGRADED (R26) -/

/-- DEGRADED evaluated, before the lamps are redrawn (R26). -/
def State.degrade (s : State) (k : Nat) : State :=
  if (s.shaft k).state = .running ∨ (s.shaft k).state = .lastRun then
    (s.setDegraded k (s.landingSilent k)).modShaft k fun x => { x with creep := s.landingSilent k }
  else s

theorem State.evaluateDegraded_eq (s : State) (k : Nat) : s.evaluateDegraded k =
    if (s.shaft k).state = .running ∨ (s.shaft k).state = .lastRun then (s.degrade k).recomputeLamps k else s.degrade k := by
  unfold State.evaluateDegraded State.degrade
  dsimp only
  split <;> rfl

theorem State.setDegraded_changes (s : State) (k : Nat) (on : Bool) : ChangesOnly [.shafts, .net] s (s.setDegraded k on) :=
  State.setDegraded_blank (by decide) (by decide) s k on

theorem State.shaft_setDegraded (s : State) {k : Nat} (shaft : k < 2) (on : Bool) (j : Nat) :
    (s.setDegraded k on).shaft j = if k = j then { s.shaft j with degraded := on } else s.shaft j := by
  unfold State.setDegraded
  split
  next kept =>
    by_cases same : k = j
    · subst same; rw [if_pos rfl, ← kept]
    · rw [if_neg same]
  next =>
    show (s.modShaft k fun x => { x with degraded := on }).shaft j = _
    rw [State.shaft_modShaft]
    by_cases same : k = j
    · subst same; rw [if_pos ⟨rfl, shaft⟩, if_pos rfl]
    · rw [if_neg fun h => same h.1, if_neg same]

/-- DEGRADED that changes sets the flag of SHAFT_DEGRADED (R26). -/
theorem State.setDegraded_flag (s : State) (k : Nat) (on : Bool) (changed : (s.shaft k).degraded ≠ on) :
    (s.setDegraded k on).net.mgmt.sticky.getLsbD 11 = true := by
  unfold State.setDegraded
  rw [if_neg changed, State.getLsbD_notify]
  exact Bool.or_true _

section
variable (s) {k : Nat}

theorem State.degrade_changes (k : Nat) : ChangesOnly [.shafts, .net] s (s.degrade k) := by
  unfold State.degrade
  split
  · exact (s.setDegraded_changes k _).trans (State.modShaft_blank (by decide) _ _ _)
  · exact .refl s

/-- DEGRADED and CREEP follow the landing stations in RUNNING and LAST_RUN, and nothing else changes (R26). -/
theorem State.shaft_degrade (shaft : k < 2) (j : Nat) :
    (s.degrade k).shaft j =
      if k = j ∧ ((s.shaft k).state = .running ∨ (s.shaft k).state = .lastRun) then
        { s.shaft j with degraded := s.landingSilent k, creep := s.landingSilent k }
      else s.shaft j := by
  unfold State.degrade
  by_cases service : (s.shaft k).state = .running ∨ (s.shaft k).state = .lastRun
  · rw [if_pos service, State.shaft_modShaft, State.shaft_setDegraded s shaft]
    by_cases same : k = j
    · subst same; rw [if_pos rfl, if_pos ⟨rfl, shaft⟩, if_pos ⟨rfl, service⟩]
    · rw [if_neg same, if_neg fun h => same h.1, if_neg fun h => same h.1]
  · rw [if_neg service, if_neg fun h => service h.2]

theorem State.degrade_flag (shaft : k < 2) (changed : ((s.degrade k).shaft k).degraded ≠ (s.shaft k).degraded) :
    (s.degrade k).net.mgmt.sticky.getLsbD 11 = true := by
  rw [s.shaft_degrade shaft] at changed
  by_cases service : (s.shaft k).state = .running ∨ (s.shaft k).state = .lastRun
  · rw [if_pos ⟨rfl, service⟩] at changed
    unfold State.degrade
    rw [if_pos service]
    exact s.setDegraded_flag k _ (Ne.symm changed)
  · rw [if_neg fun h => service h.2] at changed
    exact absurd rfl changed

theorem State.landingLive_degrade (shaft : k < 2) (l : Nat) : (s.degrade k).landingLive k l = s.landingLive k l := by
  rw [State.landingLive, s.shaft_degrade shaft, State.landingLive]
  split <;> rfl

theorem State.landingSilent_of_redraw (kept : ChangesOnly [.shafts, .net] s t) : t.landingSilent = s.landingSilent := by
  have present : t.isPresent = s.isPresent := State.isPresent_congr kept.tables kept.stations
  have station : t.landingStation = s.landingStation := by
    funext k l; simp only [State.landingStation, State.sills, kept.tables]
  funext k
  unfold State.landingSilent State.landings
  rw [station, present]

/-! ### Landing stations (R26, R33) -/

/-- DEGRADED evaluated and the lamps of the shaft recomputed: the lamps are redrawn once (R26, R33). -/
theorem State.degraded_redrawn (k : Nat) :
    ChangesOnly [.shafts, .net] (s.degrade k) ((s.evaluateDegraded k).recomputeLamps k) ∧
    ((s.evaluateDegraded k).recomputeLamps k).cores = (s.degrade k).cores ∧
    (s.degrade k).KeepsFlags ((s.evaluateDegraded k).recomputeLamps k) := by
  rw [s.evaluateDegraded_eq]
  split
  · exact ⟨((s.degrade k).recomputeLamps_changes k).trans (State.recomputeLamps_changes _ k),
      (State.recomputeLamps_cores _ k).trans (State.recomputeLamps_cores _ k),
      ((s.degrade k).keepsFlags_recomputeLamps k).trans (State.keepsFlags_recomputeLamps _ k)⟩
  · exact ⟨State.recomputeLamps_changes _ k, State.recomputeLamps_cores _ k, State.keepsFlags_recomputeLamps _ k⟩

theorem State.landingLive_degraded (shaft : k < 2) (enabled : s.shaftEnabled k = true) {l : Nat} (landing : l ∈ s.landings k) :
    ((s.evaluateDegraded k).recomputeLamps k).landingLive k l = (s.degrade k).relit k l (s.landingLive k l) := by
  have frame := s.degrade_changes k
  have enabled' : (s.degrade k).shaftEnabled k = true := by
    rw [State.shaftEnabled, State.geometry, frame.tables]; exact enabled
  have landing' : l ∈ (s.degrade k).landings k := by
    rw [State.landings, funext (f := (s.degrade k).landingStation k) (g := s.landingStation k) fun l => by
      simp only [State.landingStation, State.sills, frame.tables]]
    exact landing
  have first := State.landingLive_recomputeLamps shaft enabled' landing'
  rw [s.landingLive_degrade shaft] at first
  rw [s.evaluateDegraded_eq]
  split
  · have again := (s.degrade k).recomputeLamps_changes k
    have cores := State.recomputeLamps_cores (s.degrade k) k
    have enabled'' : ((s.degrade k).recomputeLamps k).shaftEnabled k = true := by
      rw [State.shaftEnabled, State.geometry, again.tables]; exact enabled'
    have landing'' : l ∈ ((s.degrade k).recomputeLamps k).landings k := by
      rw [State.landings, funext (f := ((s.degrade k).recomputeLamps k).landingStation k)
        (g := (s.degrade k).landingStation k) fun l => by simp only [State.landingStation, State.sills, again.tables]]
      exact landing'
    rw [State.landingLive_recomputeLamps shaft enabled'' landing'', State.relit_of_redraw again cores, first]
    exact if_pos (State.relit_lamp _ _ _)
  · exact first

theorem State.landingOf_shaft {i k l : Nat} (here : s.landingOf i = some (k, l)) : k < 2 := by
  unfold State.landingOf at here
  obtain ⟨j, mem, found⟩ := List.exists_of_findSome?_eq_some here
  obtain ⟨x, -, same⟩ := Option.map_eq_some_iff.1 found
  have shaft : j = k := congrArg Prod.fst same
  subst shaft
  simp only [List.mem_cons, List.not_mem_nil, or_false] at mem
  omega

theorem State.mem_landings {k l i : Nat} (landing : l < 12) (named : s.landingStation k l = some i) : l ∈ s.landings k :=
  mem_indicesWhere.2 ⟨landing, by rw [named]; rfl⟩

theorem State.landingSilent_of_absent {l i : Nat} (landing : l < 12) (named : s.landingStation k l = some i)
    (absent : s.isPresent i = false) : s.landingSilent k = true := by
  refine List.any_eq_true.2 ⟨l, s.mem_landings landing named, ?_⟩
  rw [named, Option.any_some, absent]; rfl

/-- A landing whose station is not PRESENT shows no boarding: its lamp is FLASH in WARNING and NO_BOARD else (R33). -/
theorem State.lampOf_of_absent {l i : Nat} (named : s.landingStation k l = some i) (absent : s.isPresent i = false) :
    s.lampOf k l = if (s.landingShutter k l).any fun n => decide ((s.shutterLive n).state = .warning) then .flash
      else .noBoard := by
  unfold State.lampOf
  rw [named, Option.any_some, absent]
  split
  · rfl
  · simp only [Bool.not_false, if_true, ite_self]

/-- The cores of the shafts after a landing station has changed (R26). -/
theorem State.core_degraded (shaft : k < 2) :
    (∀ j, j ≠ k → ((s.degrade k).shaft j).core = (s.shaft j).core) ∧
    ((s.degrade k).shaft k).core =
      { (s.shaft k).core with degraded := ((s.degrade k).shaft k).degraded, creep := ((s.degrade k).shaft k).creep } ∧
    ((s.shaft k).state ∈ [ShaftState.running, .lastRun] →
      ((s.degrade k).shaft k).degraded = s.landingSilent k ∧ ((s.degrade k).shaft k).creep = s.landingSilent k) ∧
    ((s.shaft k).state ∉ [ShaftState.running, .lastRun] → ((s.degrade k).shaft k).core = (s.shaft k).core) := by
  simp only [List.mem_cons, List.not_mem_nil, or_false]
  refine ⟨fun j other => ?_, ?_, fun service => ?_, fun rest => ?_⟩
  · rw [s.shaft_degrade shaft, if_neg fun h => other h.1.symm]
  · rw [s.shaft_degrade shaft]
    split <;> rfl
  · rw [s.shaft_degrade shaft, if_pos ⟨rfl, service⟩]
    exact ⟨rfl, rfl⟩
  · rw [s.shaft_degrade shaft, if_neg fun h => rest h.2]

end

end Sys2Proof.Machine
end

section
/-! The loss and the regain of a landing station (R26, R33) and of a shutter's drive (R94), told to their jobs. -/

namespace Sys2Proof.Machine

section
variable (s : State) {t : State} {i : Nat}

/-! ### Landing stations (R26, R33) -/

theorem State.landingStationChanged_of_none (none : s.landingOf i = none) (regain : Bool) : s.landingStationChanged i regain = s := by
  unfold State.landingStationChanged
  rw [none]

theorem State.landingStationChanged_of_disabled {k l : Nat} (here : s.landingOf i = some (k, l))
    (disabled : s.shaftEnabled k = false) (regain : Bool) : s.landingStationChanged i regain = s := by
  unfold State.landingStationChanged
  rw [here]
  dsimp only
  rw [if_neg (by rw [disabled]; decide)]

theorem State.landingStationChanged_of_enabled {k l : Nat} (here : s.landingOf i = some (k, l))
    (enabled : s.shaftEnabled k = true) (regain : Bool) :
    s.landingStationChanged i regain =
      if regain && decide ((((s.evaluateDegraded k).recomputeLamps k).landingLive k l).lamp = (s.landingLive k l).lamp) then
        ((s.evaluateDegraded k).recomputeLamps k).sendLamp k l
      else (s.evaluateDegraded k).recomputeLamps k := by
  unfold State.landingStationChanged
  rw [here]
  dsimp only
  rw [if_pos enabled]

/-- What a step that evaluates DEGRADED of a shaft and redraws its lamps makes of the shafts (R26). -/
structure State.Degraded (s t : State) (k : Nat) : Prop where
  frame : ChangesOnly [.shafts, .net] (s.degrade k) t
  cores : t.cores = (s.degrade k).cores
  flags : (s.degrade k).KeepsFlags t

theorem State.degraded_landingStationChanged {k l : Nat} (here : s.landingOf i = some (k, l)) (enabled : s.shaftEnabled k = true)
    (regain : Bool) : s.Degraded (s.landingStationChanged i regain) k := by
  obtain ⟨frame, cores, flags⟩ := s.degraded_redrawn k
  rw [s.landingStationChanged_of_enabled here enabled]
  split
  · exact ⟨frame.trans (State.sendLamp_changes _ k l), (State.sendLamp_cores _ k l).trans cores,
      flags.trans (State.keepsFlags_sendLamp _ k l)⟩
  · exact ⟨frame, cores, flags⟩

/-- DEGRADED and CREEP of one shaft follow its landing stations, and the cores of the shafts show no other change (R26). -/
theorem State.Degraded.told {k : Nat} (done : s.Degraded t k) (shaft : k < 2) :
    (∀ j, j ≠ k → (t.shaft j).core = (s.shaft j).core) ∧
    (t.shaft k).core = { (s.shaft k).core with degraded := (t.shaft k).degraded, creep := (t.shaft k).creep } ∧
    ((t.shaft k).degraded ≠ (s.shaft k).degraded → t.net.mgmt.sticky.getLsbD 11 = true) ∧
    ((s.shaft k).state ∈ [ShaftState.running, .lastRun] →
      (t.shaft k).degraded = s.landingSilent k ∧ (t.shaft k).creep = s.landingSilent k) ∧
    ((s.shaft k).state ∉ [ShaftState.running, .lastRun] → (t.shaft k).core = (s.shaft k).core) := by
  obtain ⟨others, core, service, rest⟩ := s.core_degraded shaft
  have same := State.core_shaft done.cores
  have degraded : (t.shaft k).degraded = ((s.degrade k).shaft k).degraded := by rw [Shaft.eq_of_core (same k)]
  have creep : (t.shaft k).creep = ((s.degrade k).shaft k).creep := by rw [Shaft.eq_of_core (same k)]
  rw [same, degraded, creep]
  exact ⟨fun j other => (same j).trans (others j other), core,
    fun changed => done.flags 11 (s.degrade_flag shaft changed), service, rest⟩

theorem State.Degraded.lampOf {k : Nat} (done : s.Degraded t k) : t.lampOf = (s.degrade k).lampOf :=
  State.lampOf_of_redraw done.frame done.cores

/-- The loss of a landing station is told to its shaft (R26, R33). -/
theorem State.landingStationLost_changed (absent : s.isPresent i = false) :
    s.LandingStationLost (s.landingStationChanged i false) i := by
  have whole : ChangesOnly [.stations, .shafts, .net, .exchange, .now] s (s.landingStationChanged i false) :=
    State.landingStationChanged_blank (by decide) (by decide) s i false
  refine ⟨fun k l here => ?_, fun none => by rw [s.landingStationChanged_of_none none]; exact .refl s, whole⟩
  have shaft := State.landingOf_shaft s here
  cases enabled : s.shaftEnabled k with
  | false =>
    rw [s.landingStationChanged_of_disabled here enabled]
    exact ⟨fun _ _ => rfl, rfl, fun changed => absurd rfl changed, fun _ _ on => absurd on (by decide)⟩
  | true =>
    obtain ⟨others, core, flag, service, rest⟩ :=
      (s.degraded_landingStationChanged here enabled false).told s shaft
    refine ⟨others, core, flag, fun _ landing _ named => ⟨fun running => ?_, rest, ?_⟩⟩
    · rw [(service running).1, (service running).2]
      exact ⟨s.landingSilent_of_absent landing named absent, s.landingSilent_of_absent landing named absent⟩
    · have frame := s.degrade_changes k
      have station : (s.degrade k).landingStation = s.landingStation := by
        funext k l; simp only [State.landingStation, State.sills, frame.tables]
      have present : (s.degrade k).isPresent = s.isPresent := State.isPresent_congr frame.tables frame.stations
      have named' : (s.degrade k).landingStation k l = some i := by rw [station, named]
      have absent' : (s.degrade k).isPresent i = false := by rw [present, absent]
      have shown : (s.degrade k).lampOf k l = if (s.landingShutter k l).any fun n =>
          decide ((s.shutterLive n).state = .warning) then .flash else .noBoard := by
        rw [State.lampOf_of_absent _ named' absent']
        have shutter : (s.degrade k).landingShutter = s.landingShutter := by
          funext k l; simp only [State.landingShutter, State.shutter, frame.tables]
        have live : (s.degrade k).shutterLive = s.shutterLive := by unfold State.shutterLive; rw [frame.shutters]
        rw [shutter, live]
      rw [s.landingStationChanged_of_enabled here enabled, Bool.false_and, if_neg (by decide),
        s.landingLive_degraded shaft enabled (s.mem_landings landing named), State.relit_lamp]
      refine ⟨?_, shown⟩
      unfold State.relit
      split
      · rfl
      · rw [named', Option.any_some, absent']
        rfl

/-- The regain of a landing station is told to its shaft, and its landing's lamp is sent (R26, R33). -/
theorem State.landingStationRegained_changed (present : s.isPresent i = true) :
    s.LandingStationRegained (s.landingStationChanged i true) i := by
  have whole : ChangesOnly [.stations, .shafts, .net, .exchange, .now] s (s.landingStationChanged i true) :=
    State.landingStationChanged_blank (by decide) (by decide) s i true
  refine ⟨fun k l here => ?_, fun none => by rw [s.landingStationChanged_of_none none]; exact .refl s, whole⟩
  have shaft := State.landingOf_shaft s here
  cases enabled : s.shaftEnabled k with
  | false =>
    rw [s.landingStationChanged_of_disabled here enabled]
    exact ⟨fun _ _ => rfl, rfl, fun changed => absurd rfl changed, fun _ _ on => absurd on (by decide)⟩
  | true =>
    have done := s.degraded_landingStationChanged here enabled true
    obtain ⟨others, core, flag, service, rest⟩ := done.told s shaft
    have frame := s.degrade_changes k
    have silent : (s.landingStationChanged i true).landingSilent = s.landingSilent :=
      (State.landingSilent_of_redraw _ done.frame).trans (State.landingSilent_of_redraw _ frame)
    have moment : (s.landingStationChanged i true).now = s.now := done.frame.now.trans frame.now
    refine ⟨others, core, flag, fun _ landing _ named => ⟨?_, rest, ?_⟩⟩
    · rw [silent]; exact service
    · have station : (s.degrade k).landingStation k l = some i := by
        rw [← named]; simp only [State.landingStation, State.sills, frame.tables]
      have here' : (s.degrade k).isPresent i = true := by
        rw [State.isPresent_congr frame.tables frame.stations, present]
      have redrawn := s.landingLive_degraded shaft enabled (s.mem_landings landing named)
      rw [done.lampOf, moment, s.landingStationChanged_of_enabled here enabled, Bool.true_and, redrawn]
      obtain ⟨after, -, -⟩ := s.degraded_redrawn k
      by_cases kept : (s.landingLive k l).lamp = (s.degrade k).lampOf k l
      · have resent : ((s.degrade k).relit k l (s.landingLive k l)).lamp = (s.landingLive k l).lamp := by
          rw [State.relit_lamp, kept]
        have sent : (((s.evaluateDegraded k).recomputeLamps k).landingStation k l).any
            ((s.evaluateDegraded k).recomputeLamps k).isPresent = true := by
          rw [State.isPresent_congr after.tables after.stations]
          have same : ((s.evaluateDegraded k).recomputeLamps k).landingStation k l = some i := by
            rw [← station]; simp only [State.landingStation, State.sills, after.tables]
          rw [same]; exact here'
        rw [if_pos (decide_eq_true resent), State.landingLive_sendLamp shaft landing, if_pos ⟨rfl, sent⟩, after.now, frame.now,
          redrawn]
        exact ⟨rfl, State.relit_lamp _ _ _⟩
      · have changed : ((s.degrade k).relit k l (s.landingLive k l)).lamp ≠ (s.landingLive k l).lamp := by
          rw [State.relit_lamp]; exact Ne.symm kept
        rw [if_neg (by rw [decide_eq_false changed]; decide), redrawn]
        refine ⟨?_, State.relit_lamp _ _ _⟩
        rw [State.relit, if_neg kept, station, Option.any_some, here', if_pos rfl, frame.now]

/-! ### Drives (R94) -/

theorem State.driveShutter_spec {n : Nat} (drives : s.driveShutter i = some n) :
    n < 32 ∧ ∃ c, s.shutter n = some c ∧ c.drive = i := by
  have mem := List.mem_of_find?_eq_some drives
  have found := List.find?_some drives
  rw [Option.any_eq_true] at found
  obtain ⟨c, here, drive⟩ := found
  exact ⟨List.mem_range.1 mem, c, here, of_decide_eq_true drive⟩

theorem State.setFault_changes (n : Nat) (f : ShutterFault) (on : Bool) :
    ChangesOnly [.shafts, .shutters, .net] s (s.setFault n f on) :=
  State.setFault_blank (by decide) (by decide) (by decide) s n f on

theorem State.recomputeLampAt_changes (r : Option LandingRef) : ChangesOnly [.shafts, .net] s (s.recomputeLampAt r) :=
  State.recomputeLampAt_blank (by decide) (by decide) s r

/-- The COMMS fault of a shutter set or cleared changes nothing else of the shutters (R79). -/
theorem State.shutterLive_setComms {n : Nat} (inside : n < 32) (on : Bool) (m : Nat) :
    (s.setFault n .comms on).shutterLive m =
      if n = m then { s.shutterLive m with faults := { (s.shutterLive m).faults with comms := on } } else s.shutterLive m := by
  unfold State.setFault
  split
  next kept =>
    by_cases same : n = m
    · subst same; rw [if_pos rfl, ← kept]; rfl
    · rw [if_neg same]
  next =>
    have lamps := State.recomputeLampAt_changes (s.modShutter n fun x => { x with faults := x.faults.put on .comms })
      (((s.modShutter n fun x => { x with faults := x.faults.put on .comms }).shutter n).bind ShutterCfg.landing)
    dsimp only
    rw [State.shutterLive, State.notify_shutters, lamps.shutters]
    show (s.modShutter n fun x => { x with faults := x.faults.put on .comms }).shutterLive m = _
    rw [State.shutterLive_modShutter]
    by_cases same : n = m
    · subst same; rw [if_pos ⟨rfl, inside⟩, if_pos rfl]; rfl
    · rw [if_neg fun h => same h.1, if_neg same]

theorem State.landingStation_some_mem {k l : Nat} (landing : l < 12) (named : (s.landingStation k l).isSome = true) :
    l ∈ s.landings k := mem_indicesWhere.2 ⟨landing, named⟩

/-- The lamps of a landing's shaft redrawn show what they are to show (R33). -/
theorem State.lamp_recomputeLampAt {k l : Nat} (shaft : k < 2) (landing : l < 12) (enabled : s.shaftEnabled k = true)
    (named : (s.landingStation k l).isSome = true) :
    ((s.recomputeLampAt (some { shaft := k, landing := l })).landingLive k l).lamp = s.lampOf k l := by
  show ((s.recomputeLamps k).landingLive k l).lamp = _
  rw [State.landingLive_recomputeLamps shaft enabled (s.landingStation_some_mem landing named), State.relit_lamp]

/-- A change of a shutter's COMMS fault is told (R33, R79, R94), over a step that follows it and changes neither lamps nor what
they show. -/
theorem State.commsTold_setFault (n : Nat) (inside : n < 32) (on : Bool) (flags : (s.setFault n .comms on).KeepsFlags t)
    (shafts : t.shafts = (s.setFault n .comms on).shafts) (lamps : t.lampOf = (s.setFault n .comms on).lampOf) :
    s.CommsTold t n on := by
  intro changed
  let u := s.modShutter n fun x => { x with faults := x.faults.put on .comms }
  have set : s.setFault n .comms on =
      (u.recomputeLampAt ((s.shutter n).bind ShutterCfg.landing)).notify (.shutterFault n .comms on) := by
    unfold State.setFault
    rw [if_neg (show ¬(s.shutterLive n).faults.has .comms = on from changed)]
    rfl
  refine ⟨flags 9 (by rw [set, State.getLsbD_notify]; exact Bool.or_true _), fun c k l found at_ shaft landing enabled named => ?_⟩
  have redrawn : t.landingLive k l = (u.recomputeLampAt (some { shaft := k, landing := l })).landingLive k l := by
    rw [State.landingLive_of_shafts shafts, set, found, Option.bind_some, at_]
    exact State.landingLive_of_shafts (State.notify_shafts _ _) k l
  have frame : ChangesOnly [.shutters] s u := State.modShutter_blank (by decide) s n _
  have shown : t.lampOf = u.lampOf := by
    rw [lamps, set]
    exact (State.lampOf_of_redraw (State.notify_blank (by decide) _ _) (State.notify_cores _ _)).trans
      (State.lampOf_of_redraw (State.recomputeLampAt_changes _ _) (State.recomputeLampAt_cores _ _))
  have enabled' : u.shaftEnabled k = true := enabled
  have lamp : (t.landingLive k l).lamp = u.lampOf k l := by
    rw [redrawn, State.lamp_recomputeLampAt u shaft landing enabled' named]
  refine ⟨by rw [lamp, shown], fun comms barred => ?_⟩
  subst comms
  have live : u.shutterLive n = { s.shutterLive n with faults := { (s.shutterLive n).faults with comms := true } } := by
    show (s.modShutter n _).shutterLive n = _
    rw [State.shutterLive_modShutter, if_pos ⟨rfl, inside⟩]; rfl
  have barred' : u.landingShutter k l = some n := barred
  have bars : u.shutterBars k l = true := by
    rw [State.shutterBars, barred', Option.any_some, live]; exact Bool.or_true _
  rw [lamp, State.lampOf, barred', Option.any_some, live, bars]
  split
  next warns => rw [if_pos (of_decide_eq_true warns)]
  next calm =>
    rw [if_neg fun h => calm (decide_eq_true h)]
    simp only [if_true, ite_self]

theorem State.driveLoss_of_drives {n : Nat} (drives : s.driveShutter i = some n) : s.driveLoss i = s.setFault n .comms true := by
  unfold State.driveLoss
  rw [drives]

theorem State.driveLoss_of_none (none : s.driveShutter i = none) : s.driveLoss i = s := by
  unfold State.driveLoss
  rw [none]

/-- The loss of a drive is told to its shutter (R94). -/
theorem State.driveLost_driveLoss : s.DriveLost (s.driveLoss i) i := by
  refine ⟨fun n drives => ?_, fun n other => ?_, fun k => State.core_shaft (State.driveLoss_cores s i) k,
    State.driveLoss_blank (by decide) (by decide) (by decide) s i⟩
  · obtain ⟨inside, -⟩ := s.driveShutter_spec drives
    rw [s.driveLoss_of_drives drives]
    exact ⟨s.commsTold_setFault n inside true (.refl _) rfl rfl, by rw [s.shutterLive_setComms inside, if_pos rfl]⟩
  · cases drives : s.driveShutter i with
    | none => rw [s.driveLoss_of_none drives]
    | some m =>
      have apart : m ≠ n := fun same => other (drives.trans (congrArg some same))
      rw [s.driveLoss_of_drives drives, s.shutterLive_setComms (s.driveShutter_spec drives).1, if_neg apart]

theorem State.driveRegain_of_none (none : s.driveShutter i = none) : s.driveRegain i = s := by
  unfold State.driveRegain
  rw [none]

/-- The regain of a drive: COMMS goes, and a command in force that waits unsent may be sent afresh (R94). -/
theorem State.driveRegain_of_drives {n : Nat} (drives : s.driveShutter i = some n) :
    (∀ m, ((s.setFault n .comms false).shutterLive n).command = some m →
      ((s.setFault n .comms false).shutterLive n).resend = none →
      ((s.setFault n .comms false).shutterLive n).complied = false →
      s.driveRegain i = (s.setFault n .comms false).sendAfresh n m) ∧
    ((∀ m, ((s.setFault n .comms false).shutterLive n).command = some m →
      ((s.setFault n .comms false).shutterLive n).resend = none →
      ((s.setFault n .comms false).shutterLive n).complied = false → False) →
      s.driveRegain i = s.setFault n .comms false) := by
  unfold State.driveRegain
  rw [drives]
  dsimp only
  constructor
  · intro m inForce idle waits
    rw [inForce]
    dsimp only
    rw [if_pos ⟨idle, waits⟩]
  · intro never
    split
    next m inForce => exact if_neg fun h => never m inForce h.1 h.2
    next => rfl

theorem State.maySend_iff {n : Nat} {c : ShutterCfg} (found : s.shutter n = some c) (m : ShutCommand) :
    s.maySend n m = true ↔ (m = .release → (s.zone c.zone).state ∈ [ZoneState.alarm, .silenced]) ∧
      (m = .raise → (s.zone c.zone).state = .resetting) := by
  have zone : s.shutterZone n = c.zone := by unfold State.shutterZone; rw [found]; rfl
  cases m with
  | release =>
    show s.releases (s.shutterZone n) = true ↔ _
    rw [zone]
    unfold State.releases
    cases (s.zone c.zone).state <;> simp
  | raise =>
    show decide ((s.zone (s.shutterZone n)).state = .resetting) = true ↔ _
    rw [zone]
    simp

theorem State.sendShut_of_shutter {n : Nat} {c : ShutterCfg} (found : s.shutter n = some c) (bytes : List Byte) :
    s.sendShut n bytes = s.sendTo c.drive .safety Kind.shut bytes := by
  unfold State.sendShut
  rw [found]

/-- A command sent afresh, where the zone allows it: a new sequence, and its SHUT frame (R80, R89, R94). -/
structure State.SentAfresh (s t : State) (n : Nat) (c : ShutterCfg) (m : ShutCommand) : Prop where
  frame : ChangesOnly [.shutters, .net] s t
  here : t.shutterLive n = { s.shutterLive n with sends := 1, complied := false, resend := some (s.now + 1000000) }
  others : ∀ j, j ≠ n → t.shutterLive j = s.shutterLive j
  flags : s.KeepsFlags t
  sent : s.Sent t c.drive .safety 0x11#8 m.payload

theorem State.sentAfresh {n : Nat} {c : ShutterCfg} (found : s.shutter n = some c) (inside : n < 32) {m : ShutCommand}
    (may : s.maySend n m = true) : s.SentAfresh (s.sendAfresh n m) n c m := by
  let u := s.modShutter n fun x => { x with sends := 1, complied := false, resend := s.after Config.resend }
  have frame : ChangesOnly [.shutters, .net] s u := State.modShutter_blank (by decide) s n _
  have afresh : s.sendAfresh n m = u.sendTo c.drive .safety Kind.shut m.payload := by
    unfold State.sendAfresh
    rw [if_pos may]
    exact State.sendShut_of_shutter u found _
  have queued := u.sendTo_changes c.drive .safety Kind.shut m.payload .none
  have live : ∀ j, (u.sendTo c.drive .safety Kind.shut m.payload).shutterLive j = u.shutterLive j := by
    intro j; rw [State.shutterLive, queued.shutters]; rfl
  rw [afresh]
  refine ⟨frame.trans (queued.mono (by decide)), ?_, fun j other => ?_, ?_, ?_⟩
  · rw [live]
    show (s.modShutter n _).shutterLive n = _
    rw [State.shutterLive_modShutter, if_pos ⟨rfl, inside⟩]
    rfl
  · rw [live]
    show (s.modShutter n _).shutterLive j = _
    rw [State.shutterLive_modShutter, if_neg fun h => other h.1.symm]
  · exact .trans (State.keepsFlags_of_net (State.modShutter_net s n _)) (State.keepsFlags_sendTo _ _ _ _ _ _)
  · exact (State.sent_sendTo u c.drive Kind.shut m.payload (by decide)).of_queues rfl fun _ _ => ⟨rfl, rfl⟩

/-- The ports of the lines L0 to L3 are left by a COMMS fault that changes at a shutter without a landing (R33, R79). -/
theorem State.port_setFault {n : Nat} {c : ShutterCfg} (found : s.shutter n = some c) (apart : c.landing = none)
    (f : ShutterFault) (on : Bool) {p : Nat} (line : p < 4) : (s.setFault n f on).port p = s.port p := by
  unfold State.setFault
  split
  · rfl
  · have found' : (s.modShutter n fun x => { x with faults := x.faults.put on f }).shutter n = some c := found
    dsimp only
    rw [found', Option.bind_some, apart, State.notify_port _ _ line]
    rfl

/-- The regain of a drive is told to its shutter (R80, R89, R94). -/
theorem State.driveRegained_driveRegain : s.DriveRegained (s.driveRegain i) i := by
  refine ⟨fun n c x drives found here => ?_, fun n other => ?_, fun k => State.core_shaft (State.driveRegain_cores s i) k,
    State.driveRegain_blank (by decide) (by decide) (by decide) s i⟩
  · obtain ⟨inside, c', found', drive⟩ := s.driveShutter_spec drives
    obtain rfl : c' = c := Option.some.inj (found'.symm.trans found)
    obtain ⟨again, quiet⟩ := s.driveRegain_of_drives drives
    have frame := s.setFault_changes n .comms false
    have live : (s.setFault n .comms false).shutterLive n = x := by
      rw [s.shutterLive_setComms inside, if_pos rfl, here]
    have zone : (s.setFault n .comms false).zone = s.zone := by unfold State.zone; rw [frame.zones]
    have shutter : (s.setFault n .comms false).shutter n = some c' := by rw [State.shutter, frame.tables]; exact found
    have allowed := (s.setFault n .comms false).maySend_iff shutter
    rw [zone] at allowed
    rw [live] at again quiet
    have sent : ∀ m, x.command = some m → x.resend = none → x.complied = false →
        (s.setFault n .comms false).maySend n m = true →
        (s.setFault n .comms false).SentAfresh (s.driveRegain i) n c' m := by
      intro m inForce idle waits may
      rw [again m inForce idle waits]
      exact State.sentAfresh _ shutter inside may
    have stays : ∀ m, x.command = some m → x.resend = none → x.complied = false →
        (s.setFault n .comms false).maySend n m = false → s.driveRegain i = s.setFault n .comms false := by
      intro m inForce idle waits may
      rw [again m inForce idle waits]
      unfold State.sendAfresh
      rw [if_neg (by rw [may]; decide)]
    refine ⟨?_, fun m inForce idle waits release raise => ?_, fun barred => ?_⟩
    · by_cases command : ∃ m, x.command = some m ∧ x.resend = none ∧ x.complied = false ∧
          (s.setFault n .comms false).maySend n m = true
      · obtain ⟨m, inForce, idle, waits, may⟩ := command
        have done := sent m inForce idle waits may
        refine s.commsTold_setFault n inside false done.flags done.frame.shafts
          (State.lampOf_congr done.frame (State.cores_congr done.frame.shafts) fun j => ?_)
        by_cases same : j = n
        · subst same; rw [done.here]; exact ⟨rfl, rfl⟩
        · rw [done.others j same]; exact ⟨rfl, rfl⟩
      · have same : s.driveRegain i = s.setFault n .comms false := by
          by_cases waiting : ∃ m, x.command = some m ∧ x.resend = none ∧ x.complied = false
          · obtain ⟨m, inForce, idle, waits⟩ := waiting
            exact stays m inForce idle waits (Bool.eq_false_iff.2 fun may => command ⟨m, inForce, idle, waits, may⟩)
          · exact quiet fun m inForce idle waits => waiting ⟨m, inForce, idle, waits⟩
        rw [same]
        exact s.commsTold_setFault n inside false (.refl _) rfl rfl
    · have done := sent m inForce idle waits ((allowed m).2 ⟨release, raise⟩)
      refine ⟨?_, fun apart => ?_⟩
      · rw [done.here, live, done.frame.now]
        exact congrArg (fun b => { x with
          sends := 1, complied := b, resend := some ((s.setFault n .comms false).now + 1000000) }) waits.symm
      · subst drive
        refine done.sent.of_queues frame.tables fun p line => ?_
        rw [s.port_setFault found apart _ _ line]
        exact ⟨rfl, rfl⟩
    · rw [← live]
      by_cases waiting : ∃ m, x.command = some m ∧ x.resend = none ∧ x.complied = false
      · obtain ⟨m, inForce, idle, waits⟩ := waiting
        rw [stays m inForce idle waits (Bool.eq_false_iff.2 fun may => ?_)]
        obtain ⟨release, raise⟩ := (allowed m).1 may
        rcases barred m inForce idle waits with ⟨same, out⟩ | ⟨same, out⟩
        · exact out (release same)
        · exact out (raise same)
      · rw [quiet fun m inForce idle waits => waiting ⟨m, inForce, idle, waits⟩]
  · cases drives : s.driveShutter i with
    | none => rw [s.driveRegain_of_none drives]
    | some m =>
      obtain ⟨inside, c, found, -⟩ := s.driveShutter_spec drives
      have apart : m ≠ n := fun same => other (drives.trans (congrArg some same))
      have kept : (s.setFault m .comms false).shutterLive n = s.shutterLive n := by
        rw [s.shutterLive_setComms inside, if_neg apart]
      have shutter : (s.setFault m .comms false).shutter m = some c := by
        rw [State.shutter, (s.setFault_changes m .comms false).tables]; exact found
      obtain ⟨again, quiet⟩ := s.driveRegain_of_drives drives
      by_cases waiting : ∃ k, ((s.setFault m .comms false).shutterLive m).command = some k ∧
          ((s.setFault m .comms false).shutterLive m).resend = none ∧
          ((s.setFault m .comms false).shutterLive m).complied = false
      · obtain ⟨k, inForce, idle, waits⟩ := waiting
        rw [again k inForce idle waits, ← kept]
        cases may : (s.setFault m .comms false).maySend m k with
        | true => exact (State.sentAfresh _ shutter inside may).others n (Ne.symm apart)
        | false => unfold State.sendAfresh; rw [if_neg (by rw [may]; decide)]
      · rw [quiet fun k inForce idle waits => waiting ⟨k, inForce, idle, waits⟩, kept]

end

end Sys2Proof.Machine
end

section
/-! The loss and the regain of a speaker (R150, R151, R157): what settling the playback makes of the zone map and of the
current announcement. -/

namespace Sys2Proof.Machine

/-! ### What settling the channels leaves of the playback -/

/-- From `p` to `q` only EVAC, the tunings and the progress of the current announcement may differ. -/
structure Playback.Plays (p q : Playback) : Prop where
  directory : q.directory = p.directory
  page : q.page = p.page
  zoneMap : q.zoneMap = p.zoneMap
  counters : q.counters = p.counters
  taken : q.stored.map StoredPlay.taken = p.stored.map StoredPlay.taken
  request : q.stored.map StoredPlay.request = p.stored.map StoredPlay.request

theorem Playback.Plays.refl (p : Playback) : p.Plays p := ⟨rfl, rfl, rfl, rfl, rfl, rfl⟩

theorem Playback.Plays.trans {p q r : Playback} (first : p.Plays q) (second : q.Plays r) : p.Plays r where
  directory := second.directory.trans first.directory
  page := second.page.trans first.page
  zoneMap := second.zoneMap.trans first.zoneMap
  counters := second.counters.trans first.counters
  taken := second.taken.trans first.taken
  request := second.request.trans first.request

/-- The current announcement after such a change has the request and the zones it had. -/
theorem Playback.Plays.stored {p q : Playback} (plays : p.Plays q) :
    (p.stored = none → q.stored = none) ∧
    ∀ x, p.stored = some x → ∃ y, q.stored = some y ∧ y.request = x.request ∧ y.taken = x.taken := by
  have taken := plays.taken
  have request := plays.request
  constructor
  · intro none
    rw [none] at taken
    exact Option.map_eq_none_iff.1 taken
  · intro x here
    rw [here] at taken request
    obtain ⟨y, now, same⟩ := Option.map_eq_some_iff.1 taken
    rw [now] at request
    exact ⟨y, now, Option.some.inj request, same⟩

section
variable (s : State)

/-- The zone map's entry of a zone depends on the tables, the zones, the directory, the page and the taken zones (R150). -/
theorem State.mapEntry_congr {s t : State} (tables : t.tables = s.tables) (zones : t.zones = s.zones)
    (plays : s.playback.Plays t.playback) : t.mapEntry = s.mapEntry := by
  have phrase : t.phraseValid = s.phraseValid := by
    have read : t.phrase = s.phrase := by unfold State.phrase; rw [plays.directory]
    unfold State.phraseValid
    rw [read]
  have zone : t.zone = s.zone := by unfold State.zone; rw [zones]
  have evac : t.takesEvac = s.takesEvac := by
    unfold State.takesEvac State.evacValid State.zoneCfg State.globals
    rw [zone, phrase, tables]
  have page : t.takesPage = s.takesPage := by unfold State.takesPage; rw [plays.page]
  have stored : ∀ (o : Option StoredPlay) (z : Nat),
      (o.any fun p => p.taken.getLsbD z) = (o.map StoredPlay.taken).any fun m => m.getLsbD z := by
    intro o z; cases o <;> rfl
  funext z
  unfold State.mapEntry
  rw [evac, page, stored, stored, plays.taken]

theorem State.sendTo_playback (i : Nat) (q : QueueClass) (kind : Byte) (bytes : List Byte) (report : Report) :
    (s.sendTo i q kind bytes report).playback = s.playback := (s.sendTo_changes i q kind bytes report).playback

theorem State.tune_of_present {i : Nat} (present : s.isPresent i = true) :
    s.tune i = (s.modPlayback fun p => { p with tuning := p.tuning.set i (some (s.speakerChan i)) }).sendTo i
      (tuneClass (s.playback.tuning.at? i) (s.speakerChan i)) Kind.tune
      (tunePayload (s.speakerChan i) (s.effective i).fade) := by
  unfold State.tune
  rw [if_pos present]

theorem State.tune_plays (i : Nat) : s.playback.Plays (s.tune i).playback := by
  unfold State.tune
  split
  · dsimp only
    rw [State.sendTo_playback]
    exact ⟨rfl, rfl, rfl, rfl, rfl, rfl⟩
  · exact .refl _

theorem State.emit_playback (c : Chan) (g : Addr) (b : Nat) (xs : List Sample) : (s.emit c g b xs).playback = s.playback := by
  obtain ⟨ports, same⟩ := s.emit_eq c g b xs
  rw [same]

theorem State.countBusy_playback : s.countBusy.playback = s.playback := by
  unfold State.countBusy
  split <;> rfl

theorem State.settleEvac_plays : s.playback.Plays s.settleEvac.playback := by
  unfold State.settleEvac
  dsimp only
  split
  · show s.playback.Plays { (s.countBusy.emit _ _ _ _).playback with evac := _ }
    rw [State.emit_playback, State.countBusy_playback]
    exact ⟨rfl, rfl, rfl, rfl, rfl, rfl⟩
  · exact ⟨rfl, rfl, rfl, rfl, rfl, rfl⟩
  · exact .refl _

theorem State.settleStored_plays : s.playback.Plays s.settleStored.playback := by
  unfold State.settleStored
  split
  next p here =>
    split
    · show s.playback.Plays { (s.countBusy.emit _ _ _ _).playback with stored := _ }
      rw [State.emit_playback, State.countBusy_playback]
      exact ⟨rfl, rfl, rfl, rfl, by rw [here]; rfl, by rw [here]; rfl⟩
    · exact .refl _
  next => exact .refl _

/-- The zone map recomputed (R150). -/
theorem State.recomputeMap_plays :
    { s.playback with zoneMap := Tab.ofFn 16 s.mapEntry }.Plays s.recomputeMap.playback := by
  have tunes : ∀ (t : State) is, t.playback.Plays (t.forEach is State.tune).playback := fun t is =>
    State.forEach_induction (fun u => t.playback.Plays u.playback) (.refl _) fun u i _ kept => kept.trans (u.tune_plays i)
  let mapped := s.modPlayback fun p => { p with zoneMap := Tab.ofFn 16 s.mapEntry }
  have all : ∀ is, mapped.playback.Plays (mapped.forEach is fun u z => u.forEach (u.presentSpeakers z) State.tune).playback :=
    fun is => State.forEach_induction (fun u => mapped.playback.Plays u.playback) (.refl _) fun u z _ kept =>
      kept.trans (tunes u _)
  exact all _

/-- After the losses, settling the channels makes the zone map anew and leaves the rest (R150, R154). -/
theorem State.settleMap_plays :
    { s.playback with zoneMap := Tab.ofFn 16 s.mapEntry }.Plays s.recomputeMap.settleEvac.settleStored.playback :=
  s.recomputeMap_plays.trans ((State.settleEvac_plays _).trans (State.settleStored_plays _))

/-! ### Fallback rings and requests started (R156, R159) -/

/-- The counts of zones lost and of announcements abandoned are as they were. -/
def Playback.SameLosses (p q : Playback) : Prop :=
  q.counters.lostZone = p.counters.lostZone ∧ q.counters.abandoned = p.counters.abandoned

theorem Playback.SameLosses.trans {p q r : Playback} (first : p.SameLosses q) (second : q.SameLosses r) : p.SameLosses r :=
  ⟨second.1.trans first.1, second.2.trans first.2⟩

theorem State.ring_playback (i : Nat) (c : RingClass) (p : Pattern) (o : RingOwner) : (s.ring i c p o).1.playback = s.playback :=
  ChangesOnly.playback (F := [.arbiters, .net, .tokens]) (State.ring_blank (by decide) (by decide) (by decide) s i c p o)

theorem State.countPlayback_playback (f : PlaybackCounters → PlaybackCounters) :
    (s.countPlayback f).playback = { s.playback with counters := f s.playback.counters } := rfl

/-- A fallback ring is counted, and changes no other part of the playback (R159). -/
theorem State.fallbackRing_playback (z : Nat) :
    ∃ n, (s.fallbackRing z).playback = { s.playback with counters := { s.playback.counters with fallback := n } } := by
  refine State.forEach_induction (f := _)
    (fun t => ∃ n, t.playback = { s.playback with counters := { s.playback.counters with fallback := n } }) ⟨_, rfl⟩ ?_
  rintro t i - ⟨n, kept⟩
  have rung := t.ring_playback i .fallback (.chime 2) .playback
  dsimp only
  split
  · refine ⟨bump n, ?_⟩
    rw [State.countPlayback_playback, rung, kept]
  · exact ⟨n, rung.trans kept⟩

theorem State.fallbackRings_playback (zs : List Nat) :
    ∃ n, (s.forEach zs State.fallbackRing).playback =
      { s.playback with counters := { s.playback.counters with fallback := n } } := by
  refine State.forEach_induction (f := _)
    (fun t => ∃ n, t.playback = { s.playback with counters := { s.playback.counters with fallback := n } }) ⟨_, rfl⟩ ?_
  rintro t z - ⟨n, kept⟩
  obtain ⟨m, rung⟩ := t.fallbackRing_playback z
  exact ⟨m, by rw [rung, kept]⟩

theorem State.startRequest_losses (r : StoredRequest) : s.playback.SameLosses (s.startRequest r).playback := by
  unfold State.startRequest
  dsimp only
  obtain ⟨n, rung⟩ := s.fallbackRings_playback ((s.eligibleZones r).filter fun z => decide (s.presentSpeakers z = []))
  split
  · show Playback.SameLosses _ { (s.forEach _ _).playback with counters := _ }
    rw [rung]
    dsimp only
    split <;> exact ⟨rfl, rfl⟩
  · show Playback.SameLosses _ { (s.forEach _ _).playback with stored := _ }
    rw [rung]
    exact ⟨rfl, rfl⟩

theorem State.startHeads_losses (rs : List StoredRequest) : s.playback.SameLosses (s.startHeads rs).playback := by
  induction rs generalizing s with
  | nil => exact ⟨rfl, rfl⟩
  | cons r rest ih =>
    have started : s.playback.SameLosses ((s.modPlayback fun p => { p with queue := rest }).startRequest r).playback :=
      State.startRequest_losses _ r
    unfold State.startHeads
    dsimp only
    split
    · exact started
    · exact started.trans (ih _)

theorem State.startNext_losses : s.playback.SameLosses s.startNext.playback := by
  unfold State.startNext
  split
  · exact ⟨rfl, rfl⟩
  · exact s.startHeads_losses _

theorem State.startNext_of_empty (idle : s.playback.stored = none) (empty : s.playback.queue = []) :
    s.startNext.playback.stored = none := by
  unfold State.startNext
  rw [idle, empty]
  exact idle

/-! ### Zones lost (R157) -/

theorem ZoneMask.getLsbD_single (z j : Nat) : (ZoneMask.single z).getLsbD j = (decide (j < 16) && decide (z = j)) := by
  rw [ZoneMask.single, BitVec.getLsbD_ofNat, Nat.testBit_two_pow]

theorem getLsbD_maskOf {z : Nat} (inside : z < 16) (zs : List Nat) : (maskOf zs).getLsbD z = true ↔ z ∈ zs := by
  have folded : ∀ m : ZoneMask,
      (zs.foldl (fun m z => m ||| ZoneMask.single z) m).getLsbD z = true ↔ m.getLsbD z = true ∨ z ∈ zs := by
    induction zs with
    | nil => simp
    | cons x zs ih =>
      intro m
      rw [List.foldl_cons, ih, BitVec.getLsbD_or, Bool.or_eq_true, ZoneMask.getLsbD_single]
      rw [decide_eq_true inside, Bool.true_and, decide_eq_true_eq, List.mem_cons, or_assoc, @eq_comm _ x z]
  rw [maskOf, folded]
  simp

theorem State.loseZones_of_none (none : s.playback.stored = none) : s.loseZones = s := by
  unfold State.loseZones
  rw [none]

/-- The zones that stay with an announcement: those that may take STORED and have a PRESENT speaker (R157). -/
def State.keptZones (s : State) (p : StoredPlay) : List Nat :=
  p.taken.zones.filter fun z => s.keepsZone z && decide (s.presentSpeakers z ≠ [])

/-- What the losses make of the playback: the zones lost are counted, and an announcement left without zones is abandoned
(R157). -/
theorem State.loseZones_told {p : StoredPlay} (playing : s.playback.stored = some p) :
    s.loseZones.playback.counters.lostZone =
      bumpBy (p.taken.zones.length - (s.keptZones p).length) s.playback.counters.lostZone ∧
    (s.keptZones p ≠ [] → s.loseZones.playback.stored = some { p with taken := maskOf (s.keptZones p) }) ∧
    (s.keptZones p = [] → s.loseZones.playback.counters.abandoned = bump s.playback.counters.abandoned ∧
      (s.playback.queue = [] → s.loseZones.playback.stored = none)) := by
  let lost := s.countPlayback fun c => { c with lostZone := bumpBy (p.taken.zones.length - (s.keptZones p).length) c.lostZone }
  let silent := p.taken.zones.filter fun z => s.keepsZone z && decide (s.presentSpeakers z = [])
  let rung := lost.forEach silent State.fallbackRing
  let left : StoredPlay := { p with taken := maskOf (s.keptZones p) }
  let w := rung.modPlayback fun q => { q with stored := some left }
  have split : s.loseZones = if s.keptZones p = [] then w.abandonStored left else w := by
    unfold State.loseZones
    rw [playing]
    rfl
  obtain ⟨n, rings⟩ := lost.fallbackRings_playback silent
  have now : w.playback = { s.playback with
      stored := some left
      counters := { s.playback.counters with
        lostZone := bumpBy (p.taken.zones.length - (s.keptZones p).length) s.playback.counters.lostZone, fallback := n } } := by
    show { rung.playback with stored := some left } = _
    rw [show rung.playback = _ from rings]
    rfl
  by_cases empty : s.keptZones p = []
  · have gone : s.loseZones = (((w.modPlayback fun q => { q with stored := none }).countPlayback fun c =>
        { c with abandoned := bump c.abandoned }).notify (.storedAbandoned left.request.number)).startNext := by
      rw [split, if_pos empty]; rfl
    have before : (((w.modPlayback fun q => { q with stored := none }).countPlayback fun c =>
        { c with abandoned := bump c.abandoned }).notify (.storedAbandoned left.request.number)).playback =
        { s.playback with
          stored := none
          counters := { s.playback.counters with
            lostZone := bumpBy (p.taken.zones.length - (s.keptZones p).length) s.playback.counters.lostZone, fallback := n
            abandoned := bump s.playback.counters.abandoned } } := by
      rw [State.notify_playback, State.countPlayback_playback, State.modPlayback_playback, now]
    obtain ⟨lostZone, abandoned⟩ := State.startNext_losses (((w.modPlayback fun q => { q with stored := none }).countPlayback fun c =>
        { c with abandoned := bump c.abandoned }).notify (.storedAbandoned left.request.number))
    rw [← gone, before] at lostZone abandoned
    refine ⟨lostZone, fun some => absurd empty some, fun _ => ⟨abandoned, fun alone => ?_⟩⟩
    rw [gone]
    exact State.startNext_of_empty _ (by rw [before]) (by rw [before]; exact alone)
  · rw [split, if_neg empty, now]
    exact ⟨rfl, fun _ => rfl, fun none => absurd none empty⟩

/-! ### Speakers (R150, R151, R157) -/

/-- A change of the presence of a speaker is told, by a step that ends with the settled playback but for EVAC, the tunings and
the progress of the announcement. -/
theorem State.speakerChanged_of_plays {t : State} (plays : s.settlePlayback.playback.Plays t.playback)
    (frame : ChangesOnly [.playback, .arbiters, .tokens, .net] s t) : s.SpeakerChanged t := by
  have losses : ChangesOnly [.playback, .arbiters, .tokens, .net] s s.loseZones :=
    State.loseZones_blank (by decide) (by decide) (by decide) (by decide) s
  have settled := (s.loseZones.settleMap_plays).trans plays
  have entries : t.mapEntry = s.loseZones.mapEntry := by
    have tables : t.tables = s.loseZones.tables := frame.tables.trans losses.tables.symm
    have zones : t.zones = s.loseZones.zones := frame.zones.trans losses.zones.symm
    have remapped : (s.loseZones.modPlayback fun p => { p with zoneMap := Tab.ofFn 16 s.loseZones.mapEntry }).mapEntry =
        s.loseZones.mapEntry := rfl
    exact (State.mapEntry_congr (s := s.loseZones.modPlayback fun p => { p with zoneMap := Tab.ofFn 16 s.loseZones.mapEntry })
      tables zones settled).trans remapped
  have kept : ∀ p, (p.taken.zones.filter fun z => s.keepsZone z && decide (t.presentSpeakers z ≠ [])) = s.keptZones p := by
    have present : t.presentSpeakers = s.presentSpeakers := by
      unfold State.presentSpeakers State.stationsIn State.station
      rw [State.isPresent_congr frame.tables frame.stations, frame.tables]
    intro p
    rw [present]; rfl
  have counters : t.playback.counters = s.loseZones.playback.counters := settled.counters
  obtain ⟨gone, carried⟩ := settled.stored
  refine ⟨fun z inside => ?_, fun p k playing here => ?_, fun idle => ?_, frame.mono (by decide)⟩
  · rw [entries, State.zoneChan, settled.zoneMap, Tab.getD, Tab.get?_ofFn, if_pos inside]
    rfl
  · rw [kept p] at here
    subst here
    obtain ⟨lost, some, none⟩ := s.loseZones_told playing
    rw [counters]
    refine ⟨lost, fun left => ?_, fun left => ⟨(none left).1, fun alone => gone ((none left).2 alone)⟩⟩
    obtain ⟨q, now, request, taken⟩ := carried _ (some left)
    exact ⟨q, now, request, fun z inside => by rw [taken, getLsbD_maskOf inside]⟩
  · exact gone (by rw [s.loseZones_of_none idle]; exact idle)

theorem State.settlePlayback_changes : ChangesOnly [.playback, .arbiters, .tokens, .net] s s.settlePlayback :=
  State.settlePlayback_blank (by decide) (by decide) (by decide) (by decide) s

/-- The loss of a speaker is told to its zone (R150, R157). -/
theorem State.speakerChanged_speakerLoss : s.SpeakerChanged s.speakerLoss :=
  s.speakerChanged_of_plays (.refl _) s.settlePlayback_changes

/-- With no announcement and a zone map that stands, settling the playback emits at most STREAM frames (R150, R152, R154). -/
theorem State.settlePlayback_of_settled (idle : s.playback.stored = none) (stands : ∀ z < 16, s.zoneChan z = s.mapEntry z) :
    ChangesOnly [.playback, .net] s s.settlePlayback ∧ s.settlePlayback.playback.tuning = s.playback.tuning ∧
    s.settlePlayback.playback.zoneMap = s.playback.zoneMap ∧
    ∀ p < 4, ∀ q, q ≠ .stream → (s.settlePlayback.port p).waiting q = (s.port p).waiting q ∧
      (s.settlePlayback.port p).accepts q = (s.port p).accepts q := by
  have same : s.recomputeMap = s := by
    have map : Tab.ofFn 16 s.mapEntry = s.playback.zoneMap := by
      refine Tab.ext' (List.ext_getElem? fun z => ?_)
      show (Tab.ofFn 16 s.mapEntry).get? z = s.playback.zoneMap.get? z
      rw [Tab.get?_ofFn]
      by_cases inside : z < 16
      · obtain ⟨c, here⟩ := s.playback.zoneMap.get?_eq_some inside
        have entry := stands z inside
        rw [State.zoneChan, Tab.getD, here] at entry
        rw [if_pos inside, here, ← entry]; rfl
      · rw [if_neg inside, s.playback.zoneMap.get?_eq_none (Nat.le_of_not_lt inside)]
    have none : (indicesWhere 16 fun z =>
        decide ((Tab.ofFn 16 s.mapEntry).getD z Chan.none ≠ s.playback.zoneMap.getD z .none)) = [] := by
      rw [map]
      simp [indicesWhere]
    unfold State.recomputeMap
    dsimp only
    rw [none, map]
    rfl
  have settled : s.settlePlayback = s.settleEvac := by
    unfold State.settlePlayback
    rw [s.loseZones_of_none idle, same]
    unfold State.settleStored
    rw [(State.settleEvac_plays s).stored.1 idle]
  rw [settled]
  refine ⟨State.settleEvac_blank (by decide) (by decide) s, ?_, s.settleEvac_plays.zoneMap, ?_⟩
  · unfold State.settleEvac
    dsimp only
    split
    · show (s.countBusy.emit _ _ _ _).playback.tuning = _
      rw [State.emit_playback, State.countBusy_playback]
    · rfl
    · rfl
  · intro p line q notStream
    unfold State.settleEvac
    dsimp only
    split
    · show (((s.countBusy.emit _ _ _ _).port p).waiting q) = _ ∧ (((s.countBusy.emit _ _ _ _).port p).accepts q) = _
      have busy : s.countBusy.port p = s.port p := by unfold State.countBusy; split <;> rfl
      rw [State.emit_port _ _ _ _ _ (by omega), busy]
      split
      · exact Port.offer_stream_leaves _ _ notStream
      · exact ⟨rfl, rfl⟩
    · exact ⟨rfl, rfl⟩
    · exact ⟨rfl, rfl⟩

theorem State.modPlayback_port (f : Playback → Playback) (p : Nat) : (s.modPlayback f).port p = s.port p := rfl

theorem tuneClass_ne_stream (last : Option Chan) (c : Chan) : tuneClass last c ≠ .stream := by
  unfold tuneClass
  split <;> decide

theorem State.lt_of_present {i : Nat} (present : s.isPresent i = true) : i < 96 := by
  unfold State.isPresent at present
  rw [Bool.and_eq_true] at present
  obtain ⟨c, found⟩ := Option.isSome_iff_exists.1 present.1
  exact Tab.lt_of_at? found

/-- The regain of a speaker is told to its zone, and its tuning is sent (R150, R151, R157). -/
theorem State.speakerRegained_speakerRegain {i : Nat} (present : s.isPresent i = true) :
    s.SpeakerRegained (s.speakerRegain i) i := by
  have frame := s.settlePlayback_changes
  have present' : s.settlePlayback.isPresent i = true := by
    rw [State.isPresent_congr frame.tables frame.stations, present]
  have tuned := State.tune_of_present _ present'
  refine ⟨s.speakerChanged_of_plays (State.tune_plays _ i)
    (frame.trans (State.tune_blank (by decide) (by decide) s.settlePlayback i)), ?_, fun idle stands => ?_⟩
  · have plays := State.tune_plays s.settlePlayback i
    have channel : (s.settlePlayback.tune i).speakerChan i = s.settlePlayback.speakerChan i := by
      have tables : (s.settlePlayback.tune i).tables = s.settlePlayback.tables :=
        ChangesOnly.tables (F := [.playback, .net]) (State.tune_blank (by decide) (by decide) _ i)
      unfold State.speakerChan State.zoneChan State.station
      rw [plays.zoneMap, tables]
    show (s.settlePlayback.tune i).playback.tuning.at? i = some ((s.settlePlayback.tune i).speakerChan i)
    rw [channel, tuned, State.sendTo_playback]
    show (Tab.set _ i _).at? i = _
    rw [Tab.at?_set, if_pos ⟨rfl, s.lt_of_present present⟩]
  · obtain ⟨settled, tuning, map, ports⟩ := s.settlePlayback_of_settled idle stands
    have channel : s.settlePlayback.speakerChan i = s.speakerChan i := by
      unfold State.speakerChan State.zoneChan State.station
      rw [map, settled.tables]
    have effective : s.settlePlayback.effective = s.effective := by
      funext j; unfold State.effective State.station State.stationLive; rw [settled.tables, settled.stations]
    show s.Sent (s.settlePlayback.tune i) i _ _ _
    rw [tuned, tuning, channel, effective]
    refine (State.sent_sendTo _ i _ _ (tuneClass_ne_stream _ _)).of_queues
      ((State.modPlayback_tables _ _).trans settled.tables) fun p line => ?_
    rw [State.modPlayback_port]
    exact ports p line _ (tuneClass_ne_stream _ _)

end

end Sys2Proof.Machine
end

section
/-! Ring requests and withdrawals (R121 to R123): what they make of the arbiter they name, and that they leave the others and
the flags of the notices. -/

namespace Sys2Proof.Machine

/-! ### The choice (R123) -/

theorem oldestOf_mem {pending : List Ring} {c : RingClass} {r : Ring} (oldest : oldestOf pending c = some r) : r ∈ pending :=
  List.mem_of_find?_eq_some oldest

/-- What is chosen is pending (R123). -/
theorem chooseRing_mem {m : SounderMode} {last : RingClass} {pending : List Ring} {r : Ring}
    (chosen : chooseRing m last pending = some r) : r ∈ pending := by
  have circle : ∀ cs : List RingClass, cs.findSome? (oldestOf pending) = some r → r ∈ pending := by
    intro cs found
    obtain ⟨c, -, oldest⟩ := List.exists_of_findSome?_eq_some found
    exact oldestOf_mem oldest
  unfold chooseRing at chosen
  split at chosen
  next x oldest => rw [← Option.some.inj chosen]; exact oldestOf_mem oldest
  next =>
    cases m with
    | rotating => exact circle _ chosen
    | fixed => exact circle _ chosen

/-- The only request pending is chosen (R123). -/
theorem chooseRing_single (m : SounderMode) (last : RingClass) (r : Ring) : chooseRing m last [r] = some r := by
  obtain ⟨c, p, o, at_⟩ := r
  cases m with
  | rotating => cases c <;> cases last <;> rfl
  | fixed => cases c <;> rfl

section
variable (s : State)

/-! ### Other arbiters -/

theorem State.arbiter_modArbiter_other {i j : Nat} (apart : i ≠ j) (f : Arbiter → Arbiter) :
    (s.modArbiter i f).arbiter j = s.arbiter j := by
  rw [State.arbiter_modArbiter, if_neg apart]

theorem State.arbiter_toll_other {i j : Nat} (apart : i ≠ j) (t : Toll) (report : Report) :
    (s.toll i t report).arbiter j = s.arbiter j := by
  rw [State.arbiter_toll, if_neg fun h => apart h.1]

theorem State.arbiter_serve_other {i j : Nat} (apart : i ≠ j) (r : Ring) : (s.serve i r).arbiter j = s.arbiter j := by
  unfold State.serve
  dsimp only
  rw [State.arbiter_toll_other _ apart, State.arbiter_modArbiter_other _ apart]
  rfl

theorem State.arbiter_choose_other {i j : Nat} (apart : i ≠ j) : (s.choose i).arbiter j = s.arbiter j := by
  unfold State.choose
  (repeat' split)
  · rfl
  · exact s.arbiter_serve_other apart _
  · rfl
  · rfl

theorem State.arbiter_ring_other {i j : Nat} (apart : i ≠ j) (c : RingClass) (p : Pattern) (o : RingOwner) :
    (s.ring i c p o).1.arbiter j = s.arbiter j := by
  unfold State.ring
  dsimp only
  (repeat' split) <;> simp only [State.arbiter_modArbiter_other _ apart, State.arbiter_choose_other _ apart]

theorem State.arbiter_withdraw_other {i j : Nat} (apart : i ≠ j) (o : RingOwner) :
    (s.withdraw i o).arbiter j = s.arbiter j := by
  unfold State.withdraw
  split
  · rfl
  · dsimp only
    split
    · rw [State.arbiter_choose_other _ apart, State.arbiter_toll_other _ apart, State.endPattern,
        State.arbiter_modArbiter_other _ apart, State.arbiter_modArbiter_other _ apart]
    · rw [State.arbiter_modArbiter_other _ apart]

/-! ### The arbiter served (R123) -/

theorem State.arbiter_toll_self {i : Nat} {a : Arbiter} (here : s.arbiter i = some a) (t : Toll) (report : Report) :
    ∃ last, (s.toll i t report).arbiter i = some { a with lastSent := last } := by
  rw [State.arbiter_toll, here]
  split
  · exact ⟨some t, rfl⟩
  · exact ⟨a.lastSent, rfl⟩

/-- A request served leaves the list and becomes the pattern in force (R123). -/
theorem State.arbiter_serve_self {i : Nat} {a : Arbiter} (here : s.arbiter i = some a) (r : Ring) :
    ∃ last, (s.serve i r).arbiter i = some { a with
      pending := a.pending.erase r
      inForce := .timed r.cls r.owner (patternSent (s.effective i) r.pattern) s.tokens (.starting (s.now + 2000000))
      lastServed := if r.cls = .urgent then a.lastServed else r.cls
      counters := { a.counters with served := bump a.counters.served }
      lastSent := last } := by
  have here' : ({ s with tokens := s.tokens + 1 } : State).arbiter i = some a := here
  exact State.arbiter_toll_self _ (State.arbiter_modArbiter_some here' _) _ _

/-- The choice serves a pending request, or nothing is served (R123). -/
theorem State.arbiter_choose_self {i : Nat} {a : Arbiter} (here : s.arbiter i = some a) :
    (s.choose i).arbiter i = some a ∨ ∃ r ∈ a.pending, s.choose i = s.serve i r := by
  unfold State.choose
  rw [here]
  dsimp only
  split
  · split
    next r chosen => exact .inr ⟨r, chooseRing_mem chosen, rfl⟩
    next => exact .inl here
  · exact .inl here

theorem State.choose_of_single {i : Nat} {a : Arbiter} {r : Ring} (here : s.arbiter i = some a) (arbitrates : a.service = .arbitrating)
    (idle : a.inForce = .none) (only : a.pending = [r]) : s.choose i = s.serve i r := by
  unfold State.choose
  rw [here]
  dsimp only
  rw [if_pos ⟨arbitrates, idle⟩, only, chooseRing_single]

/-! ### Rings placed (R121) -/

theorem preemptStart_eq (c : RingClass) : preemptStart s c =
    if c = .urgent ∨ s.globals.preemptWait = 0 then none else some (s.now + 1000000 * s.globals.preemptWait) := by
  unfold preemptStart State.after sec
  rw [Nat.mul_comm]

/-- A ring request placed at a sounder with an arbiter does what R121 says. -/
theorem State.placed_ring {i : Nat} {a : Arbiter} (here : s.arbiter i = some a) (c : RingClass) (p : Pattern) (o : RingOwner) :
    ∃ b, (s.ring i c p o).1.arbiter i = some b ∧ s.Placed i c p o a b := by
  unfold State.ring
  rw [here]
  dsimp only
  cases present : s.isPresent i with
  | false =>
    rw [if_pos rfl]
    refine ⟨_, State.arbiter_modArbiter_some here _, fun _ => rfl, fun on => ?_, fun on => ?_⟩
    all_goals rw [present] at on; exact absurd on (by decide)
  | true =>
    rw [if_neg (by decide)]
    by_cases again : (a.pending.any fun r => decide (r.owner = o)) = true
    · rw [if_pos again]
      refine ⟨_, State.arbiter_modArbiter_some here _, fun off => ?_, fun _ _ => rfl, fun _ never => ?_⟩
      · rw [present] at off; exact absurd off (by decide)
      · obtain ⟨r, mem, owner⟩ := List.any_eq_true.1 again
        exact absurd (of_decide_eq_true owner) (never r mem)
    · rw [if_neg again]
      have fresh : ¬∃ r ∈ a.pending, r.owner = o := fun ⟨r, mem, owner⟩ =>
        again (List.any_eq_true.2 ⟨r, mem, decide_eq_true owner⟩)
      by_cases full : Config.pendingSize ≤ a.pending.length
      · rw [if_pos full]
        refine ⟨_, State.arbiter_modArbiter_some here _, fun off => ?_, fun _ ex => absurd ex fresh, fun _ _ =>
          ⟨fun _ => rfl, fun room => absurd full (Nat.not_le.2 room)⟩⟩
        rw [present] at off; exact absurd off (by decide)
      · rw [if_neg full]
        have queued : (s.modArbiter i fun a => { a with
            pending := a.pending ++ [{ cls := c, pattern := p, owner := o, arrival := s.now }] }).arbiter i = some { a with
            pending := a.pending ++ [{ cls := c, pattern := p, owner := o, arrival := s.now }] } :=
          State.arbiter_modArbiter_some here _
        have shape : ∀ {b : Arbiter},
            ((a.service ≠ .arbitrating ∨ a.inForce ≠ .none) → b = { a with
              pending := a.pending ++ [{ cls := c, pattern := p, owner := o, arrival := s.now }]
              preempt := match a.service, a.inForce, a.pending with
                | .arbitrating, .timed k _ _ _ (.sounding _), [] =>
                  if k = .urgent ∨ s.globals.preemptWait = 0 then none
                  else some (s.now + 1000000 * s.globals.preemptWait)
                | _, _, _ => a.preempt }) →
            (a.service = .arbitrating → a.inForce = .none → a.pending = [] → b.pending = [] ∧
              b.lastServed = (if c = .urgent then a.lastServed else c) ∧
              b.counters = { a.counters with served := bump a.counters.served } ∧
              ∃ n, b.inForce = .timed c o (patternSent (s.effective i) p) n (.starting (s.now + 2000000))) →
            s.Placed i c p o a b := by
          intro b waits served
          refine ⟨fun off => ?_, fun _ ex => absurd ex fresh, fun _ _ => ⟨fun many => absurd many full, fun _ => ⟨waits, served⟩⟩⟩
          rw [present] at off; exact absurd off (by decide)
        by_cases arbitrates : a.service = .arbitrating
        · rw [if_pos arbitrates]
          cases inForce : a.inForce with
          | none =>
            dsimp only
            by_cases alone : a.pending = []
            · rw [State.choose_of_single _ queued arbitrates inForce (by rw [alone]; rfl)]
              obtain ⟨last, served⟩ := State.arbiter_serve_self _ queued { cls := c, pattern := p, owner := o, arrival := s.now }
              refine ⟨_, served, shape (fun h => ?_) fun _ _ _ => ⟨?_, rfl, rfl, s.tokens, rfl⟩⟩
              · exact (h.elim (fun n => n arbitrates) (fun n => n inForce)).elim
              · rw [alone]; simp
            · rcases State.arbiter_choose_self _ queued with kept | ⟨r, -, served⟩
              · exact ⟨_, kept, shape (fun h => (h.elim (fun n => n arbitrates) (fun n => n inForce)).elim)
                  fun _ _ empty => absurd empty alone⟩
              · rw [served]
                obtain ⟨last, now⟩ := State.arbiter_serve_self _ queued r
                exact ⟨_, now, shape (fun h => (h.elim (fun n => n arbitrates) (fun n => n inForce)).elim)
                  fun _ _ empty => absurd empty alone⟩
          | continuous =>
            exact ⟨_, queued, shape (fun _ => by rw [arbitrates, inForce]) fun _ none => by rw [inForce] at none; cases none⟩
          | timed k o' p' n phase =>
            cases phase with
            | starting limit =>
              exact ⟨_, queued, shape (fun _ => by rw [arbitrates, inForce]) fun _ none => by rw [inForce] at none; cases none⟩
            | sounding until_ =>
              dsimp only
              by_cases alone : a.pending = []
              · rw [if_pos alone]
                refine ⟨_, State.arbiter_modArbiter_some queued _, shape (fun _ => ?_) fun _ none => by
                  rw [inForce] at none; cases none⟩
                rw [arbitrates, inForce, alone]
                rw [preemptStart_eq]
                rfl
              · rw [if_neg alone]
                refine ⟨_, queued, shape (fun _ => ?_) fun _ none => by rw [inForce] at none; cases none⟩
                rw [arbitrates, inForce]
                cases waiting : a.pending with
                | nil => exact absurd waiting alone
                | cons r rest => rfl
        · rw [if_neg arbitrates]
          refine ⟨_, queued, shape (fun _ => ?_) fun on => absurd on arbitrates⟩
          cases service : a.service with
          | arbitrating => exact absurd service arbitrates
          | evacuating => rfl
          | silent => rfl

end

end Sys2Proof.Machine
end

section
/-! The rings of an owner (R121, R122), which operations leave an owner without one, and that ringing clears no flag of a
notice. -/

namespace Sys2Proof.Machine

/-- What a fold makes of one reading, where each step but one leaves that reading alone: that step's outcome. -/
theorem State.forEach_at {α : Type} {s : State} {is : List Nat} {f : State → Nat → State} (P : State → Prop) (read : State → α)
    {j : Nat} (start : P s) (keeps : ∀ t, ∀ i ∈ is, P t → P (f t i)) (leaves : ∀ t i, i ≠ j → read (f t i) = read t)
    (once : is.Nodup) :
    (j ∈ is → ∃ t, P t ∧ read t = read s ∧ read (s.forEach is f) = read (f t j)) ∧
    (j ∉ is → read (s.forEach is f) = read s) := by
  unfold State.forEach
  induction is generalizing s with
  | nil => exact ⟨fun mem => absurd mem (by simp), fun _ => rfl⟩
  | cons i is ih =>
    obtain ⟨fresh, once⟩ := List.nodup_cons.1 once
    obtain ⟨inside, outside⟩ := ih (keeps s i (List.mem_cons_self ..) start)
      (fun t k mem => keeps t k (List.mem_cons_of_mem _ mem)) once
    rw [List.foldl_cons]
    by_cases same : i = j
    · subst same
      exact ⟨fun _ => ⟨s, start, rfl, outside fresh⟩, fun out => absurd (List.mem_cons_self ..) out⟩
    · refine ⟨fun mem => ?_, fun out => ?_⟩
      · obtain ⟨t, holds, before, after⟩ := inside ((List.mem_cons.1 mem).resolve_left (Ne.symm same))
        exact ⟨t, holds, before.trans (leaves s i same), after⟩
      · rw [outside fun mem => out (List.mem_cons_of_mem _ mem), leaves s i same]

/-! ### Flags (R185) -/

section
variable (s : State)

theorem State.keepsFlags_modArbiter (i : Nat) (f : Arbiter → Arbiter) : s.KeepsFlags (s.modArbiter i f) :=
  State.keepsFlags_of_net (State.modArbiter_net s i f)

theorem State.keepsFlags_modCalls (f : Calls → Calls) : s.KeepsFlags (s.modCalls f) :=
  State.keepsFlags_of_net (State.modCalls_net s f)

theorem State.keepsFlags_toll (i : Nat) (t : Toll) (report : Report) : s.KeepsFlags (s.toll i t report) := by
  unfold State.toll
  exact State.keepsFlags_ite ((s.keepsFlags_modArbiter i _).trans (State.keepsFlags_sendTo _ _ _ _ _ _)) (.refl s)

theorem State.keepsFlags_serve (i : Nat) (r : Ring) : s.KeepsFlags (s.serve i r) := by
  unfold State.serve
  have marked : s.KeepsFlags { s with tokens := s.tokens + 1 } := State.keepsFlags_of_net rfl
  exact marked.trans ((State.keepsFlags_modArbiter _ i _).trans (State.keepsFlags_toll _ _ _ _))

theorem State.keepsFlags_choose (i : Nat) : s.KeepsFlags (s.choose i) := by
  unfold State.choose
  (repeat' split)
  · exact .refl s
  · exact s.keepsFlags_serve i _
  · exact .refl s
  · exact .refl s

theorem State.keepsFlags_ring (i : Nat) (c : RingClass) (p : Pattern) (o : RingOwner) : s.KeepsFlags (s.ring i c p o).1 := by
  have queued : ∀ f, s.KeepsFlags (s.modArbiter i f) := s.keepsFlags_modArbiter i
  unfold State.ring
  dsimp only
  (repeat' split)
  · exact .refl s
  · exact queued _
  · exact queued _
  · exact queued _
  · exact (queued _).trans (State.keepsFlags_choose _ i)
  · exact (queued _).trans (State.keepsFlags_modArbiter _ i _)
  · exact queued _
  · exact queued _
  · exact queued _

theorem State.keepsFlags_withdraw (i : Nat) (o : RingOwner) : s.KeepsFlags (s.withdraw i o) := by
  unfold State.withdraw
  split
  · exact .refl s
  · have ended : ∀ t : State, t.KeepsFlags (((t.endPattern i).toll i .stop).choose i) := fun t =>
      (t.keepsFlags_modArbiter i _).trans ((State.keepsFlags_toll _ i _ _).trans (State.keepsFlags_choose _ i))
    exact State.keepsFlags_ite ((s.keepsFlags_modArbiter i _).trans (ended _)) (s.keepsFlags_modArbiter i _)

theorem State.keepsFlags_ringAfresh (r : CallRecord) : s.KeepsFlags (s.ringAfresh r) :=
  State.KeepsFlags.trans (State.keepsFlags_forEach fun t i => t.keepsFlags_withdraw i _)
    (State.keepsFlags_forEach fun t i => t.keepsFlags_ring i _ _ _)

/-! ### Owners without a ring (R121, R122) -/

/-- An arbiter holds no request of an owner, and the owner's pattern is not in force. -/
def Arbiter.Free (a : Arbiter) (o : RingOwner) : Prop := (∀ q ∈ a.pending, q.owner ≠ o) ∧ a.inForce.ownedBy o = false

/-- An owner has no ring at a sounder. -/
def State.RingFree (j : Nat) (o : RingOwner) : Prop := ∀ a, s.arbiter j = some a → a.Free o

theorem State.ringFree_iff (j : Nat) (o : RingOwner) :
    s.RingFree j o ↔ s.ringPending j o = false ∧ s.ringInForce j o = false := by
  unfold State.RingFree State.ringPending State.ringInForce Arbiter.Free
  cases s.arbiter j with
  | none => simp
  | some a => simp

variable {s} {i j : Nat} {o : RingOwner}

theorem State.RingFree.of_eq {t : State} (free : s.RingFree j o) (same : t.arbiter j = s.arbiter j) : t.RingFree j o :=
  fun a here => free a (same ▸ here)

theorem State.RingFree.of_arbiters {t : State} (free : s.RingFree j o) (same : t.arbiters = s.arbiters) : t.RingFree j o :=
  free.of_eq (by unfold State.arbiter; rw [same])

theorem State.ringFree_of_arbiter {a : Arbiter} (here : s.arbiter j = some a) (free : a.Free o) : s.RingFree j o :=
  fun b there => by rw [← Option.some.inj (here.symm.trans there)]; exact free

theorem State.RingFree.modArbiter (free : s.RingFree j o) {f : Arbiter → Arbiter} (keeps : ∀ a, a.Free o → (f a).Free o) :
    (s.modArbiter i f).RingFree j o := by
  by_cases apart : i = j
  · subst apart
    intro b there
    rw [State.arbiter_modArbiter, if_pos rfl] at there
    obtain ⟨a, here, same⟩ := Option.map_eq_some_iff.1 there
    exact same ▸ keeps a (free a here)
  · exact free.of_eq (s.arbiter_modArbiter_other apart f)

theorem State.RingFree.toll (free : s.RingFree j o) (t : Toll) (report : Report) : (s.toll i t report).RingFree j o := by
  by_cases apart : i = j
  · subst apart
    intro b there
    cases here : s.arbiter i with
    | none =>
      rw [State.arbiter_toll, here] at there
      simp at there
    | some a =>
      obtain ⟨last, now⟩ := s.arbiter_toll_self here t report
      rw [← Option.some.inj (now.symm.trans there)]
      exact free a here
  · exact free.of_eq (s.arbiter_toll_other apart t report)

/-- Serving a request of another owner leaves an owner without a ring (R123). -/
theorem Arbiter.Free.serve {a b : Arbiter} (free : a.Free o) {r : Ring} (mem : r ∈ a.pending)
    (pending : b.pending = a.pending.erase r) {p : Pattern} {n : Nat} {phase : RingPhase}
    (inForce : b.inForce = .timed r.cls r.owner p n phase) : b.Free o := by
  refine ⟨fun q left => free.1 q ?_, ?_⟩
  · rw [pending] at left
    exact List.mem_of_mem_erase left
  · rw [inForce]
    exact decide_eq_false (free.1 r mem)

theorem State.RingFree.choose (free : s.RingFree j o) : (s.choose i).RingFree j o := by
  by_cases apart : i = j
  · subst apart
    cases here : s.arbiter i with
    | none =>
      unfold State.choose
      rw [here]
      exact free
    | some a =>
      rcases s.arbiter_choose_self here with kept | ⟨r, mem, served⟩
      · exact free.of_eq (kept.trans here.symm)
      · rw [served]
        obtain ⟨last, now⟩ := s.arbiter_serve_self here r
        exact State.ringFree_of_arbiter now ((free a here).serve mem rfl rfl)
  · exact free.of_eq (s.arbiter_choose_other apart)

/-- A ring of another owner leaves an owner without one (R121). -/
theorem State.RingFree.ring (free : s.RingFree j o) (c : RingClass) (p : Pattern) {o' : RingOwner} (other : o' ≠ o) :
    (s.ring i c p o').1.RingFree j o := by
  have appended : (s.modArbiter i fun a => { a with
      pending := a.pending ++ [{ cls := c, pattern := p, owner := o', arrival := s.now }] }).RingFree j o :=
    free.modArbiter fun a was => ⟨fun q mem => (List.mem_append.1 mem).elim (was.1 q) fun last => by
      rw [List.mem_singleton.1 last]; exact other, was.2⟩
  have kept : ∀ {f : Arbiter → Arbiter}, (∀ a, (f a).pending = a.pending ∧ (f a).inForce = a.inForce) →
      (s.modArbiter i f).RingFree j o := fun same => free.modArbiter fun a was => by
    rw [Arbiter.Free, (same a).1, (same a).2]; exact was
  have replaced : (s.modArbiter i fun a => { a with
      pending := a.pending.map fun r => if r.owner = o' then { r with cls := c, pattern := p } else r }).RingFree j o :=
    free.modArbiter fun a was => ⟨fun q mem => by
      obtain ⟨r, before, same⟩ := List.mem_map.1 mem
      rw [← same]
      split
      · exact was.1 r before
      · exact was.1 r before, was.2⟩
  unfold State.ring
  dsimp only
  (repeat' split)
  · exact free
  · exact kept fun _ => ⟨rfl, rfl⟩
  · exact replaced
  · exact kept fun _ => ⟨rfl, rfl⟩
  · exact appended.choose
  · exact appended.modArbiter fun _ was => was
  · exact appended
  · exact appended
  · exact appended

theorem State.RingFree.ring_apart (free : s.RingFree j o) (apart : i ≠ j) (c : RingClass) (p : Pattern) (o' : RingOwner) :
    (s.ring i c p o').1.RingFree j o := free.of_eq (s.arbiter_ring_other apart c p o')

/-- A withdrawal at a sounder with an arbiter (R122). -/
theorem State.withdraw_of_arbiter {a : Arbiter} (here : s.arbiter i = some a) (o : RingOwner) :
    s.withdraw i o =
      let w := s.modArbiter i fun x => { x with
        pending := a.pending.filter fun r => decide (r.owner ≠ o)
        preempt := if (a.pending.filter fun r => decide (r.owner ≠ o)) = [] then none else x.preempt }
      if a.inForce.ownedBy o then ((w.endPattern i).toll i .stop).choose i else w := by
  unfold State.withdraw
  rw [here]

/-- A pattern ended and the choice made leave an owner without a ring where no request of it is pending (R122, R123). -/
theorem State.ringFree_of_ended {a : Arbiter} (here : s.arbiter i = some a) (none : ∀ q ∈ a.pending, q.owner ≠ o) :
    (((s.endPattern i).toll i .stop).choose i).RingFree i o := by
  have ended : (s.endPattern i).RingFree i o :=
    State.ringFree_of_arbiter (State.arbiter_modArbiter_some here _) ⟨none, rfl⟩
  exact (ended.toll .stop .none).choose

/-- A withdrawal by any owner leaves an owner without a ring (R122). -/
theorem State.RingFree.withdraw (free : s.RingFree j o) (o' : RingOwner) : (s.withdraw i o').RingFree j o := by
  by_cases apart : i = j
  · subst apart
    cases here : s.arbiter i with
    | none =>
      unfold State.withdraw
      rw [here]
      exact free
    | some a =>
      have pending : ∀ q ∈ a.pending.filter fun r => decide (r.owner ≠ o'), q.owner ≠ o :=
        fun q mem => (free a here).1 q (List.mem_of_mem_filter mem)
      rw [State.withdraw_of_arbiter here]
      dsimp only
      split
      · exact State.ringFree_of_ended (State.arbiter_modArbiter_some here _) pending
      · exact State.ringFree_of_arbiter (State.arbiter_modArbiter_some here _) ⟨pending, (free a here).2⟩
  · exact free.of_eq (s.arbiter_withdraw_other apart o')

/-- An owner that withdraws has no ring at that sounder (R122). -/
theorem State.ringFree_withdraw (s : State) (j : Nat) (o : RingOwner) : (s.withdraw j o).RingFree j o := by
  cases here : s.arbiter j with
  | none =>
    unfold State.withdraw
    rw [here]
    intro a there
    rw [here] at there
    exact absurd there (by simp)
  | some a =>
    have pending : ∀ q ∈ a.pending.filter fun r => decide (r.owner ≠ o), q.owner ≠ o :=
      fun q mem => of_decide_eq_true (List.mem_filter.1 mem).2
    rw [State.withdraw_of_arbiter here]
    dsimp only
    split
    · exact State.ringFree_of_ended (State.arbiter_modArbiter_some here _) pending
    next apart =>
      exact State.ringFree_of_arbiter (State.arbiter_modArbiter_some here _) ⟨pending, Bool.eq_false_iff.2 apart⟩

theorem State.RingFree.withdrawAll (free : s.RingFree j o) (o' : RingOwner) : (s.withdrawAll o').RingFree j o :=
  State.forEach_induction (fun t => t.RingFree j o) free fun _ _ _ kept => kept.withdraw o'

theorem State.arbiter_lt {a : Arbiter} (here : s.arbiter j = some a) : j < 96 := Tab.lt_of_at? here

theorem State.withdrawAll_changes (s : State) (o : RingOwner) : ChangesOnly [.arbiters, .net, .tokens] s (s.withdrawAll o) :=
  State.withdrawAll_blank (by decide) (by decide) (by decide) s o

theorem State.withdraw_changes (s : State) (i : Nat) (o : RingOwner) : ChangesOnly [.arbiters, .net, .tokens] s (s.withdraw i o) :=
  State.withdraw_blank (by decide) (by decide) (by decide) s i o

theorem State.ring_changes (s : State) (i : Nat) (c : RingClass) (p : Pattern) (o : RingOwner) :
    ChangesOnly [.arbiters, .net, .tokens] s (s.ring i c p o).1 := State.ring_blank (by decide) (by decide) (by decide) s i c p o

/-- What withdrawing everywhere makes of one arbiter is what withdrawing at its sounder makes of it (R122). -/
theorem State.arbiter_withdrawAll (s : State) (o : RingOwner) (j : Nat) :
    (j < 96 → ∃ t, ChangesOnly [.arbiters, .net, .tokens] s t ∧ t.arbiter j = s.arbiter j ∧
      (s.withdrawAll o).arbiter j = (t.withdraw j o).arbiter j) ∧
    (96 ≤ j → (s.withdrawAll o).arbiter j = s.arbiter j) := by
  obtain ⟨inside, outside⟩ := State.forEach_at (s := s) (is := List.range 96) (f := fun s i => s.withdraw i o)
    (fun t => ChangesOnly [.arbiters, .net, .tokens] s t) (fun t => t.arbiter j) (j := j) (.refl s)
    (fun t i _ kept => kept.trans (t.withdraw_changes i o)) (fun t i apart => t.arbiter_withdraw_other apart o) List.nodup_range
  exact ⟨fun small => inside (List.mem_range.2 small), fun large => outside fun mem => absurd (List.mem_range.1 mem) (by omega)⟩

/-- An owner that withdraws everywhere has no ring left (R122). -/
theorem State.ringFree_withdrawAll (s : State) (o : RingOwner) (j : Nat) : (s.withdrawAll o).RingFree j o := by
  obtain ⟨inside, outside⟩ := s.arbiter_withdrawAll o j
  by_cases small : j < 96
  · obtain ⟨t, -, -, after⟩ := inside small
    exact (t.ringFree_withdraw j o).of_eq after
  · intro a here
    exact absurd (State.arbiter_lt here) small

/-- A withdrawal by an owner without a ring only stops the preempt timer of an empty list (R122, R125). -/
theorem State.arbiter_withdrawAll_of_free {a : Arbiter} (here : s.arbiter j = some a) (free : a.Free o) :
    (s.withdrawAll o).arbiter j = some { a with preempt := if a.pending = [] then none else a.preempt } := by
  obtain ⟨t, -, before, after⟩ := (s.arbiter_withdrawAll o j).1 (State.arbiter_lt here)
  have all : (a.pending.filter fun r => decide (r.owner ≠ o)) = a.pending :=
    List.filter_eq_self.2 fun q mem => decide_eq_true (free.1 q mem)
  rw [after, State.withdraw_of_arbiter (before.trans here), all]
  dsimp only
  rw [if_neg (by rw [free.2]; decide)]
  exact State.arbiter_modArbiter_some (before.trans here) _

/-! ### The rings of a call record (R99, R101) -/

/-- The rings of a record leave an owner without a ring, if it is another one or no ring sounder is named (R101). -/
theorem State.RingFree.placeRings (free : s.RingFree j o) (r : CallRecord)
    (other : .call r.number ≠ o ∨ j ∉ s.ringSounders r) : (s.placeRings r).RingFree j o := by
  refine State.forEach_induction (fun t => t.RingFree j o) free fun t i mem kept => ?_
  rcases other with apart | outside
  · exact kept.ring _ _ apart
  · refine kept.ring_apart (fun same => outside ?_) _ _ _
    rw [← same]
    exact List.mem_of_mem_filter mem

theorem State.ringSounders_congr {t : State} (tables : t.tables = s.tables) : t.ringSounders = s.ringSounders := by
  funext r
  unfold State.ringSounders State.stationsOf State.onOffice State.routeOf State.station
  rw [tables]

/-- A record that rings afresh leaves every owner without a ring so, if it is another one or no ring sounder is named (R101). -/
theorem State.RingFree.ringAfresh (free : s.RingFree j o) (r : CallRecord) (other : .call r.number ≠ o) :
    (s.ringAfresh r).RingFree j o := (free.withdrawAll _).placeRings r (.inl other)

/-- A record that rings afresh has no ring but at its ring sounders (R101). -/
theorem State.ringFree_ringAfresh (s : State) (r : CallRecord) (outside : j ∉ s.ringSounders r) :
    (s.ringAfresh r).RingFree j (.call r.number) := by
  refine (s.ringFree_withdrawAll (.call r.number) j).placeRings r (.inr ?_)
  rw [State.ringSounders_congr (s.withdrawAll_changes _).tables]
  exact outside

/-- A ring placed in one state is placed as well in one with the same tables, stations and moment (R121). -/
theorem State.Placed.of_congr {s t : State} {j : Nat} {c : RingClass} {p : Pattern} {o : RingOwner} {a b : Arbiter}
    (placed : s.Placed j c p o a b) (tables : t.tables = s.tables) (stations : t.stations = s.stations) (now : t.now = s.now) :
    t.Placed j c p o a b := by
  have effective : t.effective j = s.effective j := by
    unfold State.effective State.station State.stationLive
    rw [tables, stations]
  have globals : t.globals = s.globals := by unfold State.globals; rw [tables]
  unfold State.Placed at placed ⊢
  rw [State.isPresent_congr tables stations, effective, now, globals]
  exact placed

theorem State.nodup_stationsOf (s : State) (role : Role) : (s.stationsOf role).Nodup := nodup_indicesWhere _ _

/-- A PRESENT office sounder at which an OFFICE-targeted record has no ring takes a ring placed afresh as R121 says (R101). -/
theorem State.placed_ringAfresh {r : CallRecord} (office : r.target = .office) (sounder : j ∈ s.ringSounders r)
    (present : s.isPresent j = true) {a : Arbiter} (here : s.arbiter j = some a) (free : a.Free (.call r.number)) :
    ∃ b, (s.ringAfresh r).arbiter j = some b ∧
      s.Placed j r.cls.ring (.chime (if r.cls = .urgent then 3 else 2)) (.call r.number)
        { a with preempt := if a.pending = [] then none else a.preempt } b := by
  have frame := s.withdrawAll_changes (.call r.number)
  let w := s.withdrawAll (.call r.number)
  have listed : j ∈ (w.ringSounders r).filter w.isPresent := by
    refine List.mem_filter.2 ⟨?_, ?_⟩
    · rw [State.ringSounders_congr frame.tables]; exact sounder
    · rw [State.isPresent_congr frame.tables frame.stations]; exact present
  have once : ((w.ringSounders r).filter w.isPresent).Nodup := by
    unfold State.ringSounders
    rw [office]
    exact ((w.nodup_stationsOf _).filter _).filter _
  obtain ⟨t, kept, before, after⟩ := (State.forEach_at (s := w) (is := (w.ringSounders r).filter w.isPresent)
    (f := fun s i => (s.ring i r.cls.ring (s.ringPattern r) (.call r.number)).1)
    (fun t => ChangesOnly [.arbiters, .net, .tokens] w t) (fun t => t.arbiter j) (j := j) (.refl w)
    (fun t i _ kept => kept.trans (t.ring_changes i _ _ _)) (fun t i apart => t.arbiter_ring_other apart _ _ _) once).1 listed
  have pattern : t.ringPattern r = .chime (if r.cls = .urgent then 3 else 2) := by
    unfold State.ringPattern
    rw [office]
  obtain ⟨b, now, placed⟩ := t.placed_ring (before.trans (State.arbiter_withdrawAll_of_free here free)) r.cls.ring
    (.chime (if r.cls = .urgent then 3 else 2)) (.call r.number)
  refine ⟨b, ?_, ?_⟩
  · rw [← now, ← pattern]
    exact after
  · have whole : ChangesOnly [.arbiters, .net, .tokens] s t := frame.trans kept
    exact placed.of_congr whole.tables.symm whole.stations.symm whole.now.symm

end

end Sys2Proof.Machine
end

section
/-! The loss and the regain of an annunciator (R99, R110 to R112), told to the call records and the displays. -/

namespace Sys2Proof.Machine

section
variable (s : State) {i : Nat}

/-! ### Displays (R110, R111) -/

theorem State.displayList_congr {s t : State} (tables : t.tables = s.tables) (records : t.calls.records = s.calls.records) :
    t.displayList = s.displayList := by
  funext i
  unfold State.displayList State.shownOn State.showEntry State.addressOf State.routeOf State.onOffice State.station
  rw [tables, records]

theorem State.sendDisplay_changes (i : Nat) : ChangesOnly [.calls, .net] s (s.sendDisplay i) :=
  State.sendDisplay_blank (by decide) (by decide) s i

/-- A list sent is kept as the last one sent, and no record changes (R111). -/
theorem State.calls_sendDisplay (i : Nat) :
    (s.sendDisplay i).calls = { s.calls with shown := s.calls.shown.set i (some (s.displayList i)) } := by
  show ((s.modCalls _).sendTo _ _ _ _).calls = _
  rw [(State.sendTo_changes _ _ _ _ _ _).calls]
  rfl

/-- One annunciator's display recomputed (R111). -/
def State.recomputeDisplay (s : State) (i : Nat) : State :=
  if s.isPresent i ∧ s.calls.shown.at? i ≠ some (s.displayList i) then s.sendDisplay i else s

theorem State.recomputeDisplay_changes (i : Nat) : ChangesOnly [.calls, .net] s (s.recomputeDisplay i) := by
  unfold State.recomputeDisplay
  split
  · exact s.sendDisplay_changes i
  · exact .refl s

theorem State.calls_recomputeDisplay (i : Nat) :
    (s.recomputeDisplay i).calls = { s.calls with shown := (s.recomputeDisplay i).calls.shown } := by
  unfold State.recomputeDisplay
  split
  · rw [s.calls_sendDisplay]
  · rfl

theorem State.shown_recomputeDisplay {i : Nat} (inside : i < 96) (j : Nat) :
    (s.recomputeDisplay i).calls.shown.at? j =
      if i = j then (if s.isPresent j then some (s.displayList j) else s.calls.shown.at? j) else s.calls.shown.at? j := by
  unfold State.recomputeDisplay
  split
  next sends =>
    rw [s.calls_sendDisplay]
    show (Tab.set _ i _).at? j = _
    rw [Tab.at?_set]
    by_cases same : i = j
    · subst same; rw [if_pos ⟨rfl, inside⟩, if_pos rfl, if_pos sends.1]
    · rw [if_neg fun h => same h.1, if_neg same]
  next stays =>
    by_cases same : i = j
    · subst same
      rw [if_pos rfl]
      split
      next present => exact Classical.byContradiction fun differs => stays ⟨present, differs⟩
      next => rfl
    · rw [if_neg same]

/-- A state after some displays have been sent: no record has changed. -/
structure State.Displayed (s t : State) : Prop where
  frame : ChangesOnly [.calls, .net] s t
  calls : t.calls = { s.calls with shown := t.calls.shown }

theorem State.Displayed.refl : s.Displayed s := ⟨.refl s, rfl⟩

theorem State.Displayed.trans {s t u : State} (first : s.Displayed t) (second : t.Displayed u) : s.Displayed u where
  frame := first.frame.trans second.frame
  calls := by rw [second.calls, first.calls]

theorem State.Displayed.displayList {s t : State} (sent : s.Displayed t) : t.displayList = s.displayList :=
  State.displayList_congr sent.frame.tables (by rw [sent.calls])

theorem State.Displayed.isPresent {s t : State} (sent : s.Displayed t) : t.isPresent = s.isPresent :=
  State.isPresent_congr sent.frame.tables sent.frame.stations

theorem State.displayed_sendDisplay (i : Nat) : s.Displayed (s.sendDisplay i) :=
  ⟨s.sendDisplay_changes i, by rw [s.calls_sendDisplay]⟩

theorem State.displayed_recomputeDisplay (i : Nat) : s.Displayed (s.recomputeDisplay i) :=
  ⟨s.recomputeDisplay_changes i, s.calls_recomputeDisplay i⟩

theorem State.displayed_recomputeDisplays : s.Displayed s.recomputeDisplays :=
  State.forEach_induction (fun t => s.Displayed t) (.refl s) fun t i _ kept => kept.trans (t.displayed_recomputeDisplay i)

/-- After the displays are recomputed every PRESENT annunciator shows its list (R111). -/
theorem State.displaysFollow_recomputeDisplays : s.recomputeDisplays.DisplaysFollow := by
  have sent := s.displayed_recomputeDisplays
  intro j d found role present
  have read := State.forEach_read (s := s) (is := s.stationsOf .annunciator) (f := State.recomputeDisplay)
    (fun t => s.Displayed t) (fun t j => t.calls.shown.at? j)
    (fun j shown => if s.isPresent j then some (s.displayList j) else shown) (.refl s)
    (fun t i _ kept => kept.trans (t.displayed_recomputeDisplay i))
    (fun t i mem kept j => by
      rw [t.shown_recomputeDisplay (mem_indicesWhere.1 mem).1, kept.displayList, kept.isPresent])
    (nodup_indicesWhere _ _) j
  rw [sent.isPresent] at present
  have listed : j ∈ s.stationsOf .annunciator := by
    rw [State.mem_stationsOf]
    have record : s.recomputeDisplays.station = s.station := by unfold State.station; rw [sent.frame.tables]
    exact ⟨d, record ▸ found, role⟩
  rw [if_pos listed, if_pos present] at read
  rw [sent.displayList]
  exact read

theorem State.sendDisplay_grows (i : Nat) {p : Nat} (line : p < 4) :
    ∃ later, ((s.sendDisplay i).port p).waiting .normal = (s.port p).waiting .normal ++ later :=
  State.sendTo_grows _ i _ _ (by decide) line

theorem State.recomputeDisplays_grows {p : Nat} (line : p < 4) :
    ∃ later, (s.recomputeDisplays.port p).waiting .normal = (s.port p).waiting .normal ++ later := by
  refine State.forEach_induction (f := State.recomputeDisplay)
    (fun t => ∃ later, (t.port p).waiting .normal = (s.port p).waiting .normal ++ later) ⟨[], (List.append_nil _).symm⟩ ?_
  rintro t i - ⟨later, waits⟩
  unfold State.recomputeDisplay
  split
  · obtain ⟨more, joins⟩ := t.sendDisplay_grows i line
    exact ⟨later ++ more, by rw [joins, waits, List.append_assoc]⟩
  · exact ⟨later, waits⟩

theorem State.keepsFlags_recomputeDisplays : s.KeepsFlags s.recomputeDisplays := by
  refine State.keepsFlags_forEach (f := State.recomputeDisplay) fun t i => ?_
  unfold State.recomputeDisplay
  exact State.keepsFlags_ite ((t.keepsFlags_modCalls _).trans (State.keepsFlags_sendTo _ _ _ _ _ _)) (.refl t)

/-- The regain of an annunciator is told: it is sent its list (R111, R112). -/
theorem State.annunciatorRegained_annunciatorRegain : s.AnnunciatorRegained (s.annunciatorRegain i) i := by
  have first := s.displayed_sendDisplay i
  have sent := first.trans (State.displayed_recomputeDisplays _)
  refine ⟨sent.calls, State.displaysFollow_recomputeDisplays _, ?_, sent.frame.mono (by decide)⟩
  show s.Sent (s.sendDisplay i).recomputeDisplays i .normal 0x22#8 ((s.sendDisplay i).recomputeDisplays.displayList i).payload
  rw [sent.displayList]
  have queued : s.Sent (s.sendDisplay i) i .normal 0x22#8 (s.displayList i).payload :=
    (State.sent_sendTo _ i Kind.showList (s.displayList i).payload (by decide)).of_queues rfl fun _ _ => ⟨rfl, rfl⟩
  exact queued.later fun p line => State.recomputeDisplays_grows _ line

/-! ### Targets without a lost annunciator (R99, R112) -/

/-- Whether a record shows on an annunciator as its primary or its secondary (R112). -/
def State.showsOn (s : State) (i : Nat) (r : CallRecord) : Bool :=
  match r.target with
  | .primary => (s.routeOf r.point).any fun t => decide (t.primary = i)
  | .secondary => (s.routeOf r.point).any fun t => decide (t.secondary = some i)
  | .office => false

/-- The target without a lost annunciator is the next one of a record that shows on it, and else the one it has (R99, R112). -/
theorem State.targetWithout_eq (i : Nat) (r : CallRecord) :
    s.targetWithout i r = if s.showsOn i r then s.nextTarget r.point r.target else r.target := by
  unfold State.targetWithout State.showsOn
  cases target : r.target with
  | office => simp
  | primary =>
    cases route : s.routeOf r.point with
    | none => simp
    | some t => simp [State.nextTarget, State.available, route]
  | secondary =>
    cases route : s.routeOf r.point with
    | none => simp
    | some t => simp [State.nextTarget]

theorem State.showsOn_office {r : CallRecord} (office : r.target = .office) : s.showsOn i r = false := by
  unfold State.showsOn
  rw [office]

/-- A record that shows on an annunciator takes another target as it is lost (R99). -/
theorem State.nextTarget_ne {r : CallRecord} (shows : s.showsOn i r = true) : s.nextTarget r.point r.target ≠ r.target := by
  cases target : r.target with
  | office => rw [s.showsOn_office target] at shows; exact absurd shows (by decide)
  | primary =>
    unfold State.nextTarget
    dsimp only
    split <;> decide
  | secondary =>
    show Target.office ≠ .secondary
    decide

theorem State.nextTarget_congr {s t : State} (tables : t.tables = s.tables) (stations : t.stations = s.stations) :
    t.nextTarget = s.nextTarget := by
  have route : t.routeOf = s.routeOf := by unfold State.routeOf; rw [tables]
  funext p x
  unfold State.nextTarget State.available
  rw [State.isPresent_congr tables stations, route]

/-! ### Records moved (R112) -/

theorem State.moveRecord_changes (r : CallRecord) : ChangesOnly [.calls, .arbiters, .net, .tokens] s (s.moveRecord r) :=
  State.moveRecord_blank (by decide) (by decide) (by decide) (by decide) s r

theorem State.moveRecords_changes (l : List CallRecord) :
    ChangesOnly [.calls, .arbiters, .net, .tokens] s (l.foldl State.moveRecord s) :=
  State.foldl_blank _ _ _ fun t r => t.moveRecord_changes r

/-- A record given its next target (R99). -/
def CallRecord.retarget (x : CallRecord) (t : Target) : CallRecord := { x with target := t }

/-- Whether a moved record rings afresh (R112). -/
def State.ringsAfresh (s : State) (r : CallRecord) : Bool :=
  !r.held && decide (s.nextTarget r.point r.target = .office ∨
    s.ringSounders r ≠ s.ringSounders (r.retarget (s.nextTarget r.point r.target)))

/-- A record moved, in the steps of R112: its new target, its rings, and the notice where it goes to OFFICE. -/
theorem State.moveRecord_eq (r : CallRecord) :
    s.moveRecord r =
      let w := s.modRecord r.number fun x => x.retarget (s.nextTarget r.point r.target)
      let v := if s.ringsAfresh r then w.ringAfresh (r.retarget (s.nextTarget r.point r.target)) else w
      if s.nextTarget r.point r.target = .office then
        v.notifyOffice (r.retarget (s.nextTarget r.point r.target)) .annunciatorLost
      else v := rfl

theorem State.ringAfresh_changes (r : CallRecord) : ChangesOnly [.arbiters, .net, .tokens] s (s.ringAfresh r) :=
  State.ringAfresh_blank (by decide) (by decide) (by decide) s r

theorem State.notifyOffice_changes (r : CallRecord) (why : OfficeReason) : ChangesOnly [.net] s (s.notifyOffice r why) :=
  State.notify_blank (by decide) s _

theorem State.calls_moveRecord (r : CallRecord) :
    (s.moveRecord r).calls = { s.calls with records := s.calls.records.map fun x =>
      if x.number = r.number then x.retarget (s.nextTarget r.point r.target) else x } := by
  have rung : ∀ w : State, (if s.ringsAfresh r then w.ringAfresh (r.retarget (s.nextTarget r.point r.target)) else w).calls =
      w.calls := by
    intro w
    split
    · exact (w.ringAfresh_changes _).calls
    · rfl
  rw [s.moveRecord_eq]
  dsimp only
  split
  · rw [(State.notifyOffice_changes _ _ _).calls, rung]
    rfl
  · rw [rung]
    rfl

theorem State.keepsFlags_moveRecord (r : CallRecord) : s.KeepsFlags (s.moveRecord r) := by
  have rung : ∀ w : State, w.KeepsFlags
      (if s.ringsAfresh r then w.ringAfresh (r.retarget (s.nextTarget r.point r.target)) else w) := fun w =>
    State.keepsFlags_ite (w.keepsFlags_ringAfresh _) (.refl w)
  have moved := s.keepsFlags_modCalls fun c => { c with
    records := c.records.map fun x => if x.number = r.number then x.retarget (s.nextTarget r.point r.target) else x }
  rw [s.moveRecord_eq]
  exact State.keepsFlags_ite ((moved.trans (rung _)).trans (State.keepsFlags_notify _ _)) (moved.trans (rung _))

theorem State.keepsFlags_moveRecords (l : List CallRecord) : s.KeepsFlags (l.foldl State.moveRecord s) :=
  State.keepsFlags_foldl (fun t r => t.keepsFlags_moveRecord r) l s

/-- A record that goes to OFFICE sets the flag of CALL_OFFICE (R99). -/
theorem State.moveRecord_flag {r : CallRecord} (office : s.nextTarget r.point r.target = .office) :
    (s.moveRecord r).net.mgmt.sticky.getLsbD 19 = true := by
  rw [s.moveRecord_eq]
  dsimp only
  rw [if_pos office, State.notifyOffice, State.getLsbD_notify]
  exact Bool.or_true _

/-- Another record's move leaves an owner without a ring so (R112). -/
theorem State.RingFree.moveRecord {s : State} {j : Nat} {o : RingOwner} (free : s.RingFree j o) {r : CallRecord}
    (other : .call r.number ≠ o) : (s.moveRecord r).RingFree j o := by
  have rung : ∀ w : State, w.RingFree j o →
      (if s.ringsAfresh r then w.ringAfresh (r.retarget (s.nextTarget r.point r.target)) else w).RingFree j o := by
    intro w kept
    split
    · exact kept.ringAfresh _ other
    · exact kept
  have moved : (s.modRecord r.number fun x => x.retarget (s.nextTarget r.point r.target)).RingFree j o := free.of_arbiters rfl
  rw [s.moveRecord_eq]
  dsimp only
  split
  · exact (rung _ moved).of_arbiters (State.notifyOffice_changes _ _ _).arbiters
  · exact rung _ moved

theorem State.RingFree.moveRecords {s : State} {j : Nat} {o : RingOwner} (free : s.RingFree j o) {l : List CallRecord}
    (others : ∀ r ∈ l, RingOwner.call r.number ≠ o) : (l.foldl State.moveRecord s).RingFree j o := by
  induction l generalizing s with
  | nil => exact free
  | cons r l ih =>
    exact ih (free.moveRecord (others r (List.mem_cons_self ..))) fun x mem => others x (List.mem_cons_of_mem _ mem)

/-- The office sounders are those on the office line (R99). -/
theorem State.mem_ringSounders_office {r : CallRecord} (office : r.target = .office) (j : Nat) :
    j ∈ s.ringSounders r ↔ j ∈ s.stationsOf .sounder ∧ s.onOffice j = true := by
  unfold State.ringSounders
  rw [office]
  exact List.mem_filter

theorem State.ringsAfresh_of_office {r : CallRecord} (office : s.nextTarget r.point r.target = .office) (free : r.held = false) :
    s.ringsAfresh r = true := by
  unfold State.ringsAfresh
  rw [free, decide_eq_true (Or.inl office)]
  rfl

/-- A record that is not HELD and goes to OFFICE rings afresh, and is notified (R99, R112). -/
theorem State.moveRecord_of_office {r : CallRecord} (office : s.nextTarget r.point r.target = .office) (free : r.held = false) :
    s.moveRecord r = ((s.modRecord r.number fun x => x.retarget .office).ringAfresh (r.retarget .office)).notifyOffice
      (r.retarget .office) .annunciatorLost := by
  rw [s.moveRecord_eq, s.ringsAfresh_of_office office free, office]
  rfl

/-- A record that goes to OFFICE keeps no ring but at the office sounders (R99, R101, R112). -/
theorem State.ringFree_moveRecord {r : CallRecord} (office : s.nextTarget r.point r.target = .office) (free : r.held = false)
    {j : Nat} (apart : s.onOffice j = false) : (s.moveRecord r).RingFree j (.call r.number) := by
  rw [s.moveRecord_of_office office free]
  have rung : ((s.modRecord r.number fun x => x.retarget .office).ringAfresh (r.retarget .office)).RingFree j
      (.call r.number) := by
    refine State.ringFree_ringAfresh _ (r.retarget .office) fun mem => ?_
    rw [State.mem_ringSounders_office _ rfl] at mem
    have on : s.onOffice j = true := mem.2
    rw [apart] at on
    exact absurd on (by decide)
  exact rung.of_arbiters (State.notifyOffice_changes _ _ _).arbiters

/-- A record that goes from its primary to its secondary keeps its rings, and so does a HELD one (R112). -/
theorem State.ringsAfresh_of_quiet {r : CallRecord} (quiet : r.held = true ∨ s.nextTarget r.point r.target ≠ .office)
    (notOffice : r.target ≠ .office) : s.ringsAfresh r = false := by
  unfold State.ringsAfresh
  rcases quiet with held | elsewhere
  · rw [held]; rfl
  · have same : s.ringSounders r = s.ringSounders (r.retarget (s.nextTarget r.point r.target)) := by
      unfold State.ringSounders CallRecord.retarget
      generalize s.nextTarget r.point r.target = next at elsewhere ⊢
      cases target : r.target with
      | office => exact absurd target notOffice
      | primary | secondary =>
        cases next with
        | office => exact absurd rfl elsewhere
        | primary | secondary => rfl
    rw [decide_eq_false fun h => h.elim elsewhere fun differ => differ same, Bool.and_false]

theorem State.moveRecord_quiet {r : CallRecord} (quiet : r.held = true ∨ s.nextTarget r.point r.target ≠ .office)
    (notOffice : r.target ≠ .office) : ChangesOnly [.calls, .net] s (s.moveRecord r) := by
  have moved : ChangesOnly [.calls, .net] s (s.modRecord r.number fun x => x.retarget (s.nextTarget r.point r.target)) :=
    State.modCalls_blank (by decide) s _
  rw [s.moveRecord_eq, s.ringsAfresh_of_quiet quiet notOffice]
  simp only [Bool.false_eq_true, if_false]
  split
  · exact moved.trans ((State.notifyOffice_changes _ _ _).mono (by decide))
  · exact moved

/-! ### All records of a lost annunciator moved (R112) -/

/-- Records moved, where the numbers of the records are distinct: each one that is moved takes its next target. -/
theorem State.calls_moveRecords (l : List CallRecord) (records : List CallRecord)
    (known : ∀ r ∈ l, ∀ x ∈ records, x.number = r.number → r = x) (f : CallRecord → CallRecord)
    (kept : ∀ x ∈ records, f x = x.retarget (f x).target)
    (now : s.calls.records = records.map f) :
    (l.foldl State.moveRecord s).calls = { s.calls with
      records := records.map fun x => if x ∈ l then x.retarget (s.nextTarget x.point x.target) else f x } := by
  induction l generalizing s f with
  | nil => simp [← now]
  | cons r l ih =>
    have moved := s.calls_moveRecord r
    have next : (s.moveRecord r).nextTarget = s.nextTarget :=
      State.nextTarget_congr (s.moveRecord_changes r).tables (s.moveRecord_changes r).stations
    have step : (s.moveRecord r).calls.records = records.map fun x =>
        if x = r then x.retarget (s.nextTarget x.point x.target) else f x := by
      rw [moved]
      dsimp only
      rw [now, List.map_map]
      refine List.map_congr_left fun x mem => ?_
      have number : (f x).number = x.number := by rw [kept x mem]; rfl
      rw [Function.comp_apply, number]
      by_cases same : x.number = r.number
      · obtain rfl := known r (List.mem_cons_self ..) x mem same
        rw [if_pos rfl, if_pos rfl, kept r mem]; rfl
      · rw [if_neg same, if_neg fun h => same (congrArg CallRecord.number h)]
    have all := ih (s := s.moveRecord r) (fun y mem => known y (List.mem_cons_of_mem _ mem))
      (fun x => if x = r then x.retarget (s.nextTarget x.point x.target) else f x)
      (fun x mem => by
        split
        · rfl
        · exact kept x mem) step
    rw [List.foldl_cons, all, next, moved]
    refine congrArg (fun rs => { s.calls with records := rs }) (List.map_congr_left fun x _ => ?_)
    by_cases here : x ∈ l
    · rw [if_pos here, if_pos (List.mem_cons_of_mem _ here)]
    · rw [if_neg here]
      by_cases same : x = r
      · rw [if_pos same, if_pos (same ▸ List.mem_cons_self ..)]
      · rw [if_neg same, if_neg fun mem => (List.mem_cons.1 mem).elim same here]

/-- Records with distinct numbers are told apart by their numbers. -/
theorem eq_of_number {records : List CallRecord} (once : (records.map CallRecord.number).Nodup) {r x : CallRecord}
    (first : r ∈ records) (second : x ∈ records) (same : x.number = r.number) : r = x :=
  List.inj_on_of_nodup_map once first second same.symm

/-- A list without repeats whose only entry is known. -/
theorem eq_singleton_of_nodup {α : Type} {l : List α} {a : α} (once : l.Nodup) (mem : a ∈ l) (only : ∀ b ∈ l, b = a) :
    l = [a] := by
  cases l with
  | nil => exact absurd mem (by simp)
  | cons x xs =>
    obtain rfl := only x (List.mem_cons_self ..)
    cases xs with
    | nil => rfl
    | cons y ys =>
      obtain rfl := only y (by simp)
      exact absurd once (by simp)

theorem State.targetWithout_congr {s t : State} (tables : t.tables = s.tables) (stations : t.stations = s.stations) (i : Nat) :
    t.targetWithout i = s.targetWithout i := by
  have shows : t.showsOn i = s.showsOn i := by unfold State.showsOn State.routeOf; rw [tables]
  funext r
  rw [State.targetWithout_eq, State.targetWithout_eq, shows, State.nextTarget_congr tables stations]

/-- Records moved without one that goes to OFFICE and may ring change no ring (R112). -/
theorem State.moveRecords_quiet {l : List CallRecord}
    (quiet : ∀ r ∈ l, (r.held = true ∨ s.nextTarget r.point r.target ≠ .office) ∧ r.target ≠ .office) :
    ChangesOnly [.calls, .net] s (l.foldl State.moveRecord s) := by
  induction l generalizing s with
  | nil => exact .refl s
  | cons r l ih =>
    obtain ⟨still, notOffice⟩ := quiet r (List.mem_cons_self ..)
    have frame := s.moveRecord_quiet still notOffice
    refine frame.trans (ih _ fun x mem => ?_)
    rw [State.nextTarget_congr frame.tables frame.stations]
    exact quiet x (List.mem_cons_of_mem _ mem)

/-- A record among those moved that goes to OFFICE sets the flag of CALL_OFFICE and, where it is not HELD and the numbers
differ, keeps no ring but at the office sounders (R99, R101, R112). -/
theorem State.moveRecords_office {l : List CallRecord} {r : CallRecord} (mem : r ∈ l)
    (office : s.nextTarget r.point r.target = .office) :
    (l.foldl State.moveRecord s).net.mgmt.sticky.getLsbD 19 = true ∧
    (r.held = false → (l.map CallRecord.number).Nodup → ∀ j, s.onOffice j = false →
      (l.foldl State.moveRecord s).RingFree j (.call r.number)) := by
  obtain ⟨before, behind, rfl⟩ := List.append_of_mem mem
  rw [List.foldl_append, List.foldl_cons]
  have frame := s.moveRecords_changes before
  generalize before.foldl State.moveRecord s = u at frame ⊢
  have office' : u.nextTarget r.point r.target = .office := by
    rw [State.nextTarget_congr frame.tables frame.stations]; exact office
  refine ⟨State.keepsFlags_moveRecords _ behind 19 (u.moveRecord_flag office'), fun free once j apart => ?_⟩
  have apart' : u.onOffice j = false := by rw [State.onOffice, State.station, frame.tables]; exact apart
  refine (u.ringFree_moveRecord office' free apart').moveRecords fun x later same => ?_
  rw [List.map_append, List.map_cons, List.nodup_append] at once
  obtain ⟨-, rest, -⟩ := once
  have number : x.number = r.number := by injection same
  exact (List.nodup_cons.1 rest).1 (number ▸ List.mem_map_of_mem later)

/-- The loss of an annunciator is told to the records and the sounders (R99, R101, R112). -/
theorem State.annunciatorLost_annunciatorLoss : s.AnnunciatorLost (s.annunciatorLoss i) i := by
  let moved := s.calls.records.filter (s.showsOn i)
  let u := moved.foldl State.moveRecord s
  have frame : ChangesOnly [.calls, .arbiters, .net, .tokens] s u := s.moveRecords_changes moved
  have sent : u.Displayed (s.annunciatorLoss i) := u.displayed_recomputeDisplays
  have whole : ChangesOnly [.calls, .arbiters, .net, .tokens] s (s.annunciatorLoss i) :=
    frame.trans (sent.frame.mono (by decide))
  have target := State.targetWithout_congr whole.tables whole.stations i
  have shows : ∀ r ∈ s.calls.records, r.target ≠ .office → s.targetWithout i r = .office →
      r ∈ moved ∧ s.nextTarget r.point r.target = .office := by
    intro r mem notOffice goes
    rw [s.targetWithout_eq] at goes
    by_cases on : s.showsOn i r = true
    · rw [if_pos on] at goes
      exact ⟨List.mem_filter.2 ⟨mem, on⟩, goes⟩
    · rw [if_neg on] at goes
      exact absurd goes notOffice
  have notOffice : ∀ r ∈ moved, r.target ≠ .office := by
    intro r mem office
    have on := (List.mem_filter.1 mem).2
    rw [s.showsOn_office office] at on
    exact absurd on (by decide)
  unfold State.AnnunciatorLost
  rw [target]
  refine ⟨fun once => ⟨?_, fun r mem before goes => ?_⟩, fun still => ?_, State.displaysFollow_recomputeDisplays _,
    whole.mono (by decide)⟩
  · have known : ∀ r ∈ moved, ∀ x ∈ s.calls.records, x.number = r.number → r = x := fun r mem x there same =>
      eq_of_number once (List.mem_of_mem_filter mem) there same
    have records := s.calls_moveRecords moved s.calls.records known id (fun _ _ => rfl) (List.map_id _).symm
    refine sent.calls.trans ((congrArg (fun c : Calls => { c with shown := (s.annunciatorLoss i).calls.shown }) records).trans ?_)
    refine congrArg (fun rs => { s.calls with records := rs, shown := (s.annunciatorLoss i).calls.shown })
      (List.map_congr_left fun x there => ?_)
    rw [s.targetWithout_eq]
    by_cases on : s.showsOn i x = true
    · rw [if_pos (List.mem_filter.2 ⟨there, on⟩), if_pos on]; rfl
    · rw [if_neg fun mem => on (List.mem_filter.1 mem).2, if_neg on]; rfl
  · obtain ⟨listed, office⟩ := shows r mem before goes
    obtain ⟨flag, rings⟩ := s.moveRecords_office listed office
    have numbers : (moved.map CallRecord.number).Nodup := once.sublist (List.filter_sublist.map _)
    refine ⟨State.keepsFlags_recomputeDisplays u 19 flag, fun free => ⟨fun j apart => ?_, ?_⟩⟩
    · exact ((State.ringFree_iff _ _ _).1 ((rings free numbers j apart).of_arbiters sent.frame.arbiters))
    · intro only j d a found sounder line present here pending inForce
      have alone : moved = [r] := eq_singleton_of_nodup (List.Nodup.of_map _ numbers) listed fun x there =>
        only x (List.mem_of_mem_filter there) (by
          rw [s.targetWithout_eq, if_pos (List.mem_filter.1 there).2]
          exact s.nextTarget_ne (List.mem_filter.1 there).2)
      have rung : u = ((s.modRecord r.number fun x => x.retarget .office).ringAfresh (r.retarget .office)).notifyOffice
          (r.retarget .office) .annunciatorLost := by
        show moved.foldl State.moveRecord s = _
        rw [alone]
        exact s.moveRecord_of_office office free
      have listed' : j ∈ (s.modRecord r.number fun x => x.retarget .office).ringSounders (r.retarget .office) := by
        rw [State.mem_ringSounders_office _ rfl]
        refine ⟨(State.mem_stationsOf _ _ _).2 ⟨d, found, sounder⟩, ?_⟩
        show s.onOffice j = true
        rw [State.onOffice, found, Option.any_some]
        exact decide_eq_true line
      have present' : (s.modRecord r.number fun x => x.retarget .office).isPresent j = true := by
        rw [← present]
        exact congrFun (State.isPresent_congr whole.tables whole.stations).symm j
      have none : a.Free (.call r.number) := (s.ringFree_iff j (.call r.number)).2 ⟨pending, inForce⟩ a here
      obtain ⟨b, now, placed⟩ := State.placed_ringAfresh (s := s.modRecord r.number fun x => x.retarget .office)
        (r := r.retarget .office) rfl listed' present' here none
      refine ⟨b, ?_, placed.of_congr whole.tables whole.stations whole.now⟩
      rw [State.arbiter, sent.frame.arbiters, rung, (State.notifyOffice_changes _ _ _).arbiters]
      exact now
  · have quiet : ∀ r ∈ moved, (r.held = true ∨ s.nextTarget r.point r.target ≠ .office) ∧ r.target ≠ .office := by
      intro r mem
      refine ⟨?_, notOffice r mem⟩
      by_cases held : r.held = true
      · exact .inl held
      · refine .inr fun office => notOffice r mem (still r (List.mem_of_mem_filter mem) (Bool.eq_false_iff.2 held) ?_)
        rw [s.targetWithout_eq, if_pos (List.mem_filter.1 mem).2]
        exact office
    exact ((s.moveRecords_quiet quiet).trans sent.frame).mono (by decide)

end

end Sys2Proof.Machine
end

section
/-! No loss and no regain that is handed over clears a flag of a notice, and each is told to the job of its role (R13, R185). -/

namespace Sys2Proof.Machine

section
variable (s : State) {i : Nat}

/-! ### Flags (R185) -/

theorem State.keepsFlags_recomputeFaults : s.KeepsFlags s.recomputeFaults := by
  refine State.keepsFlags_forEach fun t z => ?_
  rw [t.recomputeFault_eq]
  have set : t.KeepsFlags (t.modZone z fun x => { x with fault := t.faulty z }) :=
    State.keepsFlags_of_net (State.modZone_net t z _)
  exact State.keepsFlags_ite (.refl t) (set.trans (State.keepsFlags_notify _ _))

theorem State.keepsFlags_modPoint (n : Nat) (f : PointLive → PointLive) : s.KeepsFlags (s.modPoint n f) :=
  State.keepsFlags_of_net (State.modPoint_net s n f)

theorem State.keepsFlags_panelLoss (i : Nat) : s.KeepsFlags (s.panelLoss i) := by
  have points : s.KeepsFlags (s.forEach (s.panelPoints i) fun s n =>
      s.modPoint n fun _ => { state := .fault, source := some .link }) :=
    State.keepsFlags_forEach fun t n => t.keepsFlags_modPoint n _
  exact points.trans (State.keepsFlags_recomputeFaults _)

theorem State.keepsFlags_panelRegain (i : Nat) : s.KeepsFlags (s.panelRegain i) := by
  have points : s.KeepsFlags (s.forEach (s.panelPoints i) fun s n =>
      if (s.pointLive n).source = some .link then s.modPoint n fun _ => {} else s) :=
    State.keepsFlags_forEach fun t n => State.keepsFlags_ite (t.keepsFlags_modPoint n _) (.refl t)
  exact points.trans (State.keepsFlags_recomputeFaults _)

theorem State.keepsFlags_modShutter (n : Nat) (f : ShutterLive → ShutterLive) : s.KeepsFlags (s.modShutter n f) :=
  State.keepsFlags_of_net (State.modShutter_net s n f)

theorem State.keepsFlags_setFault (n : Nat) (f : ShutterFault) (on : Bool) : s.KeepsFlags (s.setFault n f on) := by
  have lamps : ∀ (t : State) (r : Option LandingRef), t.KeepsFlags (t.recomputeLampAt r) := by
    intro t r
    cases r with
    | none => exact .refl t
    | some r => exact t.keepsFlags_recomputeLamps r.shaft
  unfold State.setFault
  exact State.keepsFlags_ite (.refl s) (((s.keepsFlags_modShutter n _).trans (lamps _ _)).trans (State.keepsFlags_notify _ _))

theorem State.keepsFlags_sendAfresh (n : Nat) (m : ShutCommand) : s.KeepsFlags (s.sendAfresh n m) := by
  have shut : ∀ (t : State) (bytes : List Byte), t.KeepsFlags (t.sendShut n bytes) := by
    intro t bytes
    unfold State.sendShut
    split
    · exact .refl t
    · exact State.keepsFlags_sendTo _ _ _ _ _ _
  unfold State.sendAfresh
  exact State.keepsFlags_ite ((s.keepsFlags_modShutter n _).trans (shut _ _)) (.refl s)

theorem State.keepsFlags_driveLoss (i : Nat) : s.KeepsFlags (s.driveLoss i) := by
  unfold State.driveLoss
  split
  · exact s.keepsFlags_setFault _ _ _
  · exact .refl s

theorem State.keepsFlags_driveRegain (i : Nat) : s.KeepsFlags (s.driveRegain i) := by
  unfold State.driveRegain
  split
  next n _ =>
    have cleared := s.keepsFlags_setFault n .comms false
    dsimp only
    split
    · exact State.keepsFlags_ite (cleared.trans (State.keepsFlags_sendAfresh _ _ _)) cleared
    · exact cleared
  next => exact .refl s

theorem State.keepsFlags_degrade (k : Nat) : s.KeepsFlags (s.degrade k) := by
  have shaft : ∀ (t : State) (f : Shaft → Shaft), t.KeepsFlags (t.modShaft k f) := fun t f =>
    State.keepsFlags_of_net (State.modShaft_net t k f)
  have set : s.KeepsFlags (s.setDegraded k (s.landingSilent k)) :=
    State.keepsFlags_ite (.refl s) ((shaft s _).trans (State.keepsFlags_notify _ _))
  exact State.keepsFlags_ite (set.trans (shaft _ _)) (.refl s)

theorem State.keepsFlags_landingStationChanged (i : Nat) (regain : Bool) : s.KeepsFlags (s.landingStationChanged i regain) := by
  cases here : s.landingOf i with
  | none => rw [s.landingStationChanged_of_none here]; exact .refl s
  | some at_ =>
    obtain ⟨k, l⟩ := at_
    cases enabled : s.shaftEnabled k with
    | false => rw [s.landingStationChanged_of_disabled here enabled]; exact .refl s
    | true => exact (s.keepsFlags_degrade k).trans (s.degraded_landingStationChanged here enabled regain).flags

theorem State.keepsFlags_annunciatorLoss (i : Nat) : s.KeepsFlags (s.annunciatorLoss i) :=
  (s.keepsFlags_moveRecords _).trans (State.keepsFlags_recomputeDisplays _)

theorem State.keepsFlags_annunciatorRegain (i : Nat) : s.KeepsFlags (s.annunciatorRegain i) := by
  have sent : s.KeepsFlags (s.sendDisplay i) := (s.keepsFlags_modCalls _).trans (State.keepsFlags_sendTo _ _ _ _ _ _)
  exact sent.trans (State.keepsFlags_recomputeDisplays _)

theorem State.keepsFlags_sounderRegain (i : Nat) : s.KeepsFlags (s.sounderRegain i) := by
  unfold State.sounderRegain
  split
  · exact .refl s
  · exact s.keepsFlags_toll _ _ _

theorem State.keepsFlags_modPlayback (f : Playback → Playback) : s.KeepsFlags (s.modPlayback f) :=
  State.keepsFlags_of_net (State.modPlayback_net s f)

theorem State.keepsFlags_countPlayback (f : PlaybackCounters → PlaybackCounters) : s.KeepsFlags (s.countPlayback f) :=
  s.keepsFlags_modPlayback _

theorem State.keepsFlags_tune (i : Nat) : s.KeepsFlags (s.tune i) := by
  unfold State.tune
  exact State.keepsFlags_ite ((s.keepsFlags_modPlayback _).trans (State.keepsFlags_sendTo _ _ _ _ _ _)) (.refl s)

theorem State.keepsFlags_emit (c : Chan) (g : Addr) (b : Nat) (xs : List Sample) : s.KeepsFlags (s.emit c g b xs) :=
  State.keepsFlags_forEach fun t p => t.keepsFlags_offer p _ _

theorem State.keepsFlags_countBusy : s.KeepsFlags s.countBusy := by
  unfold State.countBusy
  split
  · exact fun _ set => set
  · exact .refl s

theorem State.keepsFlags_settleEvac : s.KeepsFlags s.settleEvac := by
  unfold State.settleEvac
  dsimp only
  split
  · exact (s.keepsFlags_countBusy.trans (State.keepsFlags_emit _ _ _ _ _)).trans (State.keepsFlags_modPlayback _ _)
  · exact s.keepsFlags_modPlayback _
  · exact .refl s

theorem State.keepsFlags_settleStored : s.KeepsFlags s.settleStored := by
  unfold State.settleStored
  split
  · exact State.keepsFlags_ite
      ((s.keepsFlags_countBusy.trans (State.keepsFlags_emit _ _ _ _ _)).trans (State.keepsFlags_modPlayback _ _)) (.refl s)
  · exact .refl s

theorem State.keepsFlags_recomputeMap : s.KeepsFlags s.recomputeMap := by
  unfold State.recomputeMap
  exact (s.keepsFlags_modPlayback _).trans
    (State.keepsFlags_forEach fun t z => State.keepsFlags_forEach fun u j => u.keepsFlags_tune j)

theorem State.keepsFlags_fallbackRing (z : Nat) : s.KeepsFlags (s.fallbackRing z) := by
  refine State.keepsFlags_forEach fun t j => ?_
  have rung := t.keepsFlags_ring j .fallback (.chime 2) .playback
  exact State.keepsFlags_ite (rung.trans (State.keepsFlags_countPlayback _ _)) rung

theorem State.keepsFlags_startRequest (r : StoredRequest) : s.KeepsFlags (s.startRequest r) := by
  have rings : ∀ zs, s.KeepsFlags (s.forEach zs State.fallbackRing) := fun zs =>
    State.keepsFlags_forEach fun t z => t.keepsFlags_fallbackRing z
  unfold State.startRequest
  exact State.keepsFlags_ite ((rings _).trans (State.keepsFlags_countPlayback _ _))
    ((rings _).trans (State.keepsFlags_modPlayback _ _))

theorem State.keepsFlags_startHeads (rs : List StoredRequest) : s.KeepsFlags (s.startHeads rs) := by
  induction rs generalizing s with
  | nil => exact s.keepsFlags_modPlayback _
  | cons r rest ih =>
    have started : s.KeepsFlags ((s.modPlayback fun p => { p with queue := rest }).startRequest r) :=
      (s.keepsFlags_modPlayback _).trans (State.keepsFlags_startRequest _ r)
    unfold State.startHeads
    exact State.keepsFlags_ite started (started.trans (ih _))

theorem State.keepsFlags_startNext : s.KeepsFlags s.startNext := by
  unfold State.startNext
  exact State.keepsFlags_ite (.refl s) (s.keepsFlags_startHeads _)

theorem State.keepsFlags_loseZones : s.KeepsFlags s.loseZones := by
  have rings : ∀ (t : State) zs, t.KeepsFlags (t.forEach zs State.fallbackRing) := fun t zs =>
    State.keepsFlags_forEach fun u z => u.keepsFlags_fallbackRing z
  have abandoned : ∀ (t : State) (p : StoredPlay), t.KeepsFlags (t.abandonStored p) := fun t p =>
    (((t.keepsFlags_modPlayback _).trans (State.keepsFlags_countPlayback _ _)).trans (State.keepsFlags_notify _ _)).trans
      (State.keepsFlags_startNext _)
  unfold State.loseZones
  split
  · exact .refl s
  · have left : ∀ f zs g, s.KeepsFlags (((s.countPlayback f).forEach zs State.fallbackRing).modPlayback g) := fun _ _ _ =>
      ((s.keepsFlags_countPlayback _).trans (rings _ _)).trans (State.keepsFlags_modPlayback _ _)
    exact State.keepsFlags_ite ((left _ _ _).trans (abandoned _ _)) (left _ _ _)

theorem State.keepsFlags_settlePlayback : s.KeepsFlags s.settlePlayback :=
  ((s.keepsFlags_loseZones.trans (State.keepsFlags_recomputeMap _)).trans (State.keepsFlags_settleEvac _)).trans
    (State.keepsFlags_settleStored _)

/-- A loss handed over clears no flag of a notice (R185). -/
theorem State.keepsFlags_handLoss (i : Nat) (role : Role) : s.KeepsFlags (s.handLoss i role) := by
  cases role with
  | detectionPanel => exact s.keepsFlags_panelLoss i
  | shutterDrive => exact s.keepsFlags_driveLoss i
  | landingStation => exact s.keepsFlags_landingStationChanged i false
  | annunciator => exact s.keepsFlags_annunciatorLoss i
  | sounder => exact s.keepsFlags_modArbiter i _
  | speaker => exact s.keepsFlags_settlePlayback
  | callPoint | console | other => exact .refl s

/-- A regain handed over clears no flag of a notice (R185). -/
theorem State.keepsFlags_handRegain (i : Nat) (role : Role) : s.KeepsFlags (s.handRegain i role) := by
  cases role with
  | detectionPanel => exact s.keepsFlags_panelRegain i
  | shutterDrive => exact s.keepsFlags_driveRegain i
  | landingStation => exact s.keepsFlags_landingStationChanged i true
  | annunciator => exact s.keepsFlags_annunciatorRegain i
  | sounder => exact s.keepsFlags_sounderRegain i
  | speaker => exact s.keepsFlags_settlePlayback.trans (State.keepsFlags_tune _ i)
  | callPoint | console | other => exact .refl s

/-! ### Losses and regains told (R13) -/

/-- A loss handed over is told to the job that reads stations of the role (R13). -/
theorem State.lossTold_handLoss (role : Role) (absent : s.isPresent i = false) : s.LossTold (s.handLoss i role) i role := by
  cases role with
  | detectionPanel => exact s.panelLost_panelLoss i
  | shutterDrive => exact s.driveLost_driveLoss
  | landingStation => exact s.landingStationLost_changed absent
  | annunciator => exact s.annunciatorLost_annunciatorLoss
  | sounder => exact s.sounderLost_sounderLoss i
  | speaker => exact s.speakerChanged_speakerLoss
  | callPoint | console | other => exact .refl s

/-- A regain handed over is told to the job that reads stations of the role (R13). -/
theorem State.regainTold_handRegain (role : Role) (present : s.isPresent i = true) :
    s.RegainTold (s.handRegain i role) i role := by
  cases role with
  | detectionPanel => exact s.panelRegained_panelRegain i
  | shutterDrive => exact s.driveRegained_driveRegain
  | landingStation => exact s.landingStationRegained_changed present
  | annunciator => exact s.annunciatorRegained_annunciatorRegain
  | sounder => exact s.sounderRegained_sounderRegain present
  | speaker => exact s.speakerRegained_speakerRegain present
  | callPoint | console | other => exact .refl s

end

end Sys2Proof.Machine
end

section
/-! A station's presence changed, and told (R8 to R10, R13), and the supervision timeout (R10). -/

namespace Sys2Proof.Machine

/-! ### Steps on the way to a hand-off (R13) -/

section
variable {s u t : State} {i : Nat} {c : StationCfg}

theorem State.Approaches.refl (s : State) : State.Approaches s s := ⟨.refl s, fun _ _ => rfl, fun _ => rfl⟩

theorem State.Approaches.notify (near : State.Approaches s u) (b : NoticeBody) : State.Approaches s (u.notify b) where
  frame := near.frame.trans (State.notify_blank (by decide) u b)
  port p line := (u.notify_port b line).trans (near.port p line)
  effective j := near.effective j

theorem State.Approaches.reach (near : State.Approaches s u) (e : Micros) : State.Approaches s (u.reach e) where
  frame := near.frame.trans (State.reach_blank (by decide) u e)
  port p line := near.port p line
  effective j := near.effective j

theorem State.effective_modStation (s : State) (i : Nat) (f : StationLive → StationLive) (j : Nat)
    (keeps : i = j → (f (s.stationLive j)).advertised = (s.stationLive j).advertised) :
    (s.modStation i f).effective j = s.effective j := by
  have same : ((s.modStation i f).stationLive j).advertised = (s.stationLive j).advertised := by
    rw [State.stationLive_modStation]
    split
    next here => exact keeps here.1
    next => rfl
  have record : (s.modStation i f).station j = s.station j := rfl
  unfold State.effective
  dsimp only
  rw [record, same]

/-- A change of a station's live fields that keeps the abilities it has advertised comes before a hand-off. -/
theorem State.Approaches.modStation (near : State.Approaches s u) (f : StationLive → StationLive)
    (keeps : ∀ x, (f x).advertised = x.advertised) : State.Approaches s (u.modStation i f) where
  frame := near.frame.trans (State.modStation_blank (by decide) u i f)
  port p line := near.port p line
  effective j := (u.effective_modStation i f j fun _ => keeps _).trans (near.effective j)

theorem State.isPresent_of_station (found : s.station i = some c) :
    s.isPresent i = decide ((s.stationLive i).presence = .present) := by
  unfold State.isPresent
  rw [found]
  rfl

theorem State.station_lt (found : s.station i = some c) : i < 96 := Tab.lt_of_at? found

theorem State.stationLive_modStation_self (inside : i < 96) (f : StationLive → StationLive) :
    (s.modStation i f).stationLive i = f (s.stationLive i) := by
  rw [State.stationLive_modStation, if_pos ⟨rfl, inside⟩]

theorem State.stationLive_modStation_other {j : Nat} (other : j ≠ i) (f : StationLive → StationLive) :
    (s.modStation i f).stationLive j = s.stationLive j := by
  rw [State.stationLive_modStation, if_neg fun h => other h.1.symm]

/-- The live fields of the jobs, which a hand-off may change, with what it sends and marks. -/
def jobFields : List Field := [.shafts, .points, .zones, .shutters, .calls, .arbiters, .playback, .net, .tokens]

theorem State.handLoss_changes (s : State) (i : Nat) (role : Role) : ChangesOnly jobFields s (s.handLoss i role) :=
  State.handLoss_blank (by decide) (by decide) (by decide) (by decide) (by decide) (by decide) (by decide) (by decide)
    (by decide) s i role

theorem State.handRegain_changes (s : State) (i : Nat) (role : Role) : ChangesOnly jobFields s (s.handRegain i role) :=
  State.handRegain_blank (by decide) (by decide) (by decide) (by decide) (by decide) (by decide) (by decide) (by decide)
    (by decide) s i role

theorem State.stationLive_of_stations (same : t.stations = s.stations) : t.stationLive = s.stationLive := by
  unfold State.stationLive
  rw [same]

/-! ### A presence that changes (R8 to R10, R13) -/

/-- From `u` to `t` a station's presence becomes `p` and no other record changes. -/
structure State.Became (u t : State) (i : Nat) (p : Presence) : Prop where
  frame : ChangesOnly (.stations :: jobFields) u t
  here : t.stationLive i = { u.stationLive i with presence := p }
  others : ∀ j, j ≠ i → t.stationLive j = u.stationLive j
  flags : u.KeepsFlags t

theorem State.became_setPresence (inside : i < 96) (p : Presence) : u.Became (u.setPresence i p) i p where
  frame := State.modStation_blank (by decide) u i _
  here := State.stationLive_modStation_self inside _
  others _ other := State.stationLive_modStation_other other _
  flags := State.keepsFlags_of_net rfl

/-- What a step does after a presence has been set, without a change of a record. -/
theorem State.Became.andThen {p : Presence} {v w : State} (became : v.Became u i p) (frame : ChangesOnly jobFields u w)
    (flags : u.KeepsFlags w) : v.Became w i p where
  frame := became.frame.trans (frame.mono (by decide))
  here := by rw [State.stationLive_of_stations (frame.stations (by decide))]; exact became.here
  others j other := by rw [State.stationLive_of_stations (frame.stations (by decide))]; exact became.others j other
  flags := became.flags.trans flags

theorem State.Became.notify {p : Presence} (became : u.Became t i p) (b : NoticeBody) : u.Became (t.notify b) i p :=
  became.andThen (State.notify_blank (by decide) t b) (t.keepsFlags_notify b)

theorem State.Became.isPresent {p : Presence} (became : u.Became t i p) (found : t.station i = some c) :
    t.isPresent i = decide (p = .present) := by
  rw [State.isPresent_of_station found, became.here]

theorem State.Approaches.setPresence (near : State.Approaches s u) (p : Presence) : State.Approaches s (u.setPresence i p) :=
  near.modStation _ fun _ => rfl

/-- A station that becomes PRESENT: a regain told to the job of its role, with STATION_BACK unless it was UNKNOWN (R9, R13). -/
theorem State.becomePresent_told (near : State.Approaches s u) (found : u.station i = some c) {old : Presence}
    (was : (u.stationLive i).presence = old) :
    u.Became (u.becomePresent i c.role old) i .present ∧
    (old ≠ .present → ∀ t, State.Closes i (u.becomePresent i c.role old) t → s.RegainTold t i c.role) ∧
    (old ∈ [Presence.missing, .mismatch] → (u.becomePresent i c.role old).net.mgmt.sticky.getLsbD 18 = true) ∧
    (old = .present → u.becomePresent i c.role old = u) := by
  have inside := State.station_lt found
  let v := if old = .unknown then u.setPresence i .present else (u.setPresence i .present).notify (.stationBack i)
  have set : u.Became v i .present := by
    show u.Became (if _ then _ else _) i .present
    split
    · exact State.became_setPresence inside .present
    · exact (State.became_setPresence inside .present).notify _
  have nears : State.Approaches s v := by
    show State.Approaches s (if _ then _ else _)
    split
    · exact near.setPresence .present
    · exact (near.setPresence .present).notify _
  have found' : v.station i = some c := by rw [← found, State.station, set.frame.tables (by decide)]; rfl
  by_cases already : old = .present
  · have same : u.becomePresent i c.role old = u := by unfold State.becomePresent; rw [if_pos already]
    rw [same]
    refine ⟨⟨.refl u, ?_, fun _ _ => rfl, .refl u⟩, fun n => absurd already n, fun back => ?_, fun _ => rfl⟩
    · rw [← already, ← was]
    · rw [already] at back; exact absurd back (by decide)
  · have became : u.becomePresent i c.role old = v.handRegain i c.role := by
      unfold State.becomePresent
      rw [if_neg already]
    rw [became]
    refine ⟨set.andThen (v.handRegain_changes i c.role) (v.keepsFlags_handRegain i c.role), fun _ t closes => ?_, fun back => ?_,
      fun present => absurd present already⟩
    · exact (v.regainTold_handRegain c.role (by rw [set.isPresent found']; decide)).over nears closes
    · have known : old ≠ .unknown := by rintro rfl; exact absurd back (by decide)
      have noticed : v = (u.setPresence i .present).notify (.stationBack i) := if_neg known
      refine v.keepsFlags_handRegain i c.role 18 ?_
      rw [noticed, State.getLsbD_notify]
      exact Bool.or_true _

/-- A station that becomes MISMATCH or MISSING, with its notice: a loss told to the job of its role, where there was one to
lose (R8, R10, R13). -/
theorem State.lost_told (near : State.Approaches s u) (found : u.station i = some c) {p : Presence} (absent : p ≠ .present)
    (b : NoticeBody) :
    u.Became ((u.setPresence i p).notify b) i p ∧
    ((u.setPresence i p).notify b).net.mgmt.sticky.getLsbD (noticeIndex b.key.kind) = true ∧
    u.Became (((u.setPresence i p).notify b).handLoss i c.role) i p ∧
    (((u.setPresence i p).notify b).handLoss i c.role).net.mgmt.sticky.getLsbD (noticeIndex b.key.kind) = true ∧
    ∀ t, State.Closes i (((u.setPresence i p).notify b).handLoss i c.role) t → s.LossTold t i c.role := by
  have set : u.Became ((u.setPresence i p).notify b) i p := (State.became_setPresence (State.station_lt found) p).notify b
  have flag : ((u.setPresence i p).notify b).net.mgmt.sticky.getLsbD (noticeIndex b.key.kind) = true := by
    rw [State.getLsbD_notify, decide_eq_true rfl]
    exact Bool.or_true _
  have found' : ((u.setPresence i p).notify b).station i = some c := found
  have from_ : s.station i = some c := by rw [← found, State.station, State.station, near.frame.tables]
  refine ⟨set, flag, set.andThen (State.handLoss_changes _ i c.role) (State.keepsFlags_handLoss _ i c.role),
    State.keepsFlags_handLoss _ i c.role _ flag, fun t closes => ?_⟩
  exact (State.lossTold_handLoss _ c.role (by rw [set.isPresent found']; exact decide_eq_false absent)).over
    ((near.setPresence p).notify b) closes from_

/-- A station that becomes MISMATCH (R8, R13). -/
theorem State.becomeMismatch_told (near : State.Approaches s u) (found : u.station i = some c) {old : Presence}
    (was : (u.stationLive i).presence = old) :
    u.Became (u.becomeMismatch i c.role old) i .mismatch ∧
    (old ∈ [Presence.unknown, .present] →
      ∀ t, State.Closes i (u.becomeMismatch i c.role old) t → s.LossTold t i c.role) ∧
    (old ≠ .mismatch → (u.becomeMismatch i c.role old).net.mgmt.sticky.getLsbD 7 = true) ∧
    (old ∈ [Presence.missing, .mismatch] → ChangesOnly [.stations, .net] u (u.becomeMismatch i c.role old)) := by
  obtain ⟨set, flag, handed, flagged, told⟩ :=
    State.lost_told near found (p := .mismatch) (by decide) (.roleMismatch i)
  unfold State.becomeMismatch
  cases old with
  | mismatch =>
    rw [if_pos rfl]
    refine ⟨⟨.refl u, ?_, fun _ _ => rfl, .refl u⟩, fun lost => absurd lost (by decide), fun n => absurd rfl n, fun _ => .refl u⟩
    rw [← was]
  | missing =>
    rw [if_neg (by decide)]
    exact ⟨set, fun lost => absurd lost (by decide), fun _ => flag, fun _ =>
      ChangesOnly.trans (t := u.setPresence i .mismatch) (State.modStation_blank (by decide) u i _)
        (State.notify_blank (by decide) _ _)⟩
  | unknown | present =>
    rw [if_neg (by decide)]
    exact ⟨handed, fun _ => told, fun _ => flagged, fun kept => absurd kept (by decide)⟩

/-- A station that becomes MISSING (R10, R13). -/
theorem State.becomeMissing_told (near : State.Approaches s u) (found : u.station i = some c) (old : Presence) :
    u.Became (u.becomeMissing i c.role old) i .missing ∧ (u.becomeMissing i c.role old).net.mgmt.sticky.getLsbD 6 = true ∧
    (old ≠ .mismatch → s.LossTold (u.becomeMissing i c.role old) i c.role) ∧
    (old = .mismatch → ChangesOnly [.stations, .net] u (u.becomeMissing i c.role old)) := by
  obtain ⟨set, flag, handed, flagged, told⟩ := State.lost_told near found (p := .missing) (by decide) (.stationLost i)
  unfold State.becomeMissing
  dsimp only
  by_cases mismatch : old = .mismatch
  · rw [if_pos mismatch]
    exact ⟨set, flag, fun n => absurd mismatch n, fun _ =>
      ChangesOnly.trans (t := u.setPresence i .missing) (State.modStation_blank (by decide) u i _)
        (State.notify_blank (by decide) _ _)⟩
  · rw [if_neg mismatch]
    exact ⟨handed, flagged, fun _ => told _ (.refl i _), fun is => absurd is mismatch⟩

end

/-! ### SUPERVISION_TIMEOUT (R10) -/

/-- A supervision timeout: the timer restarts, and a missed period of a station that is not MISSING is counted; the third
makes it MISSING (R10). -/
theorem execSupervisionTimeout_of_timer {s : State} {i e : Nat} {c : StationCfg} (found : s.station i = some c)
    (timer : (s.stationLive i).supervision = some e) :
    execSupervisionTimeout i s =
      let u := (s.reach e).modStation i fun x => { x with supervision := (s.reach e).supervisionTimer c.beatPeriod }
      let v := u.modStation i fun x => { x with missed := x.missed + 1 }
      .next (if (s.stationLive i).presence = .missing then u
        else if 2 ≤ (s.stationLive i).missed then v.becomeMissing i c.role (s.stationLive i).presence else v) := by
  have live : (s.reach e).stationLive = s.stationLive := rfl
  unfold execSupervisionTimeout
  rw [found, timer]
  dsimp only
  rw [live]
  by_cases missing : (s.stationLive i).presence = .missing
  · rw [if_pos missing, if_pos missing]
  · rw [if_neg missing, if_neg missing]
    by_cases third : 2 ≤ (s.stationLive i).missed
    · rw [if_pos third, if_pos (by omega)]
    · rw [if_neg third, if_neg (by omega)]

/-- Settles O16, by what a presence that changes makes of the station (`State.becomeMissing_told`) and the loss told to its job. -/
theorem thirdMissedPeriodLosesTheStation : Obligations.ThirdMissedPeriodLosesTheStation := by
  unfold Obligations.ThirdMissedPeriodLosesTheStation
  intro i e c s found timer
  have inside := State.station_lt found
  let u := (s.reach e).modStation i fun x => { x with supervision := (s.reach e).supervisionTimer c.beatPeriod }
  let v := u.modStation i fun x => { x with missed := x.missed + 1 }
  have running : (s.reach e).supervisionTimer c.beatPeriod =
      if c.beatPeriod = 0 then none else some (max s.now e + 1500000 * c.beatPeriod) :=
    State.supervisionTimer_eq (s.reach e) c.beatPeriod
  have nearU : State.Approaches s u := ((State.Approaches.refl s).reach e).modStation _ fun _ => rfl
  have nearV : State.Approaches s v := nearU.modStation _ fun _ => rfl
  have liveU : u.stationLive i = { s.stationLive i with
      supervision := if c.beatPeriod = 0 then none else some (max s.now e + 1500000 * c.beatPeriod) } := by
    rw [← running]
    exact State.stationLive_modStation_self inside _
  have liveV : v.stationLive i = { s.stationLive i with
      supervision := if c.beatPeriod = 0 then none else some (max s.now e + 1500000 * c.beatPeriod)
      missed := (s.stationLive i).missed + 1 } := by
    show (u.modStation i _).stationLive i = _
    rw [State.stationLive_modStation_self inside, liveU]
  have othersU : ∀ j, j ≠ i → u.stationLive j = s.stationLive j := fun j other =>
    State.stationLive_modStation_other other _
  have othersV : ∀ j, j ≠ i → v.stationLive j = s.stationLive j := fun j other =>
    (State.stationLive_modStation_other other _).trans (othersU j other)
  have frameU : ChangesOnly [.stations, .now] s u :=
    ChangesOnly.trans (t := s.reach e) (State.reach_blank (by decide) s e) (State.modStation_blank (by decide) _ i _)
  have frameV : ChangesOnly [.stations, .now] s v := frameU.trans (State.modStation_blank (by decide) u i _)
  have ran : exec (.supervisionTimeout i) s = .next (if (s.stationLive i).presence = .missing then u
      else if 2 ≤ (s.stationLive i).missed then v.becomeMissing i c.role (s.stationLive i).presence else v) :=
    execSupervisionTimeout_of_timer found timer
  by_cases missing : (s.stationLive i).presence = .missing
  · rw [if_pos missing] at ran
    refine ⟨u, ran, rfl, ?_, othersU, frameU.mono (by decide), fun _ => frameU, fun _ n => absurd missing n⟩
    rw [liveU, if_pos missing, missing, ite_self, ← missing]
  rw [if_neg missing] at ran
  by_cases third : 2 ≤ (s.stationLive i).missed
  · rw [if_pos third] at ran
    obtain ⟨became, flag, loss, quiet⟩ := State.becomeMissing_told nearV (c := c) (i := i) found (s.stationLive i).presence
    have moment : (v.becomeMissing i c.role (s.stationLive i).presence).now = max s.now e :=
      (became.frame.now (by decide)).trans rfl
    refine ⟨_, ran, moment, ?_, fun j other => (became.others j other).trans (othersV j other), ?_, ?_, fun _ _ => ⟨flag, ?_, ?_⟩⟩
    · rw [became.here, liveV, if_neg missing, if_neg (Nat.not_lt.2 third)]
    · exact (frameV.mono (by decide)).trans (became.frame.mono (by decide))
    · rintro (few | is)
      · exact absurd third (Nat.not_le.2 few)
      · exact absurd is missing
    · intro known
      exact loss fun is => by rw [is] at known; exact absurd known (by decide)
    · intro is
      exact (frameV.mono (by decide)).trans ((quiet is).mono (by decide))
  · rw [if_neg third] at ran
    refine ⟨v, ran, rfl, ?_, othersV, frameV.mono (by decide), fun _ => frameV, fun many => absurd many third⟩
    rw [liveV, if_neg missing, if_pos (Nat.not_le.1 third)]

end Sys2Proof.Machine
end

section
/-! Frames heard by the Station Table (R7 to R9, R12, R13, R170): BEAT, KEEP, and the frames it drops. -/

namespace Sys2Proof.Machine

section
variable {s u t : State} {i : Nat} {c : StationCfg} {r : Received}

/-! ### The head of the intake queue (R170) -/

/-- The head out of the intake queue and mirrored, before the Station Table hears it (R170 step 1). -/
def State.dequeued (s : State) (r : Received) : State :=
  ({ s with exchange := { s.exchange with intake := s.exchange.intake.drop 1 } } : State).mirror r

theorem State.takeHead_eq (s : State) (r : Received) : s.takeHead r = (s.dequeued r).tableTakes r := rfl

theorem State.mirror_changes (s : State) (r : Received) : ChangesOnly [.net] s (s.mirror r) := by
  unfold State.mirror
  split
  · exact State.offer_blank (by decide) s _ _ _
  · exact .refl s

theorem State.exchange_dequeued (s : State) (r : Received) :
    (s.dequeued r).exchange = { s.exchange with intake := s.exchange.intake.drop 1 } :=
  (State.mirror_changes _ r).exchange

theorem State.dequeued_changes (s : State) (r : Received) : ChangesOnly [.net, .exchange] s (s.dequeued r) :=
  ChangesOnly.trans (t := { s with exchange := { s.exchange with intake := s.exchange.intake.drop 1 } })
    (State.blank_with_exchange (by decide) s _) ((State.mirror_changes _ r).mono (by decide))

theorem State.approaches_dequeued (s : State) (r : Received) : State.Approaches s (s.dequeued r) where
  frame := (s.dequeued_changes r).mono (by decide)
  port p line := by
    unfold State.dequeued State.mirror
    split
    · rw [State.port_offer _ _ _ _ line, if_neg (show ¬Config.officePort = p from fun same => absurd line (same ▸ by decide))]
      rfl
    · rfl
  effective j := by
    have frame := s.dequeued_changes r
    unfold State.effective State.station State.stationLive
    rw [frame.tables, frame.stations]

theorem State.headFor_step {want : FrameStep} (head : s.headFor want = some r) : frameStep s.globals.own r.frame = want := by
  unfold State.headFor at head
  split at head
  next x rest _ =>
    split at head
    next taken =>
      rw [Bool.and_eq_true, decide_eq_true_eq] at taken
      rw [← Option.some.inj head]
      exact taken.2
    next => exact absurd head (by simp)
  next => exact absurd head (by simp)

/-- BEAT takes the frames of its kind, and every other step that taps a frame takes those of other kinds (R170). -/
theorem frameStep_beat_iff (own : Addr) (f : Frame) (want : FrameStep) (takes : frameStep own f = want)
    (taps : want ≠ .forward) : f.kind = Kind.beat ↔ want = .beat := by
  subst takes
  unfold frameStep at taps ⊢
  by_cases keep : f.kind = Kind.keep
  · rw [if_pos keep, keep]
    decide
  · rw [if_neg keep] at taps ⊢
    by_cases own_ : f.dest = own
    · rw [if_pos own_]
      unfold tappedStep
      by_cases beat : f.kind = Kind.beat
      · rw [if_pos beat]; exact iff_of_true beat rfl
      · rw [if_neg beat]
        refine iff_of_false beat ?_
        (repeat' split) <;> decide
    · rw [if_neg own_] at taps
      exact absurd rfl taps

/-! ### A frame noted (R7, R9, R12) -/

/-- The foreign count, the missed periods and the supervision timer after a good frame (R9, R12). -/
def State.noted (s : State) (i : Nat) (c : StationCfg) (port : Nat) : State := (s.countForeign i c port).refresh i c

/-- What a good frame noted makes of a state that has been reached by taking the frame. -/
structure State.Noted (s w : State) (i : Nat) (c : StationCfg) (port : Nat) : Prop where
  near : State.Approaches s w
  record : w.station i = some c
  here : w.stationLive i = { s.stationLive i with
    missed := 0
    foreign := if port = c.homePort then (s.stationLive i).foreign else bump (s.stationLive i).foreign
    supervision := if c.beatPeriod = 0 then none else some (s.now + 1500000 * c.beatPeriod) }
  others : ∀ j, j ≠ i → w.stationLive j = s.stationLive j
  exchange : w.exchange = { s.exchange with intake := s.exchange.intake.drop 1 }
  frame : ChangesOnly [.stations, .net, .exchange] s w

theorem State.countForeign_changes (s : State) (i : Nat) (c : StationCfg) (port : Nat) :
    ChangesOnly [.stations] s (s.countForeign i c port) := by
  unfold State.countForeign
  split
  · exact .refl s
  · exact State.modStation_blank (by decide) s i _

theorem State.stationLive_countForeign (inside : i < 96) (port j : Nat) :
    (s.countForeign i c port).stationLive j =
      if i = j then { s.stationLive j with
        foreign := if port = c.homePort then (s.stationLive j).foreign else bump (s.stationLive j).foreign }
      else s.stationLive j := by
  unfold State.countForeign
  by_cases home : port = c.homePort
  · rw [if_pos home, if_pos home, ite_self]
  · rw [if_neg home, if_neg home, State.stationLive_modStation]
    by_cases same : i = j
    · subst same; rw [if_pos ⟨rfl, inside⟩, if_pos rfl]
    · rw [if_neg fun h => same h.1, if_neg same]

theorem State.noted_dequeued (found : s.station i = some c) (r : Received) :
    State.Noted s ((s.dequeued r).noted i c r.port) i c r.port := by
  have inside := State.station_lt found
  have frame := s.dequeued_changes r
  have foreign := (s.dequeued r).countForeign_changes i c r.port
  have live : (s.dequeued r).stationLive = s.stationLive := State.stationLive_of_stations frame.stations
  have timer : ((s.dequeued r).countForeign i c r.port).supervisionTimer c.beatPeriod =
      if c.beatPeriod = 0 then none else some (s.now + 1500000 * c.beatPeriod) := by
    rw [State.supervisionTimer_eq, foreign.now, frame.now]
  have near : State.Approaches s ((s.dequeued r).countForeign i c r.port) := by
    unfold State.countForeign
    split
    · exact s.approaches_dequeued r
    · exact (s.approaches_dequeued r).modStation _ fun _ => rfl
  refine ⟨near.modStation _ fun _ => rfl, ?_, ?_, fun j other => ?_, ?_, ?_⟩
  · rw [← found]
    show ((s.dequeued r).countForeign i c r.port).station i = s.station i
    rw [State.station, foreign.tables, frame.tables]
    rfl
  · show (State.modStation _ i _).stationLive i = _
    rw [State.stationLive_modStation_self inside, timer, State.stationLive_countForeign inside, if_pos rfl, live]
  · show (State.modStation _ i _).stationLive j = _
    rw [State.stationLive_modStation_other other, State.stationLive_countForeign inside, if_neg (Ne.symm other), live]
  · exact (foreign.exchange).trans (s.exchange_dequeued r)
  · exact (frame.mono (by decide)).trans
      ((foreign.mono (by decide)).trans (State.modStation_blank (by decide) _ i _))

/-! ### The Station Table hears a frame (R7 to R9) -/

theorem State.findStation_congr (tables : t.tables = s.tables) : t.findStation = s.findStation := by
  unfold State.findStation State.station
  rw [tables]

/-- A frame of a known station that is no BEAT of the right length is heard as any other (R9; notes/assumptions/15.md). -/
theorem State.takeHead_hears (known : s.findStation r.frame.src = some i) (found : s.station i = some c)
    (other : r.frame.kind ≠ Kind.beat ∨ r.frame.payload.length ≠ 3) :
    s.takeHead r =
      if (((s.dequeued r).countForeign i c r.port).stationLive i).presence = .mismatch then (s.dequeued r).noted i c r.port
      else ((s.dequeued r).noted i c r.port).becomePresent i c.role
        (((s.dequeued r).countForeign i c r.port).stationLive i).presence := by
  have frame := s.dequeued_changes r
  have known' : (s.dequeued r).findStation r.frame.src = some i := by rw [State.findStation_congr frame.tables, known]
  have found' : (s.dequeued r).station i = some c := by rw [← found, State.station, frame.tables]; rfl
  have heard : s.takeHead r = ((s.dequeued r).countForeign i c r.port).hearFrom i c := by
    rw [s.takeHead_eq]
    unfold State.tableTakes
    rw [known']
    dsimp only
    rw [found']
    dsimp only
    split
    next payload =>
      rcases other with kind | length
      · rw [if_neg kind]
      · rw [payload] at length
        exact absurd rfl length
    next => rfl
  rw [heard]
  rfl

/-- A BEAT of the right length of a known station is judged by the role it carries (R8). -/
theorem State.takeHead_beat (known : s.findStation r.frame.src = some i) (found : s.station i = some c)
    (kind : r.frame.kind = Kind.beat) {role abil status : Byte} (payload : r.frame.payload = [role, abil, status]) :
    s.takeHead r = ((s.dequeued r).countForeign i c r.port).beatFrom i c role abil status := by
  have frame := s.dequeued_changes r
  have known' : (s.dequeued r).findStation r.frame.src = some i := by rw [State.findStation_congr frame.tables, known]
  have found' : (s.dequeued r).station i = some c := by rw [← found, State.station, frame.tables]; rfl
  rw [s.takeHead_eq]
  unfold State.tableTakes
  rw [known']
  dsimp only
  rw [found', payload]
  dsimp only
  rw [if_pos kind]

theorem State.old_countForeign (found : s.station i = some c) (r : Received) :
    ((s.dequeued r).countForeign i c r.port).stationLive i = { s.stationLive i with
      foreign := if r.port = c.homePort then (s.stationLive i).foreign else bump (s.stationLive i).foreign } := by
  rw [State.stationLive_countForeign (State.station_lt found), if_pos rfl,
    State.stationLive_of_stations (s.dequeued_changes r).stations]

/-- What hearing a frame of a known station, other than a BEAT, makes of the state (R9, R12, R13). -/
structure State.Heard (s t : State) (i : Nat) (c : StationCfg) (port : Nat) : Prop where
  here : t.stationLive i = { s.stationLive i with
    presence := if (s.stationLive i).presence = .mismatch then .mismatch else .present
    missed := 0
    foreign := if port = c.homePort then (s.stationLive i).foreign else bump (s.stationLive i).foreign
    supervision := if c.beatPeriod = 0 then none else some (s.now + 1500000 * c.beatPeriod) }
  others : ∀ j, j ≠ i → t.stationLive j = s.stationLive j
  exchange : t.exchange = { s.exchange with intake := s.exchange.intake.drop 1 }
  regain : (s.stationLive i).presence ∈ [Presence.unknown, .missing] → s.RegainTold t i c.role
  back : (s.stationLive i).presence = .missing → t.net.mgmt.sticky.getLsbD 18 = true
  quiet : (s.stationLive i).presence ∈ [Presence.present, .mismatch] → ChangesOnly [.stations, .net, .exchange] s t
  frame : ChangesOnly [.stations, .shafts, .points, .zones, .shutters, .calls, .arbiters, .playback, .net, .exchange, .tokens] s t

theorem State.heard_takeHead (known : s.findStation r.frame.src = some i) (found : s.station i = some c)
    (other : r.frame.kind ≠ Kind.beat ∨ r.frame.payload.length ≠ 3) : State.Heard s (s.takeHead r) i c r.port := by
  have note := State.noted_dequeued found r
  have old : (((s.dequeued r).countForeign i c r.port).stationLive i).presence = (s.stationLive i).presence := by
    rw [State.old_countForeign found]
  have was : (((s.dequeued r).noted i c r.port).stationLive i).presence = (s.stationLive i).presence := by rw [note.here]
  rw [State.takeHead_hears known found other, old]
  generalize (s.dequeued r).noted i c r.port = w at note was
  by_cases mismatch : (s.stationLive i).presence = .mismatch
  · rw [if_pos mismatch]
    refine ⟨?_, note.others, note.exchange, fun regained => ?_, fun missing => ?_, fun _ => note.frame, note.frame.mono (by decide)⟩
    · rw [note.here, if_pos mismatch, ← mismatch]
    · rw [mismatch] at regained; exact absurd regained (by decide)
    · rw [mismatch] at missing; exact absurd missing (by decide)
  · rw [if_neg mismatch]
    obtain ⟨became, regain, back, same⟩ := State.becomePresent_told note.near note.record was
    refine ⟨?_, fun j apart => (became.others j apart).trans (note.others j apart),
      (became.frame.exchange (by decide)).trans note.exchange, fun regained => ?_, fun missing => ?_, fun kept => ?_,
      (note.frame.mono (by decide)).trans (became.frame.mono (by decide))⟩
    · rw [became.here, note.here, if_neg mismatch]
    · exact regain (fun present => by rw [present] at regained; exact absurd regained (by decide)) _ (.refl i _)
    · exact back (by rw [missing]; decide)
    · have present : (s.stationLive i).presence = .present := by
        generalize (s.stationLive i).presence = p at kept mismatch
        cases p with
        | present => rfl
        | mismatch => exact absurd rfl mismatch
        | unknown | missing => exact absurd kept (by decide)
      rw [same present]
      exact note.frame

/-! ### Frames that reach no job (R7, R170) -/

/-- A frame of a station that is not PRESENT reaches no job: it is dropped and counted (R7). -/
theorem State.onFrame_of_absent {want : FrameStep} (head : s.headFor want = some r) (known : s.findStation r.frame.src = some i)
    (absent : (s.takeHead r).isPresent i = false) (job : State → Received → State) :
    s.onFrame want job = { s.takeHead r with mismatchDrop := bump (s.takeHead r).mismatchDrop } := by
  have blocked : (s.takeHead r).passes r = false := by
    unfold State.passes
    rw [State.findStation_congr (s.takeHead_tables r), known]
    exact absent
  unfold State.onFrame State.onHead State.dropTapped
  rw [head]
  dsimp only
  rw [blocked, Bool.false_and, if_neg (by decide), if_neg (by decide)]

/-- A tapped frame of a MISMATCH station is dropped and counted (R7). -/
theorem State.onFrame_of_mismatch {want : FrameStep} (head : s.headFor want = some r)
    (taps : want ≠ .forward ∧ want ≠ .beat) (known : s.findStation r.frame.src = some i) (found : s.station i = some c)
    (mismatch : (s.stationLive i).presence = .mismatch) (job : State → Received → State) :
    (s.onFrame want job).mismatchDrop = bump s.mismatchDrop ∧
    ((s.onFrame want job).stationLive i).presence = .mismatch ∧ ((s.onFrame want job).stationLive i).missed = 0 ∧
    ChangesOnly [.stations, .net, .exchange, .mismatchDrop] s (s.onFrame want job) := by
  have kind : r.frame.kind ≠ Kind.beat := fun beat =>
    taps.2 ((frameStep_beat_iff _ _ _ (State.headFor_step head) taps.1).1 beat)
  have heard := State.heard_takeHead known found (.inl kind)
  have quiet := heard.quiet (by rw [mismatch]; decide)
  have here : ((s.takeHead r).stationLive i).presence = .mismatch := by rw [heard.here, if_pos mismatch]
  have absent : (s.takeHead r).isPresent i = false := by
    have record : (s.takeHead r).station i = some c := by rw [← found, State.station, s.takeHead_tables]; rfl
    rw [State.isPresent_of_station record, here]
    decide
  rw [State.onFrame_of_absent head known absent]
  refine ⟨?_, here, ?_, (quiet.mono (by decide)).trans (State.blank_with_mismatchDrop (by decide) _ _)⟩
  · show bump (s.takeHead r).mismatchDrop = _
    rw [quiet.mismatchDrop]
  · show ((s.takeHead r).stationLive i).missed = 0
    rw [heard.here]

/-- A frame of an unknown source is counted (R7). -/
theorem State.takeHead_of_unknown (unknown : s.findStation r.frame.src = none) :
    s.takeHead r = { s.dequeued r with unknownSource := bump (s.dequeued r).unknownSource } := by
  rw [s.takeHead_eq]
  unfold State.tableTakes
  rw [State.findStation_congr (s.dequeued_changes r).tables, unknown]

theorem State.station_of_findStation {a : Addr} (known : s.findStation a = some i) : ∃ c, s.station i = some c := by
  have found := List.find?_some known
  obtain ⟨c, here, -⟩ := (Option.any_eq_true _ _).1 found
  exact ⟨c, here⟩

theorem exec_keep_of_head (head : s.headFor .keep = some r) : exec .keep s = .next (s.takeHead r) := by
  show execKeep s = _
  unfold execKeep
  rw [head]

end

/-- Settles O15, by what the Station Table makes of a frame it hears (`State.heard_takeHead`) and of one it drops. -/
theorem framesAreHeardOrDropped : Obligations.FramesAreHeardOrDropped := by
  unfold Obligations.FramesAreHeardOrDropped
  refine ⟨fun s r i c head known found => ?_, fun instr want s r i mem head known mismatch => ?_, fun s r head unknown => ?_⟩
  · have kind : r.frame.kind ≠ Kind.beat := fun beat =>
      absurd ((frameStep_beat_iff _ _ _ (State.headFor_step head) (by decide)).1 beat) (by decide)
    have heard := State.heard_takeHead known found (.inl kind)
    exact ⟨_, exec_keep_of_head head, heard.here, heard.others, by rw [heard.exchange], heard.regain, heard.back, heard.quiet,
      heard.frame⟩
  · obtain ⟨c, found⟩ := State.station_of_findStation known
    have dropped : ∀ job, (want ≠ .forward ∧ want ≠ .beat) → exec instr s = .next (s.onFrame want job) →
        ∃ t, exec instr s = .next t ∧ t.mismatchDrop = bump s.mismatchDrop ∧ (t.stationLive i).presence = .mismatch ∧
          (t.stationLive i).missed = 0 ∧ ChangesOnly [.stations, .net, .exchange, .mismatchDrop] s t :=
      fun job taps ran => ⟨_, ran, State.onFrame_of_mismatch head taps known found mismatch job⟩
    simp only [List.mem_cons, List.not_mem_nil, or_false, Prod.mk.injEq] at mem
    rcases mem with ⟨rfl, rfl⟩ | ⟨rfl, rfl⟩ | ⟨rfl, rfl⟩ | ⟨rfl, rfl⟩ | ⟨rfl, rfl⟩ | ⟨rfl, rfl⟩ | ⟨rfl, rfl⟩
    all_goals exact dropped _ (by decide) rfl
  · refine ⟨_, exec_keep_of_head head, ?_, ?_⟩
    · rw [State.takeHead_of_unknown unknown, (s.dequeued_changes r).unknownSource]
    · rw [State.takeHead_of_unknown unknown]
      exact ((s.dequeued_changes r).mono (by decide)).trans (State.blank_with_unknownSource (by decide) _ _)

end Sys2Proof.Machine
end

section
/-! BEAT (R8): the role it carries decides between PRESENT and MISMATCH, and its abilities and status are stored. -/

namespace Sys2Proof.Machine

section
variable {s u v t : State} {i : Nat} {c : StationCfg} {r : Received}

/-! ### Abilities and status stored (R8) -/

/-- The abilities and the status of a BEAT stored, with a notice of a status that changes: the last steps of R8. -/
def State.storeBeat (v : State) (i : Nat) (last : Option Byte) (abil status : Byte) : State :=
  let w := v.modStation i fun x => { x with advertised := abilitiesOfByte abil, lastStatus := some status }
  match last with
  | some b => if b = status then w else w.notify (.stationStatus i b status)
  | none => w

/-- A BEAT: the frame is noted, the role decides, and the abilities and the status are stored (R8). -/
theorem State.beatFrom_eq (u : State) (i : Nat) (c : StationCfg) (role abil status : Byte) :
    u.beatFrom i c role abil status =
      (if roleOfCode role.toNat = some c.role then (u.refresh i c).becomePresent i c.role (u.stationLive i).presence
        else (u.refresh i c).becomeMismatch i c.role (u.stationLive i).presence).storeBeat i (u.stationLive i).lastStatus abil
          status := rfl

theorem State.storeBeat_cases (v : State) (i : Nat) (last : Option Byte) (abil status : Byte) :
    (v.storeBeat i last abil status =
        v.modStation i (fun x => { x with advertised := abilitiesOfByte abil, lastStatus := some status }) ∧
      ∀ b, last = some b → b = status) ∨
    ∃ b, v.storeBeat i last abil status =
      (v.modStation i fun x => { x with advertised := abilitiesOfByte abil, lastStatus := some status }).notify
        (.stationStatus i b status) := by
  cases last with
  | none => exact .inl ⟨rfl, fun b none => by cases none⟩
  | some b =>
    by_cases same : b = status
    · exact .inl ⟨if_pos same, fun x is => (Option.some.inj is) ▸ same⟩
    · exact .inr ⟨b, if_neg same⟩

theorem State.closes_modStation (f : StationLive → StationLive) (keeps : ∀ x, (f x).presence = x.presence) :
    State.Closes i v (v.modStation i f) where
  frame := State.modStation_blank (by decide) v i f
  port _ _ := rfl
  isPresent j := by
    have live : ((v.modStation i f).stationLive j).presence = (v.stationLive j).presence := by
      rw [State.stationLive_modStation]
      split
      · exact keeps _
      · rfl
    have record : (v.modStation i f).station j = v.station j := rfl
    unfold State.isPresent
    rw [record, live]
  effective j other := v.effective_modStation i f j fun same => absurd same.symm other
  sticky _ set := set

theorem State.Closes.notify (close : State.Closes i v t) (b : NoticeBody) : State.Closes i v (t.notify b) where
  frame := close.frame.trans (State.notify_blank (by decide) t b)
  port p line := (t.notify_port b line).trans (close.port p line)
  isPresent := close.isPresent
  effective := close.effective
  sticky j set := t.keepsFlags_notify b j (close.sticky j set)

/-- What storing the abilities and the status makes of the state (R8). -/
structure State.BeatStored (v t : State) (i : Nat) (last : Option Byte) (abil status : Byte) : Prop where
  close : State.Closes i v t
  here : t.stationLive i = { v.stationLive i with
    advertised := { chime := abil.getLsbD 0, fade := abil.getLsbD 1 }, lastStatus := some status }
  others : ∀ j, j ≠ i → t.stationLive j = v.stationLive j
  flag : ∀ b, last = some b → b ≠ status → t.net.mgmt.sticky.getLsbD 17 = true

theorem State.beatStored (inside : i < 96) (last : Option Byte) (abil status : Byte) :
    v.BeatStored (v.storeBeat i last abil status) i last abil status := by
  have stored := State.closes_modStation (i := i) (v := v)
    (fun x => { x with advertised := abilitiesOfByte abil, lastStatus := some status }) fun _ => rfl
  rcases v.storeBeat_cases i last abil status with ⟨same, kept⟩ | ⟨b, same⟩
  · rw [same]
    exact ⟨stored, State.stationLive_modStation_self inside _, fun j other => State.stationLive_modStation_other other _,
      fun b was differs => absurd (kept b was) differs⟩
  · rw [same]
    refine ⟨stored.notify _, State.stationLive_modStation_self inside _,
      fun j other => State.stationLive_modStation_other other _, fun _ _ _ => ?_⟩
    rw [State.getLsbD_notify]
    exact Bool.or_true _

theorem exec_beat_of_head (head : s.headFor .beat = some r) :
    exec .beat s = .next (if r.frame.goodLength then s.takeHead r else (s.takeHead r).badPayload) := by
  show execBeat s = _
  unfold execBeat
  rw [head]

theorem Frame.goodLength_beat {f : Frame} (kind : f.kind = Kind.beat) : f.goodLength = decide (f.payload.length = 3) := by
  have fixed : fixedLength f.kind = some 3 := by rw [kind]; rfl
  unfold Frame.goodLength
  rw [fixed]
  rfl

/-! ### A BEAT of the right length (R8) -/

/-- A BEAT of a known station: what the role it carries makes of its presence, over the whole step (R8, R13). -/
structure State.Beaten (s t : State) (i : Nat) (c : StationCfg) (port : Nat) (role abil status : Byte) : Prop where
  here : t.stationLive i = {
    presence := if roleOfCode role.toNat = some c.role then .present else .mismatch
    missed := 0
    advertised := { chime := abil.getLsbD 0, fade := abil.getLsbD 1 }
    lastStatus := some status
    foreign := if port = c.homePort then (s.stationLive i).foreign else bump (s.stationLive i).foreign
    supervision := if c.beatPeriod = 0 then none else some (s.now + 1500000 * c.beatPeriod) }
  others : ∀ j, j ≠ i → t.stationLive j = s.stationLive j
  intake : t.exchange.intake = s.exchange.intake.drop 1
  agrees : roleOfCode role.toNat = some c.role →
    ((s.stationLive i).presence ≠ .present → s.RegainTold t i c.role) ∧
    ((s.stationLive i).presence ∈ [Presence.missing, .mismatch] → t.net.mgmt.sticky.getLsbD 18 = true) ∧
    ((s.stationLive i).presence = .present → ChangesOnly [.stations, .net, .exchange] s t)
  differs : roleOfCode role.toNat ≠ some c.role →
    ((s.stationLive i).presence ∈ [Presence.unknown, .present] → s.LossTold t i c.role) ∧
    ((s.stationLive i).presence ≠ .mismatch → t.net.mgmt.sticky.getLsbD 7 = true) ∧
    ((s.stationLive i).presence ∈ [Presence.missing, .mismatch] → ChangesOnly [.stations, .net, .exchange] s t)
  status : ∀ b, (s.stationLive i).lastStatus = some b → b ≠ status → t.net.mgmt.sticky.getLsbD 17 = true
  frame : ChangesOnly [.stations, .shafts, .points, .zones, .shutters, .calls, .arbiters, .playback, .net, .exchange, .tokens] s t

theorem State.beaten_takeHead (known : s.findStation r.frame.src = some i) (found : s.station i = some c)
    (kind : r.frame.kind = Kind.beat) {role abil status : Byte} (payload : r.frame.payload = [role, abil, status]) :
    State.Beaten s (s.takeHead r) i c r.port role abil status := by
  have inside := State.station_lt found
  have note := State.noted_dequeued found r
  have old := State.old_countForeign found r
  have presence : (((s.dequeued r).countForeign i c r.port).stationLive i).presence = (s.stationLive i).presence := by rw [old]
  have last : (((s.dequeued r).countForeign i c r.port).stationLive i).lastStatus = (s.stationLive i).lastStatus := by rw [old]
  have taken : s.takeHead r =
      (if roleOfCode role.toNat = some c.role then
        ((s.dequeued r).noted i c r.port).becomePresent i c.role (s.stationLive i).presence
      else ((s.dequeued r).noted i c r.port).becomeMismatch i c.role (s.stationLive i).presence).storeBeat i
        (s.stationLive i).lastStatus abil status := by
    rw [State.takeHead_beat known found kind payload, State.beatFrom_eq, presence, last]
    rfl
  have was : (((s.dequeued r).noted i c r.port).stationLive i).presence = (s.stationLive i).presence := by rw [note.here]
  rw [taken]
  generalize (s.dequeued r).noted i c r.port = w at note was
  by_cases agrees : roleOfCode role.toNat = some c.role
  · rw [if_pos agrees]
    obtain ⟨became, regain, back, same⟩ := State.becomePresent_told note.near note.record was
    have stored := State.beatStored (v := w.becomePresent i c.role (s.stationLive i).presence) inside
      (s.stationLive i).lastStatus abil status
    refine ⟨?_, fun j other => (stored.others j other).trans ((became.others j other).trans (note.others j other)), ?_,
      fun _ => ⟨fun lost => regain lost _ stored.close, fun gone => stored.close.sticky 18 (back gone), fun present => ?_⟩,
      fun no => absurd agrees no, stored.flag,
      (note.frame.mono (by decide)).trans ((became.frame.mono (by decide)).trans (stored.close.frame.mono (by decide)))⟩
    · rw [stored.here, became.here, note.here, if_pos agrees]
    · rw [stored.close.frame.exchange, became.frame.exchange (by decide), note.exchange]
    · have kept := stored.close.frame
      rw [same present] at kept ⊢
      exact note.frame.trans (kept.mono (by decide))
  · rw [if_neg agrees]
    obtain ⟨became, loss, flag, quiet⟩ := State.becomeMismatch_told note.near note.record was
    have stored := State.beatStored (v := w.becomeMismatch i c.role (s.stationLive i).presence) inside
      (s.stationLive i).lastStatus abil status
    refine ⟨?_, fun j other => (stored.others j other).trans ((became.others j other).trans (note.others j other)), ?_,
      fun yes => absurd yes agrees,
      fun _ => ⟨fun lost => loss lost _ stored.close, fun new => stored.close.sticky 7 (flag new), fun gone => ?_⟩, stored.flag,
      (note.frame.mono (by decide)).trans ((became.frame.mono (by decide)).trans (stored.close.frame.mono (by decide)))⟩
    · rw [stored.here, became.here, note.here, if_neg agrees]
    · rw [stored.close.frame.exchange, became.frame.exchange (by decide), note.exchange]
    · exact note.frame.trans (((quiet gone).mono (by decide)).trans (stored.close.frame.mono (by decide)))

end

/-- Settles O14, by the numbered steps of R8 (`State.beaten_takeHead`). -/
theorem beatDecidesPresence : Obligations.BeatDecidesPresence := by
  unfold Obligations.BeatDecidesPresence
  have kind : ∀ (s : State) (r : Received), s.headFor .beat = some r → r.frame.kind = Kind.beat := fun s r head =>
    (frameStep_beat_iff _ _ _ (State.headFor_step head) (by decide)).2 rfl
  refine ⟨fun s r i c role abil status head known found payload => ?_, fun s r head length => ?_⟩
  · have ran := exec_beat_of_head head
    have three : r.frame.payload.length = 3 := by rw [payload]; rfl
    rw [Frame.goodLength_beat (kind s r head), decide_eq_true three, if_pos rfl] at ran
    have beaten := State.beaten_takeHead known found (kind s r head) payload
    exact ⟨_, ran, beaten.here, beaten.others, beaten.intake, beaten.agrees, beaten.differs, beaten.status, beaten.frame⟩
  · have ran := exec_beat_of_head head
    rw [Frame.goodLength_beat (kind s r head), decide_eq_false length, if_neg (by decide)] at ran
    have exchange : (s.takeHead r).exchange = { s.exchange with intake := s.exchange.intake.drop 1 } := by
      have table : ChangesOnly [.stations, .unknownSource, .shafts, .points, .zones, .shutters, .calls, .arbiters, .playback,
          .net, .tokens] (s.dequeued r) (s.takeHead r) :=
        State.tableTakes_blank (by decide) (by decide) (by decide) (by decide) (by decide) (by decide) (by decide) (by decide)
          (by decide) (by decide) (by decide) (s.dequeued r) r
      rw [table.exchange, s.exchange_dequeued]
    refine ⟨_, ran, ?_, ?_, (s.takeHead_changes r).mismatchDrop, fun i c known found => ?_⟩
    · show { (s.takeHead r).exchange.counters with badPayload := bump (s.takeHead r).exchange.counters.badPayload } = _
      rw [exchange]
    · show (s.takeHead r).exchange.intake = _
      rw [exchange]
    · have heard := State.heard_takeHead known found (.inr length)
      show ((s.takeHead r).stationLive i).missed = 0 ∧ (_ → ((s.takeHead r).stationLive i).presence = .mismatch)
      rw [heard.here]
      exact ⟨rfl, fun mismatch => if_pos mismatch⟩

end Sys2Proof.Machine
end

section
/-! The interlock is not kept by RESTORE_ZONE alone (R19, R74, R96): a counterexample. -/

namespace Sys2Proof.Machine

/-- An ORDER about zone 0, sent by a console on L4. -/
def orderAboutZoneZero : Received :=
  { port := 4, frame := { dest := Config.ownDefault, src := 8#16, kind := Kind.order, payload := [0, 1, 0, 0] } }

/-- A RESTORE_ZONE of zone 0 waits. The zone is ISOLATED, but its one shutter, across no landing, descends under a RELEASE, with
a last report of OPEN_END. Nothing in the interlock says that the shutters of an ISOLATED zone are ISOLATED. -/
def descendingInIsolation : State :=
  { tables := { shutters := (Tab.replicate 32 none).set 0 (some { drive := 0, zone := 0 }) }
    inPlace := true
    zones := (Tab.replicate 16 {}).set 0 { state := .isolated }
    shutters := (Tab.replicate 32 {}).set 0
      { state := .descending, command := some .release, lastReport := some { position := .openEnd, localRelease := false } }
    exchange := { intake := [orderAboutZoneZero] }
    pending := [.restoreZone 0] }

/-- The only shutter record in use is number 0, of zone 0. -/
theorem shutter_descendingInIsolation {i : Nat} {c : ShutterCfg} (used : descendingInIsolation.shutter i = some c) :
    i = 0 ∧ c.zone = 0 := by
  have record : descendingInIsolation.shutter i = if 0 = i ∧ 0 < 32 then some { drive := 0, zone := 0 }
      else (Tab.replicate 32 none).at? i := Tab.at?_set _ _ _ _
  rw [record] at used
  split at used
  · next here => cases used; exact ⟨here.1.symm, rfl⟩
  · simp at used

theorem interlocked_descendingInIsolation : descendingInIsolation.Interlocked where
  outputs := by unfold State.outputsOk; decide
  disabled := by decide
  loaded := by decide
  zoned := fun i c used => by rw [(shutter_descendingInIsolation used).2]; decide
  waits := fun i c used waiting => by
    obtain ⟨rfl, -⟩ := shutter_descendingInIsolation used
    exact absurd waiting (by decide)
  warned := by decide
  rest := by decide
  closed := by decide
  shutters := by decide

/-- The restore re-derives the shutter as OPEN and leaves its RELEASE in force (R96). -/
theorem step_descendingInIsolation : ∃ t, step descendingInIsolation = .next t ∧ (t.shutterLive 0).state = .open ∧
    (t.shutterLive 0).command = some .release := ⟨_, rfl, by decide, by decide⟩

/-- Refutes O55: RESTORE_ZONE opens a shutter of an ISOLATED zone that is not ISOLATED itself without giving up its command,
and a shutter in OPEN then has a command in force, against `State.Interlocked.rest`. -/
theorem not_stepKeepsTheInterlock : ¬ Obligations.StepKeepsTheInterlock := by
  intro keeps
  obtain ⟨t, run, opened, commanded⟩ := step_descendingInIsolation
  have after := keeps _ t interlocked_descendingInIsolation run
  have idle := after.rest 0 (by decide) (by rw [opened]; decide)
  exact absurd (idle.symm.trans commanded) (by decide)

end Sys2Proof.Machine
end

section
/-! The state after reset meets every invariant (R18, R19, R148, R188). -/

namespace Sys2Proof.Machine

/-! ### A part without tables (R188) -/

theorem State.shutter_reset (i : Nat) : State.reset.shutter i = none := Tab.at?_replicate_none i

theorem State.station_reset (i : Nat) : State.reset.station i = none := Tab.at?_replicate_none i

theorem State.arbiter_reset (i : Nat) : State.reset.arbiter i = none := Tab.at?_replicate_none i

/-! ### The invariants at reset -/

theorem State.outputsOk_reset : State.reset.outputsOk := by unfold State.outputsOk; decide

theorem State.interlocked_reset : State.reset.Interlocked where
  outputs := State.outputsOk_reset
  disabled := by decide
  loaded := by decide
  zoned := fun i c used => by simp [State.shutter_reset] at used
  waits := fun i c used => by simp [State.shutter_reset] at used
  warned := by decide
  rest := by decide
  closed := by decide
  shutters := by decide

theorem State.soundersFollow_reset : State.reset.SoundersFollow where
  loaded := fun _ i _ => State.arbiter_reset i
  being := fun i _ => by rw [State.arbiter_reset, State.station_reset]; rfl
  service := fun i _ a here => by simp [State.arbiter_reset] at here
  pattern := fun i _ a here => by simp [State.arbiter_reset] at here

theorem State.positionsOk_reset : State.reset.PositionsOk := ⟨by decide, by decide, by decide⟩

theorem State.lineQueuesOk_reset : State.reset.lineQueuesOk :=
  ⟨by decide, by unfold Port.queuesOk; decide, by decide⟩

theorem State.jobQueuesOk_reset : State.reset.jobQueuesOk :=
  ⟨by decide, by decide, by decide, fun i a here => by simp [State.arbiter_reset] at here, by decide, by decide, by decide⟩

/-- Settles O58: at reset no table is loaded, so no record is in use, no arbiter is in being and no shaft is enabled. -/
theorem resetMeetsTheInvariants : Obligations.ResetMeetsTheInvariants :=
  ⟨PhraseStore.wf_reset, State.outputsOk_reset, State.interlocked_reset, State.soundersFollow_reset,
    State.positionsOk_reset, by decide, State.lineQueuesOk_reset, State.jobQueuesOk_reset⟩

end Sys2Proof.Machine
end

section
/-! What each operation of a shaft makes of the shaft's own record (R18 to R55): a function of that record and of a few inputs,
under which no other shaft changes but for its lamps. -/

namespace Sys2Proof.Machine

/-! ### One shaft changed, less the landings -/

theorem Tab.modify_modify {α : Type} {n : Nat} (t : Tab α n) (i : Nat) (f g : α → α) :
    (t.modify i f).modify i g = t.modify i fun a => g (f a) := by
  apply Tab.ext'
  apply List.ext_getElem?
  intro j
  show Tab.get? _ j = Tab.get? _ j
  simp only [Tab.get?_modify]
  split
  · cases t.get? j <;> rfl
  · rfl

section
variable (s : State) (k : Nat)

/-- A change that does not look at the landings is the same change of the cores. -/
theorem State.cores_modShaft {f : Shaft → Shaft} (blind : ∀ x, (f x).core = f x.core) :
    (s.modShaft k f).cores = s.cores.modify k f := by
  apply Tab.ext'
  apply List.ext_getElem?
  intro j
  show (State.cores _).get? j = Tab.get? _ j
  simp only [State.cores, Tab.get?_map, State.modShaft_shafts, Tab.get?_modify]
  split
  · cases s.shafts.get? j with
    | none => rfl
    | some x => exact congrArg some (blind x)
  · rfl

theorem State.core_of_get? {x : Shaft} (here : s.cores.get? k = some x) : (s.shaft k).core = x := by
  simp only [State.cores, Tab.get?_map] at here
  obtain ⟨y, found, rfl⟩ := Option.map_eq_some_iff.1 here
  simp [State.shaft, Tab.getD, found]

/-- Only what a change makes of the shaft as it is counts. -/
theorem State.cores_modify_congr {f g : Shaft → Shaft} (same : f (s.shaft k).core = g (s.shaft k).core) :
    s.cores.modify k f = s.cores.modify k g := by
  apply Tab.ext'
  apply List.ext_getElem?
  intro j
  show Tab.get? _ j = Tab.get? _ j
  simp only [Tab.get?_modify]
  split
  · next here =>
    subst here
    cases found : s.cores.get? k with
    | none => rfl
    | some x => rw [s.core_of_get? k found] at same; exact congrArg some same
  · rfl

theorem State.cores_modify_self {f : Shaft → Shaft} (same : f (s.shaft k).core = (s.shaft k).core) :
    s.cores.modify k f = s.cores :=
  Tab.modify_eq_self fun x here => by rw [s.core_of_get? k here] at same; exact same

variable {s k} {t : State} {f : Shaft → Shaft}

theorem State.core_of_modify (inside : k < 2) (step : t.cores = s.cores.modify k f) : (t.shaft k).core = f (s.shaft k).core := by
  obtain ⟨x, here⟩ := s.cores.get?_eq_some inside
  have there : t.cores.get? k = some (f x) := by rw [step, Tab.get?_modify, if_pos rfl, here]; rfl
  rw [t.core_of_get? k there, s.core_of_get? k here]

theorem State.core_of_modify_other {j : Nat} (step : t.cores = s.cores.modify k f) (other : j ≠ k) :
    (t.shaft j).core = (s.shaft j).core := by
  by_cases inside : j < 2
  · obtain ⟨x, here⟩ := s.cores.get?_eq_some inside
    have there : t.cores.get? j = some x := by rw [step, Tab.get?_modify, if_neg (Ne.symm other), here]
    rw [t.core_of_get? j there, s.core_of_get? j here]
  · have outside : ∀ u : State, u.shaft j = {} := fun u => Tab.getD_eq_of_le _ (Nat.le_of_not_lt inside) _
    rw [outside, outside]

end

end Sys2Proof.Machine
end

section
/-! The records that the operations of chapters 2 and 3 make of a shaft's record (R18 to R55). -/

namespace Sys2Proof.Machine

/-! ### Entries to the states (R18, R26 to R30) -/

namespace Shaft

/-- A state entered with its outputs: DEGRADED stays only in RUNNING and LAST_RUN, the reason of HELD only in HELD
(R18, R26, R29). -/
def enter (x : Shaft) (st : ShaftState) (permit creep brake : Bool) : Shaft :=
  { x with
    state := st, permit := permit, creep := creep, brake := brake
    heldReason := if st = .held then x.heldReason else none
    degraded := x.degraded && decide (st = .running ∨ st = .lastRun) }

/-- The brake dropped (R28). -/
def stop (x : Shaft) : Shaft :=
  { x with remaining := none, advance := none, homeTimer := none }.enter .stopping false false true

/-- The final-stop order obeyed (R52). -/
def finalStop (x : Shaft) : Shaft :=
  match x.state with
  | .lastRun => { x with stopReason := if x.clearSet = [] then some .park else x.requestReason, bar := true }.stop
  | .clearing => { x with bar := true }.stop
  | .stopping => { x with bar := true }
  | _ => x

/-- The final stop that an overdue close asks for (R144). -/
def overdueStop (x : Shaft) (overdue : Bool) : Shaft := if overdue then x.finalStop else x

/-- CLEARING with a distance to go, or STOPPING where no more than s_c is left (R46, R47, R50). -/
def startClearing (x : Shaft) (g : Geometry) (overdue : Bool) (d : Nat) : Shaft :=
  let y := { x with remaining := some d, advance := none }.enter .clearing true true false
  (if d ≤ g.sc then y.stop else y).overdueStop overdue

/-- Latched in TRIPPED (R30, R55). -/
def tripFor (x : Shaft) (c : TripCause) : Shaft :=
  { x with
    trip := some c, homeTimer := none, advance := none, remaining := none
    answered := decide (x.standstill = 3)
    outcome := if x.state = ShaftState.clearing ∨ x.state = ShaftState.stopping then none else x.outcome }.enter .tripped false false true

/-- HELD with an outcome (R29, R49). -/
def hold (x : Shaft) (o : Outcome) : Shaft :=
  { x with outcome := some o, heldReason := x.requestReason.or x.stopReason }.enter .held false false true

/-- RUNNING or LAST_RUN entered with DEGRADED as the landing stations have it (R26, R27). -/
def serve (x : Shaft) (st : ShaftState) (silent : Bool) : Shaft :=
  { x with degraded := silent }.enter st true silent false

/-- LAST_RUN entered (R27, R144). -/
def startLastRun (x : Shaft) (silent overdue : Bool) : Shaft :=
  ({ x with advance := some 0 }.serve .lastRun silent).overdueStop overdue

/-- RUNNING entered, LAST_RUN in LAST_CALL (R26). -/
def startRunning (x : Shaft) (lastCall silent overdue : Bool) : Shaft :=
  if lastCall then x.startLastRun silent overdue else { x with bar := false, advance := none }.serve .running silent

/-- IDLE entered (R24). -/
def standIdle (x : Shaft) : Shaft := { x with settling := 0, trip := none }.enter .idle false false true

/-! ### Clear stops (R44 to R51) -/

/-- A plan made (R44). -/
def planWith (x : Shaft) (g : Geometry) (v : Nat) : Shaft := { x with plan := some (g.plan x.clearSet x.pos v) }

/-- The brake dropped by an UNCLEARABLE plan (R45). -/
def stopUnclearable (x : Shaft) : Shaft := { x.stop with outcome := some .unclear, unclearables := bump x.unclearables }

/-- A moving shaft's plan made and acted on (R46, R48). -/
def planMoving (x : Shaft) (g : Geometry) (overdue : Bool) : Shaft :=
  match (g.plan x.clearSet x.pos x.speed).target with
  | some p => (x.planWith g x.speed).startClearing g overdue p.distance
  | none => (x.planWith g x.speed).stopUnclearable

/-- The stop reason taken from the requests (R46). -/
def recordReason (x : Shaft) : Shaft := { x with stopReason := x.requestReason.or x.stopReason }

/-- A clear stop started (R46). -/
def startClearStop (x : Shaft) (g : Geometry) (overdue : Bool) : Shaft :=
  { x with
    advance := none, reapproach := 0, bar := false, outcome := none
    clearStops := bump x.clearStops }.recordReason.planMoving g overdue

/-- A plan made again in CLEARING (R48). -/
def replan (x : Shaft) (g : Geometry) : Shaft :=
  match (g.plan x.clearSet x.pos x.speed).target with
  | some p =>
    if p.distance ≤ g.sc then (x.planWith g x.speed).stop else { x.planWith g x.speed with remaining := some p.distance }
  | none => (x.planWith g x.speed).stopUnclearable

/-- HOMING stopped (R51). -/
def homingStop (x : Shaft) : Shaft :=
  { x.stop with
    reapproach := 0, bar := false, outcome := some .unclear
    clearStops := bump x.clearStops }.recordReason

/-! ### Standing shafts (R41, R49, R50, R53 to R55) -/

/-- The standing evaluation, read from the record (R41). -/
def evaluate (x : Shaft) (g : Geometry) : Outcome :=
  if !g.enabled then .clear
  else if x.clearSet = [] then .clear
  else if !x.posValid then .unclear
  else if g.forbidden x.clearSet (x.pos % g.pitch) then .unclear
  else .clear

/-- The standing evaluation held as the outcome (R42). -/
def evaluated (x : Shaft) (g : Geometry) : Shaft := { x with outcome := some (x.evaluate g) }

/-- A forbidden standing phase: a re-approach, or HELD as UNCLEAR (R49, R50). -/
def reapproachOrHold (x : Shaft) (g : Geometry) (overdue may : Bool) : Shaft :=
  match (g.plan x.clearSet x.pos 0).target with
  | some p =>
    if may then
      { x.planWith g 0 with
        reapproach := x.reapproach + 1, outcome := none
        reapproaches := bump x.reapproaches }.startClearing g overdue p.distance
    else { x.planWith g 0 with heldUnclear := bump x.heldUnclear }.hold .unclear
  | none => { x.planWith g 0 with unclearables := bump x.unclearables, heldUnclear := bump x.heldUnclear }.hold .unclear

/-- The standstill check (R49). -/
def standstillCheck (x : Shaft) (g : Geometry) (overdue may : Bool) : Shaft :=
  match x.evaluate g with
  | .clear => x.hold .clear
  | .unclear => if x.posValid then x.reapproachOrHold g overdue may else x.hold .unclear

/-- The standstill event (R49, R54, R55). -/
def standstillEvent (x : Shaft) (g : Geometry) (overdue may : Bool) : Shaft :=
  match x.state with
  | .stopping => x.standstillCheck g overdue may
  | .idle => if x.clearSet = [] then x else x.evaluated g
  | .tripped => { x with answered := true }.evaluated g
  | _ => x

/-! ### Clear-set changes (R38, R39) -/

/-- HELD evaluated again at a clear-set change (R29, R53). -/
def heldSetChange (x : Shaft) (g : Geometry) : Shaft := { x with heldReason := x.requestReason.or x.heldReason }.evaluated g

/-- A clear-set change acted on (section 3.5). -/
def actOnSet (x : Shaft) (g : Geometry) (overdue : Bool) : Shaft :=
  if g.enabled = false then x.evaluated g
  else match x.state with
    | .running | .lastRun => if x.clearSet = [] then x else x.startClearStop g overdue
    | .clearing => (if x.clearSet = [] then x else x.recordReason).replan g
    | .stopping => if x.clearSet = [] then x else x.recordReason
    | .homing => if x.clearSet = [] then x else x.homingStop
    | .held => x.heldSetChange g
    | .idle => x.evaluated g
    | .tripped =>
      if x.standstill = 3 then { x with answered := true }.evaluated g else { x with answered := false }

/-- A clear set taken, and acted on if it is a change against an old record (R39). -/
def takeSet (x : Shaft) (g : Geometry) (overdue : Bool) (old : Shaft) (set : List Sill) : Shaft :=
  if x.zoneFlags = old.zoneFlags ∧ x.park.isSome = old.park.isSome ∧ set = old.clearSet then { x with clearSet := set }
  else { x with clearSet := set }.actOnSet g overdue

end Shaft

/-! ### The operations of the state -/

section
variable (s : State) (k : Nat)

theorem State.cores_setDegraded (on : Bool) :
    (s.setDegraded k on).cores = s.cores.modify k fun x => { x with degraded := on } := by
  unfold State.setDegraded
  split
  · next same => exact (s.cores_modify_self k (by rw [← same]; rfl)).symm
  · rw [State.notify_cores, State.cores_modShaft]
    exact fun _ => rfl

theorem State.cores_enterShaft (st : ShaftState) (permit creep brake : Bool) :
    (s.enterShaft k st permit creep brake).cores = s.cores.modify k fun x => x.enter st permit creep brake := by
  unfold State.enterShaft
  dsimp only
  rw [State.recomputeLamps_cores]
  split
  · next service =>
    rw [State.cores_modShaft]
    · simp [Shaft.enter, service]
    · exact fun _ => rfl
  · next rest =>
    rw [State.cores_setDegraded, State.cores_modShaft, Tab.modify_modify]
    · simp [Shaft.enter, rest]
    · exact fun _ => rfl

theorem State.cores_enterStopping : (s.enterStopping k).cores = s.cores.modify k Shaft.stop := by
  unfold State.enterStopping
  rw [State.cores_enterShaft, State.cores_modShaft, Tab.modify_modify]
  · rfl
  · exact fun _ => rfl

theorem State.cores_finalStop : (s.finalStop k).cores = s.cores.modify k Shaft.finalStop := by
  unfold State.finalStop
  dsimp only
  have state : (s.shaft k).core.state = (s.shaft k).state := rfl
  split
  · next here =>
    rw [State.cores_enterStopping, State.cores_modShaft, Tab.modify_modify]
    · exact s.cores_modify_congr k (by simp only [Shaft.finalStop, state, here])
    · exact fun _ => rfl
  · next here =>
    rw [State.cores_enterStopping, State.cores_modShaft, Tab.modify_modify]
    · exact s.cores_modify_congr k (by simp only [Shaft.finalStop, state, here])
    · exact fun _ => rfl
  · next here =>
    rw [State.cores_modShaft]
    · exact s.cores_modify_congr k (by simp only [Shaft.finalStop, state, here])
    · exact fun _ => rfl
  · next lastRun clearing stopping =>
    refine (s.cores_modify_self k ?_).symm
    unfold Shaft.finalStop
    rw [state]
    split <;> first | contradiction | rfl

end

end Sys2Proof.Machine
end

section
/-! The operations of chapters 2 and 3 on the shafts' own records: each is the function of Shaft of the same name (R44 to R55). -/

namespace Sys2Proof.Machine

/-! ### What the operations read and leave (R15, R140) -/

theorem State.geometry_of_changes {F : List Field} {s t : State} (h : ChangesOnly F s t) (k : Nat)
    (n : Field.tables ∉ F := by decide) : t.geometry k = s.geometry k := by
  rw [State.geometry, h.tables n]; rfl

section
variable (s : State) (k j : Nat)

@[simp] theorem State.modShaft_geometry (f : Shaft → Shaft) : (s.modShaft k f).geometry j = s.geometry j := rfl

@[simp] theorem State.modShaft_shaftEnabled (f : Shaft → Shaft) : (s.modShaft k f).shaftEnabled j = s.shaftEnabled j := rfl

@[simp] theorem State.enterShaft_geometry (st : ShaftState) (permit creep brake : Bool) :
    (s.enterShaft k st permit creep brake).geometry j = s.geometry j :=
  State.geometry_of_changes (F := [.shafts, .net]) (State.enterShaft_blank (by decide) (by decide) s k st permit creep brake) j

@[simp] theorem State.enterShaft_day (st : ShaftState) (permit creep brake : Bool) :
    (s.enterShaft k st permit creep brake).day = s.day :=
  ChangesOnly.day (F := [.shafts, .net]) (State.enterShaft_blank (by decide) (by decide) s k st permit creep brake)

@[simp] theorem State.enterStopping_day : (s.enterStopping k).day = s.day :=
  ChangesOnly.day (F := [.shafts, .net]) (State.enterStopping_blank (by decide) (by decide) s k)

@[simp] theorem State.setDegraded_day (on : Bool) : (s.setDegraded k on).day = s.day :=
  ChangesOnly.day (F := [.shafts, .net]) (State.setDegraded_blank (by decide) (by decide) s k on)

@[simp] theorem State.recordReason_day : (s.recordReason k).day = s.day := rfl

@[simp] theorem State.recordReason_geometry : (s.recordReason k).geometry j = s.geometry j := rfl

@[simp] theorem State.makePlan_day (v : Nat) : (s.makePlan k v).day = s.day := rfl

@[simp] theorem State.makePlan_geometry (v : Nat) : (s.makePlan k v).geometry j = s.geometry j := rfl

end

/-! ### The operations of the state -/

section
variable (s : State) (k : Nat)

theorem State.cores_overdueStop : (s.overdueStop k).cores = s.cores.modify k fun x => x.overdueStop s.day.overdue := by
  unfold State.overdueStop
  split
  · next overdue => rw [State.cores_finalStop]; simp [Shaft.overdueStop, overdue]
  · next inTime => exact (s.cores_modify_self k (by simp [Shaft.overdueStop, inTime])).symm

theorem State.cores_enterClearing (d : Nat) :
    (s.enterClearing k d).cores = s.cores.modify k fun x => x.startClearing (s.geometry k) s.day.overdue d := by
  unfold State.enterClearing
  dsimp only
  rw [State.cores_overdueStop]
  simp only [State.enterShaft_geometry, State.modShaft_geometry]
  split
  · next near =>
    simp (disch := (unfold Shaft.core; intros; rfl)) only [State.cores_enterStopping, State.cores_enterShaft, State.cores_modShaft,
      Tab.modify_modify, State.enterStopping_day, State.enterShaft_day, State.modShaft_day, Shaft.startClearing, near, if_true]
  · next far =>
    simp (disch := (unfold Shaft.core; intros; rfl)) only [State.cores_enterShaft, State.cores_modShaft, Tab.modify_modify,
      State.enterShaft_day, State.modShaft_day, Shaft.startClearing, far, if_false]

theorem State.cores_tripShaft (c : TripCause) (enabled : s.shaftEnabled k = true) (untripped : (s.shaft k).state ≠ .tripped) :
    (s.tripShaft k c).cores = s.cores.modify k fun x => x.tripFor c := by
  unfold State.tripShaft
  simp (disch := (unfold Shaft.core; intros; rfl)) only [enabled, untripped, Bool.true_eq_false, or_self, if_false,
    State.closingCheck_cores, State.notify_cores, State.cores_enterShaft, State.cores_modShaft, Tab.modify_modify]
  rfl

theorem State.tripShaft_of_tripped {c : TripCause} (tripped : (s.shaft k).state = .tripped) : s.tripShaft k c = s := by
  simp [State.tripShaft, tripped]

theorem State.tripShaft_of_disabled {c : TripCause} (disabled : s.shaftEnabled k = false) : s.tripShaft k c = s := by
  simp [State.tripShaft, disabled]

theorem State.cores_enterHeld (o : Outcome) : (s.enterHeld k o).cores = s.cores.modify k fun x => x.hold o := by
  unfold State.enterHeld
  simp (disch := (unfold Shaft.core Shaft.requestReason; intros; rfl)) only [State.closingCheck_cores,
    State.notifyHeld_cores, State.deliver_cores, State.cores_enterShaft, State.cores_modShaft, Tab.modify_modify]
  rfl

theorem State.standingEval_eq : s.standingEval k = (s.shaft k).core.evaluate (s.geometry k) := rfl

theorem State.cores_evaluateAndDeliver :
    (s.evaluateAndDeliver k).cores = s.cores.modify k fun x => x.evaluated (s.geometry k) := by
  unfold State.evaluateAndDeliver
  rw [State.deliver_cores, State.cores_modShaft]
  · exact s.cores_modify_congr k (by rw [State.standingEval_eq]; rfl)
  · exact fun _ => rfl

theorem State.evaluated_of_same (same : (s.shaft k).outcome = some (s.standingEval k)) :
    (s.shaft k).core.evaluated (s.geometry k) = (s.shaft k).core := by
  rw [Shaft.evaluated, ← State.standingEval_eq, ← same]; rfl

theorem State.cores_deliverIfChanged :
    (s.deliverIfChanged k).cores = s.cores.modify k fun x => x.evaluated (s.geometry k) := by
  unfold State.deliverIfChanged
  split
  · next same => exact (s.cores_modify_self k (s.evaluated_of_same k same)).symm
  · exact s.cores_evaluateAndDeliver k

theorem State.cores_heldReevaluate :
    (s.heldReevaluate k).cores = s.cores.modify k fun x => x.evaluated (s.geometry k) := by
  unfold State.heldReevaluate
  split
  · next same => exact (s.cores_modify_self k (s.evaluated_of_same k same)).symm
  · rw [State.notifyHeld_cores, State.cores_evaluateAndDeliver]

theorem State.cores_heldSetChange :
    (s.heldSetChange k).cores = s.cores.modify k fun x => x.heldSetChange (s.geometry k) := by
  unfold State.heldSetChange
  simp (disch := (unfold Shaft.core Shaft.requestReason; intros; rfl)) only [State.cores_ite, State.notifyHeld_cores,
    ite_self, State.cores_evaluateAndDeliver, State.cores_modShaft, Tab.modify_modify, State.modShaft_geometry]
  rfl

theorem State.cores_makePlan (v : Nat) : (s.makePlan k v).cores = s.cores.modify k fun x => x.planWith (s.geometry k) v := by
  unfold State.makePlan
  rw [State.cores_modShaft]
  · exact s.cores_modify_congr k rfl
  · exact fun _ => rfl

theorem State.cores_unclearable : (s.unclearable k).cores = s.cores.modify k Shaft.stopUnclearable := by
  unfold State.unclearable
  simp (disch := (unfold Shaft.core; intros; rfl)) only [State.notify_cores, State.deliver_cores, State.cores_modShaft,
    State.cores_enterStopping, Tab.modify_modify]
  rfl

theorem State.cores_recordReason : (s.recordReason k).cores = s.cores.modify k Shaft.recordReason :=
  s.cores_modShaft k fun _ => rfl

theorem State.cores_homingStop : (s.homingStop k).cores = s.cores.modify k Shaft.homingStop := by
  unfold State.homingStop
  simp (disch := (unfold Shaft.core; intros; rfl)) only [State.deliver_cores, State.cores_recordReason,
    State.cores_modShaft, State.cores_enterStopping, Tab.modify_modify]
  rfl

variable (inside : k < 2)
include inside

/-- The distance that a plan just made gives (R44). -/
theorem State.plannedDistance_makePlan (v : Nat) : ((s.makePlan k v).shaft k).plannedDistance =
    ((s.geometry k).plan (s.shaft k).clearSet (s.shaft k).pos v).target.map PlanTarget.distance := by
  simp [State.makePlan, State.shaft_modShaft, inside, Shaft.plannedDistance]

theorem State.cores_planMoving :
    (s.planMoving k).cores = s.cores.modify k fun x => x.planMoving (s.geometry k) s.day.overdue := by
  unfold State.planMoving
  dsimp only
  rw [s.plannedDistance_makePlan k inside]
  cases plan : ((s.geometry k).plan (s.shaft k).clearSet (s.shaft k).pos (s.shaft k).speed).target with
  | some p =>
    simp only [Option.map_some, State.cores_enterClearing, State.cores_makePlan, Tab.modify_modify]
    refine s.cores_modify_congr k ?_
    simp only [Shaft.planMoving, Shaft.core, plan]
    rfl
  | none =>
    simp only [Option.map_none, State.cores_unclearable, State.cores_makePlan, Tab.modify_modify]
    refine s.cores_modify_congr k ?_
    simp only [Shaft.planMoving, Shaft.core, plan]

theorem State.cores_replan : (s.replan k).cores = s.cores.modify k fun x => x.replan (s.geometry k) := by
  unfold State.replan
  dsimp only
  rw [s.plannedDistance_makePlan k inside]
  cases plan : ((s.geometry k).plan (s.shaft k).clearSet (s.shaft k).pos (s.shaft k).speed).target with
  | some p =>
    simp only [Option.map_some]
    split
    · next near =>
      rw [State.makePlan_geometry] at near
      simp only [State.cores_enterStopping, State.cores_makePlan, Tab.modify_modify]
      refine s.cores_modify_congr k ?_
      simp only [Shaft.replan, Shaft.core, plan, near, if_true]
    · next far =>
      rw [State.makePlan_geometry] at far
      simp (disch := (unfold Shaft.core; intros; rfl)) only [State.cores_modShaft, State.cores_makePlan, Tab.modify_modify]
      refine s.cores_modify_congr k ?_
      simp only [Shaft.replan, Shaft.core, plan, far, if_false]
  | none =>
    simp only [Option.map_none, State.cores_unclearable, State.cores_makePlan, Tab.modify_modify]
    refine s.cores_modify_congr k ?_
    simp only [Shaft.replan, Shaft.core, plan]

theorem State.cores_startClearStop :
    (s.startClearStop k).cores = s.cores.modify k fun x => x.startClearStop (s.geometry k) s.day.overdue := by
  unfold State.startClearStop
  simp (disch := (unfold Shaft.core; intros; rfl)) only [State.cores_planMoving _ k inside, State.cores_recordReason,
    State.cores_modShaft, Tab.modify_modify, State.recordReason_geometry, State.recordReason_day, State.modShaft_geometry,
    State.modShaft_day]
  rfl

theorem State.cores_attemptReapproach : (s.attemptReapproach k).cores =
    s.cores.modify k fun x => x.reapproachOrHold (s.geometry k) s.day.overdue (s.mayReapproach k) := by
  unfold State.attemptReapproach
  dsimp only
  rw [s.plannedDistance_makePlan k inside]
  cases plan : ((s.geometry k).plan (s.shaft k).clearSet (s.shaft k).pos 0).target with
  | some p =>
    simp only [Option.map_some]
    split
    · next may =>
      simp (disch := (unfold Shaft.core; intros; rfl)) only [State.cores_enterClearing, State.cores_modShaft,
        State.cores_makePlan, Tab.modify_modify, State.modShaft_geometry, State.modShaft_day, State.makePlan_geometry,
        State.makePlan_day]
      refine s.cores_modify_congr k ?_
      simp only [Shaft.reapproachOrHold, Shaft.core, plan, may, if_true]
      rfl
    · next barred =>
      simp (disch := (unfold Shaft.core; intros; rfl)) only [State.cores_enterHeld, State.cores_modShaft,
        State.cores_makePlan, Tab.modify_modify]
      refine s.cores_modify_congr k ?_
      simp only [Shaft.reapproachOrHold, Shaft.core, plan, barred]
      rfl
  | none =>
    simp (disch := (unfold Shaft.core; intros; rfl)) only [Option.map_none, State.cores_enterHeld, State.cores_modShaft,
      State.cores_makePlan, Tab.modify_modify]
    refine s.cores_modify_congr k ?_
    simp only [Shaft.reapproachOrHold, Shaft.core, plan]
    rfl

theorem State.cores_standstillCheck : (s.standstillCheck k).cores =
    s.cores.modify k fun x => x.standstillCheck (s.geometry k) s.day.overdue (s.mayReapproach k) := by
  have valid : (s.shaft k).core.posValid = (s.shaft k).posValid := rfl
  unfold State.standstillCheck
  cases eval : s.standingEval k <;> rw [State.standingEval_eq] at eval
  · simp only [State.cores_enterHeld]
    exact s.cores_modify_congr k (by simp only [Shaft.standstillCheck, eval])
  · dsimp only
    split
    · next known =>
      rw [s.cores_attemptReapproach k inside]
      exact s.cores_modify_congr k (by simp only [Shaft.standstillCheck, eval, valid, known, if_true])
    · next unknown =>
      rw [State.cores_enterHeld]
      exact s.cores_modify_congr k (by simp [Shaft.standstillCheck, eval, valid, unknown])

theorem State.cores_standstillEvent : (s.standstillEvent k).cores =
    s.cores.modify k fun x => x.standstillEvent (s.geometry k) s.day.overdue (s.mayReapproach k) := by
  have state : (s.shaft k).core.state = (s.shaft k).state := rfl
  have set : (s.shaft k).core.clearSet = (s.shaft k).clearSet := rfl
  unfold State.standstillEvent
  dsimp only
  split
  · next here =>
    rw [s.cores_standstillCheck k inside]
    exact s.cores_modify_congr k (by simp only [Shaft.standstillEvent, state, here])
  · next here =>
    split
    · next empty => exact (s.cores_modify_self k (by simp [Shaft.standstillEvent, state, here, set, empty])).symm
    · next some =>
      rw [State.cores_deliverIfChanged]
      exact s.cores_modify_congr k (by simp [Shaft.standstillEvent, state, here, set, some])
  · next here =>
    have same : ∀ t : State, (if (s.shaft k).answered = true then t.deliverIfChanged k else t.evaluateAndDeliver k).cores =
        t.cores.modify k fun x => x.evaluated (t.geometry k) := fun t => by
      rw [State.cores_ite, State.cores_deliverIfChanged, State.cores_evaluateAndDeliver, ite_self]
    rw [same]
    simp (disch := (unfold Shaft.core; intros; rfl)) only [State.cores_modShaft, Tab.modify_modify, State.modShaft_geometry]
    exact s.cores_modify_congr k (by simp only [Shaft.standstillEvent, state, here])
  · next stopping idle tripped =>
    refine (s.cores_modify_self k ?_).symm
    unfold Shaft.standstillEvent
    rw [state]
    split <;> first | contradiction | rfl

theorem State.cores_actOnSet : (s.actOnSet k).cores =
    s.cores.modify k fun x => x.actOnSet (s.geometry k) s.day.overdue := by
  have state : (s.shaft k).core.state = (s.shaft k).state := rfl
  have set : (s.shaft k).core.clearSet = (s.shaft k).clearSet := rfl
  have still : (s.shaft k).core.standstill = (s.shaft k).standstill := rfl
  unfold State.actOnSet State.shaftEnabled
  dsimp only
  split
  · next disabled =>
    rw [State.cores_evaluateAndDeliver]
    exact s.cores_modify_congr k (by simp only [Shaft.actOnSet, disabled, if_true])
  · next enabled =>
    have enabled : (s.geometry k).enabled = true := by simpa using enabled
    split
    · next here =>
      split
      · next empty => exact (s.cores_modify_self k (by simp [Shaft.actOnSet, enabled, state, here, set, empty])).symm
      · next some =>
        rw [s.cores_startClearStop k inside]
        exact s.cores_modify_congr k (by simp [Shaft.actOnSet, enabled, state, here, set, some])
    · next here =>
      split
      · next empty => exact (s.cores_modify_self k (by simp [Shaft.actOnSet, enabled, state, here, set, empty])).symm
      · next some =>
        rw [s.cores_startClearStop k inside]
        exact s.cores_modify_congr k (by simp [Shaft.actOnSet, enabled, state, here, set, some])
    · next here =>
      rw [State.cores_replan _ k inside]
      split
      · next empty => exact s.cores_modify_congr k (by simp [Shaft.actOnSet, enabled, state, here, set, empty])
      · next some =>
        rw [State.cores_recordReason, Tab.modify_modify, State.recordReason_geometry]
        exact s.cores_modify_congr k (by simp [Shaft.actOnSet, enabled, state, here, set, some])
    · next here =>
      split
      · next empty => exact (s.cores_modify_self k (by simp [Shaft.actOnSet, enabled, state, here, set, empty])).symm
      · next some =>
        rw [State.cores_recordReason]
        exact s.cores_modify_congr k (by simp [Shaft.actOnSet, enabled, state, here, set, some])
    · next here =>
      split
      · next empty => exact (s.cores_modify_self k (by simp [Shaft.actOnSet, enabled, state, here, set, empty])).symm
      · next some =>
        rw [State.cores_homingStop]
        exact s.cores_modify_congr k (by simp [Shaft.actOnSet, enabled, state, here, set, some])
    · next here =>
      rw [State.cores_heldSetChange]
      exact s.cores_modify_congr k (by simp [Shaft.actOnSet, enabled, state, here])
    · next here =>
      rw [State.cores_evaluateAndDeliver]
      exact s.cores_modify_congr k (by simp [Shaft.actOnSet, enabled, state, here])
    · next here =>
      split
      · next standing =>
        simp (disch := (unfold Shaft.core; intros; rfl)) only [State.cores_evaluateAndDeliver, State.cores_modShaft, Tab.modify_modify,
          State.modShaft_geometry]
        exact s.cores_modify_congr k (by simp [Shaft.actOnSet, enabled, state, here, still, standing])
      · next moving =>
        rw [State.cores_modShaft]
        · exact s.cores_modify_congr k (by simp [Shaft.actOnSet, enabled, state, here, still, moving])
        · exact fun _ => rfl

end

end Sys2Proof.Machine
end

section
/-! Requests, service and counts on the shafts' own records (R20 to R27, R38, R39). -/

namespace Sys2Proof.Machine

namespace Shaft

/-- HELD takes its reason from the requests again (R29, R38). -/
def originChanged (x : Shaft) : Shaft :=
  if x.state = .held then { x with heldReason := x.requestReason.or x.heldReason } else x

/-- A PARK request of an origin (R38). -/
def requestPark (x : Shaft) (g : Geometry) (overdue : Bool) (sills : List Sill) (o : ParkOrigin) : Shaft :=
  match x.park, o with
  | none, o => { x with park := some o }.takeSet g overdue x sills
  | some .day, .order => { x with park := some .order }.originChanged
  | some _, _ => x

/-- The PARK request withdrawn (R38). -/
def withdrawPark (x : Shaft) (g : Geometry) (overdue : Bool) (set : List Sill) : Shaft :=
  if x.park = none then x else { x with park := none }.takeSet g overdue x set

/-- HOMING with a PARK request of the close wait (R51, R144). -/
def parkHoming (x : Shaft) (g : Geometry) (overdue : Bool) (sills : List Sill) : Shaft :=
  let y := x.requestPark g overdue sills .day
  if y.state = .homing then y.homingStop else y

/-- HOMING entered with its timer (R25). -/
def startHoming (x : Shaft) (g : Geometry) (overdue : Bool) (sills : List Sill) (timer : Timer) : Shaft :=
  let y := { x with bar := false, homeTimer := timer }.enter .homing true true false
  if overdue then y.parkHoming g overdue sills else y

/-- The full circuit done (R27). -/
def completeLastRun (x : Shaft) (g : Geometry) (overdue : Bool) (sills : List Sill) : Shaft :=
  { x with park := some (x.park.getD .day), clearSet := sills }.startClearStop g overdue

/-- A trip of a shaft that can take one (R30). -/
def trips (x : Shaft) (enabled : Bool) (c : TripCause) : Shaft :=
  if enabled = false ∨ x.state = .tripped then x else x.tripFor c

/-- What a forward count does beyond the counting (R20, R27, R47, R53). -/
def afterForward (x : Shaft) (g : Geometry) (overdue : Bool) (sills : List Sill) : Shaft :=
  match x.state with
  | .lastRun =>
    let y := { x with advance := some (x.advance.getD 0 + 1) }
    if g.L ≤ x.advance.getD 0 + 1 then y.completeLastRun g overdue sills else y
  | .clearing =>
    if x.remaining.getD 0 - 1 ≤ g.sc then x.stop else { x with remaining := some (x.remaining.getD 0 - 1) }
  | .held => x.evaluated g
  | _ => x

/-- What a backward count does beyond the counting (R21, R53). -/
def afterBackward (x : Shaft) (g : Geometry) : Shaft :=
  match x.state with
  | .idle =>
    let y := { x with settling := x.settling + 1 }
    if 5 ≤ x.settling + 1 then y.trips g.enabled .reverse else y
  | .held => (x.evaluated g).trips g.enabled .reverse
  | _ => x.trips g.enabled .reverse

end Shaft

/-! ### The clear set of a request record (R39) -/

/-- The clear set that flags and a PARK request give (R39). -/
def State.setFor (s : State) (k : Nat) (flags : ZoneMask) (park : Option ParkOrigin) : List Sill :=
  if park.isSome then s.sills k
  else (s.sills k).filter fun i => (s.landingZone k i.landing).any flags.getLsbD

section
variable (s : State) (k : Nat)

theorem State.computeClearSet_eq : s.computeClearSet k = s.setFor k (s.shaft k).zoneFlags (s.shaft k).park := rfl

theorem State.setFor_of_park (flags : ZoneMask) (o : ParkOrigin) : s.setFor k flags (some o) = s.sills k := rfl

@[simp] theorem State.modShaft_sills (f : Shaft → Shaft) (j : Nat) : (s.modShaft k f).sills j = s.sills j := rfl

@[simp] theorem State.modShaft_landingSilent (f : Shaft → Shaft) (j : Nat) :
    (s.modShaft k f).landingSilent j = s.landingSilent j := rfl

/-! ### The operations of the state -/

theorem State.cores_trips (c : TripCause) :
    (s.tripShaft k c).cores = s.cores.modify k fun x => x.trips (s.shaftEnabled k) c := by
  have state : (s.shaft k).core.state = (s.shaft k).state := rfl
  by_cases guard : s.shaftEnabled k = false ∨ (s.shaft k).state = .tripped
  · have same : s.tripShaft k c = s := if_pos guard
    rw [same]
    exact (s.cores_modify_self k (by simp [Shaft.trips, state, guard])).symm
  · obtain ⟨enabled, untripped⟩ := not_or.1 guard
    rw [s.cores_tripShaft k c (by simpa using enabled) untripped]
    exact s.cores_modify_congr k (by simp [Shaft.trips, state, guard])

theorem State.cores_enterService (st : ShaftState) :
    (s.enterService k st).cores = s.cores.modify k fun x => x.serve st (s.landingSilent k) := by
  unfold State.enterService
  simp only [State.cores_enterShaft, State.cores_setDegraded, Tab.modify_modify]
  rfl

@[simp] theorem State.enterService_day (st : ShaftState) : (s.enterService k st).day = s.day :=
  ChangesOnly.day (F := [.shafts, .net]) (State.enterService_blank (by decide) (by decide) s k st)

theorem State.cores_enterLastRun :
    (s.enterLastRun k).cores = s.cores.modify k fun x => x.startLastRun (s.landingSilent k) s.day.overdue := by
  unfold State.enterLastRun
  simp (disch := (unfold Shaft.core; intros; rfl)) only [State.cores_overdueStop, State.cores_enterService, State.cores_modShaft,
    Tab.modify_modify, State.modShaft_landingSilent, State.enterService_day, State.modShaft_day]
  rfl

theorem State.cores_enterRunning : (s.enterRunning k).cores =
    s.cores.modify k fun x => x.startRunning (decide (s.day.mode = .lastCall)) (s.landingSilent k) s.day.overdue := by
  unfold State.enterRunning
  split
  · next lastCall => rw [State.cores_enterLastRun]; simp [Shaft.startRunning, lastCall]
  · next early =>
    simp (disch := (unfold Shaft.core; intros; rfl)) only [State.cores_enterService, State.cores_modShaft, Tab.modify_modify,
      State.modShaft_landingSilent]
    simp [Shaft.startRunning, early]

theorem State.cores_enterIdle : (s.enterIdle k).cores = s.cores.modify k Shaft.standIdle := by
  unfold State.enterIdle
  simp (disch := (unfold Shaft.core; intros; rfl)) only [State.cores_enterShaft, State.cores_modShaft, Tab.modify_modify]
  rfl

theorem State.cores_lastRunOrder : (s.lastRunOrder k).cores = s.cores.modify k fun x =>
    if s.shaftEnabled k = true ∧ x.state = .running then x.startLastRun (s.landingSilent k) s.day.overdue else x := by
  have state : (s.shaft k).core.state = (s.shaft k).state := rfl
  unfold State.lastRunOrder
  split
  · next here =>
    rw [State.cores_enterLastRun]
    exact s.cores_modify_congr k (by simp only [state]; rw [if_pos (by simpa using here)])
  · next other =>
    exact (s.cores_modify_self k (by simp only [state]; rw [if_neg (by simpa using other)])).symm

theorem State.cores_evaluateDegraded : (s.evaluateDegraded k).cores = s.cores.modify k fun x =>
    if x.state = .running ∨ x.state = .lastRun then { x with degraded := s.landingSilent k, creep := s.landingSilent k } else x := by
  have state : (s.shaft k).core.state = (s.shaft k).state := rfl
  unfold State.evaluateDegraded
  dsimp only
  split
  · next service =>
    simp (disch := (unfold Shaft.core; intros; rfl)) only [State.recomputeLamps_cores, State.cores_modShaft, State.cores_setDegraded,
      Tab.modify_modify]
    exact s.cores_modify_congr k (by simp only [state, service, if_true])
  · next rest => exact (s.cores_modify_self k (by simp only [state, rest, if_false])).symm

theorem State.cores_originChanged : (s.originChanged k).cores = s.cores.modify k Shaft.originChanged := by
  have state : (s.shaft k).core.state = (s.shaft k).state := rfl
  unfold State.originChanged
  dsimp only
  split
  · next change =>
    simp (disch := (unfold Shaft.core Shaft.requestReason; intros; rfl)) only [State.notifyHeld_cores, State.cores_modShaft]
    exact s.cores_modify_congr k (by simp only [Shaft.originChanged, state, change, if_true])
  · next same =>
    refine (s.cores_modify_self k ?_).symm
    unfold Shaft.originChanged
    split
    · next held =>
      have kept : (s.shaft k).requestReason.or (s.shaft k).heldReason = (s.shaft k).heldReason := by
        by_contra changed
        exact same ⟨held, changed⟩
      change { (s.shaft k).core with heldReason := (s.shaft k).requestReason.or (s.shaft k).heldReason } = _
      rw [kept]
      rfl
    · rfl

variable (inside : k < 2)
include inside

theorem State.cores_clearSetEvent (old : Shaft) : (s.clearSetEvent k old).cores =
    s.cores.modify k fun x => x.takeSet (s.geometry k) s.day.overdue old (s.computeClearSet k) := by
  have shaft : ((s.modShaft k fun x => { x with clearSet := s.computeClearSet k }).shaft k) =
      { s.shaft k with clearSet := s.computeClearSet k } := by rw [State.shaft_modShaft, if_pos ⟨rfl, inside⟩]
  unfold State.clearSetEvent
  dsimp only
  rw [shaft]
  split
  · next same =>
    rw [State.cores_modShaft]
    · exact s.cores_modify_congr k (by rw [Shaft.takeSet]; exact (if_pos same).symm)
    · exact fun _ => rfl
  · next change =>
    rw [State.cores_actOnSet _ k inside, State.cores_modShaft, Tab.modify_modify]
    · exact s.cores_modify_congr k (by rw [Shaft.takeSet]; exact (if_neg change).symm)
    · exact fun _ => rfl

theorem State.cores_recomputeSet : (s.recomputeSet k).cores = s.cores.modify k fun x =>
    x.takeSet (s.geometry k) s.day.overdue (s.shaft k) (s.computeClearSet k) :=
  s.cores_clearSetEvent k inside _

theorem State.cores_setZoneFlag (z : Nat) (on : Bool) : ∃ flags, (s.setZoneFlag k z on).cores = s.cores.modify k fun x =>
    { x with zoneFlags := flags }.takeSet (s.geometry k) s.day.overdue (s.shaft k) (s.setFor k flags (s.shaft k).park) := by
  refine ⟨if on then (s.shaft k).zoneFlags ||| ZoneMask.single z else (s.shaft k).zoneFlags &&& ~~~ ZoneMask.single z, ?_⟩
  unfold State.setZoneFlag
  dsimp only
  rw [State.cores_clearSetEvent _ k inside, State.cores_modShaft, Tab.modify_modify]
  · simp only [State.computeClearSet_eq, State.shaft_modShaft, inside, and_self, if_true]
    rfl
  · exact fun _ => rfl

theorem State.cores_requestPark (o : ParkOrigin) : (s.requestPark k o).cores =
    s.cores.modify k fun x => x.requestPark (s.geometry k) s.day.overdue (s.sills k) o := by
  have park : (s.shaft k).core.park = (s.shaft k).park := rfl
  unfold State.requestPark
  dsimp only
  split
  · next here =>
    rw [State.cores_clearSetEvent _ k inside, State.cores_modShaft, Tab.modify_modify]
    · simp only [State.computeClearSet_eq, State.shaft_modShaft, inside, and_self, if_true, State.setFor_of_park]
      exact s.cores_modify_congr k (by simp only [Shaft.requestPark, park, here]; rfl)
    · exact fun _ => rfl
  · next here =>
    simp (disch := (unfold Shaft.core; intros; rfl)) only [State.cores_originChanged, State.cores_modShaft, Tab.modify_modify]
    exact s.cores_modify_congr k (by simp only [Shaft.requestPark, park, here])
  · next asked _ _ held here same =>
    refine (s.cores_modify_self k ?_).symm
    unfold Shaft.requestPark
    rw [park, here]
    cases held <;> cases asked <;> first | rfl | exact (same rfl rfl).elim

theorem State.cores_withdrawPark : (s.withdrawPark k).cores = s.cores.modify k fun x =>
    x.withdrawPark (s.geometry k) s.day.overdue (s.setFor k (s.shaft k).zoneFlags none) := by
  have park : (s.shaft k).core.park = (s.shaft k).park := rfl
  unfold State.withdrawPark
  dsimp only
  split
  · next none => exact (s.cores_modify_self k (by simp only [Shaft.withdrawPark, park, none, if_true])).symm
  · next some =>
    rw [State.cores_clearSetEvent _ k inside, State.cores_modShaft, Tab.modify_modify]
    · simp only [State.computeClearSet_eq, State.shaft_modShaft, inside, and_self, if_true]
      exact s.cores_modify_congr k (by simp only [Shaft.withdrawPark, park, some, if_false]; rfl)
    · exact fun _ => rfl

theorem State.cores_parkHoming : (s.parkHoming k).cores =
    s.cores.modify k fun x => x.parkHoming (s.geometry k) s.day.overdue (s.sills k) := by
  have after := State.core_of_modify inside (s.cores_requestPark k inside .day)
  unfold State.parkHoming
  dsimp only
  rw [State.cores_ite, State.cores_homingStop, s.cores_requestPark k inside, Tab.modify_modify]
  by_cases homing : ((s.requestPark k .day).shaft k).state = .homing
  · rw [if_pos homing]
    refine s.cores_modify_congr k ?_
    unfold Shaft.parkHoming
    rw [← after]
    exact (if_pos homing).symm
  · rw [if_neg homing]
    refine s.cores_modify_congr k ?_
    unfold Shaft.parkHoming
    rw [← after]
    exact (if_neg homing).symm

theorem State.cores_enterHoming : ∃ timer,
    timer = s.after (sec ((5 * (s.geometry k).L + 4 * (s.geometry k).Vc - 1) / (4 * (s.geometry k).Vc))) ∧
    (s.enterHoming k).cores =
      s.cores.modify k fun x => x.startHoming (s.geometry k) s.day.overdue (s.sills k) timer := by
  refine ⟨_, rfl, ?_⟩
  have sills : ∀ t : State, (t.enterShaft k .homing true true false).sills k = t.sills k := fun t => by
    rw [State.sills, ChangesOnly.tables (F := [.shafts, .net]) (State.enterShaft_blank (by decide) (by decide) t k .homing true true false)]
    rfl
  unfold State.enterHoming
  dsimp only
  rw [State.enterShaft_day, State.modShaft_day]
  split
  · next overdue =>
    simp (disch := (unfold Shaft.core; intros; rfl)) only [State.cores_parkHoming _ k inside, State.cores_enterShaft, State.cores_modShaft,
      Tab.modify_modify, State.enterShaft_geometry, State.enterShaft_day, State.modShaft_day, State.modShaft_geometry,
      sills, State.modShaft_sills]
    simp [Shaft.startHoming, overdue]
  · next inTime =>
    simp (disch := (unfold Shaft.core; intros; rfl)) only [State.cores_enterShaft, State.cores_modShaft, Tab.modify_modify]
    simp [Shaft.startHoming, inTime]

theorem State.cores_completeLastRun : (s.completeLastRun k).cores =
    s.cores.modify k fun x => x.completeLastRun (s.geometry k) s.day.overdue (s.sills k) := by
  unfold State.completeLastRun
  dsimp only
  rw [State.cores_startClearStop _ k inside]
  simp (disch := (unfold Shaft.core; intros; rfl)) only [State.cores_modShaft, Tab.modify_modify, State.modShaft_geometry,
    State.modShaft_day, State.computeClearSet_eq, State.shaft_modShaft, inside, and_self, if_true, State.setFor_of_park, State.modShaft_sills]
  rfl

theorem State.cores_afterForward : (s.afterForward k).cores =
    s.cores.modify k fun x => x.afterForward (s.geometry k) s.day.overdue (s.sills k) := by
  have state : (s.shaft k).core.state = (s.shaft k).state := rfl
  unfold State.afterForward
  dsimp only
  split
  · next here =>
    rw [State.cores_ite, State.cores_completeLastRun _ k inside, State.cores_modShaft, Tab.modify_modify]
    · rw [State.modShaft_geometry, State.modShaft_day, State.modShaft_sills]
      split
      · next full => exact s.cores_modify_congr k (by simp only [Shaft.afterForward, state, here]; exact (if_pos full).symm)
      · next part => exact s.cores_modify_congr k (by simp only [Shaft.afterForward, state, here]; exact (if_neg part).symm)
    · exact fun _ => rfl
  · next here =>
    rw [State.cores_ite, State.cores_enterStopping, State.cores_modShaft]
    · split
      · next near => exact s.cores_modify_congr k (by simp only [Shaft.afterForward, state, here]; exact (if_pos near).symm)
      · next far => exact s.cores_modify_congr k (by simp only [Shaft.afterForward, state, here]; exact (if_neg far).symm)
    · exact fun _ => rfl
  · next here =>
    rw [State.cores_heldReevaluate]
    exact s.cores_modify_congr k (by simp only [Shaft.afterForward, state, here])
  · next lastRun clearing held =>
    refine (s.cores_modify_self k ?_).symm
    unfold Shaft.afterForward
    rw [state]
    split <;> first | contradiction | rfl

omit inside in
theorem State.cores_afterBackward : (s.afterBackward k).cores =
    s.cores.modify k fun x => x.afterBackward (s.geometry k) := by
  have state : (s.shaft k).core.state = (s.shaft k).state := rfl
  unfold State.afterBackward
  dsimp only
  split
  · next here =>
    rw [State.cores_ite, State.cores_trips, State.cores_modShaft, Tab.modify_modify]
    · split
      · next fifth => exact s.cores_modify_congr k (by simp only [Shaft.afterBackward, state, here]; exact (if_pos fifth).symm)
      · next early => exact s.cores_modify_congr k (by simp only [Shaft.afterBackward, state, here]; exact (if_neg early).symm)
    · exact fun _ => rfl
  · next here =>
    have enabled : (s.heldReevaluate k).shaftEnabled k = s.shaftEnabled k := by
      rw [State.shaftEnabled, State.geometry_of_changes (F := [.shafts, .shutters, .net])
        (State.heldReevaluate_blank (by decide) (by decide) (by decide) s k)]
      rfl
    rw [State.cores_trips, State.cores_heldReevaluate, Tab.modify_modify, enabled]
    exact s.cores_modify_congr k (by simp only [Shaft.afterBackward, state, here]; rfl)
  · next idle held =>
    rw [State.cores_trips]
    refine s.cores_modify_congr k ?_
    unfold Shaft.afterBackward
    rw [state]
    split <;> first | contradiction | rfl

end

end Sys2Proof.Machine
end

section
/-! Counts, the home mark and the drive inputs (R20 to R22, R25, R30, R31): O6, O7, O8 and O10. -/

namespace Sys2Proof.Machine

theorem State.modShaft_modShaft (s : State) (k : Nat) (f g : Shaft → Shaft) :
    (s.modShaft k f).modShaft k g = s.modShaft k fun x => g (f x) := by
  unfold State.modShaft
  simp only [Tab.modify_modify]

/-- A record known less its landings. -/
theorem State.shaft_of_modify {s t : State} {k : Nat} {f : Shaft → Shaft} (inside : k < 2)
    (step : t.cores = s.cores.modify k f) : ∃ l, t.shaft k = { f (s.shaft k).core with landings := l } :=
  ⟨(t.shaft k).landings, congrArg (fun x : Shaft => { x with landings := (t.shaft k).landings }) (State.core_of_modify inside step)⟩

/-! ### Lamps redrawn for one shaft only (R33) -/

section
variable (s : State) (k : Nat) {j : Nat} (other : j ≠ k)
include other

theorem State.shaft_modShaft_other (f : Shaft → Shaft) : (s.modShaft k f).shaft j = s.shaft j := by
  rw [State.shaft_modShaft, if_neg fun both => other both.1.symm]

theorem State.shaft_sendLamp_other (l : Nat) : (s.sendLamp k l).shaft j = s.shaft j := by
  unfold State.sendLamp
  split
  · rfl
  · split
    · next i _ _ =>
      rw [State.shaft, ChangesOnly.shafts (F := [.net]) (State.sendTo_blank (by decide) _ i _ _ _ _)]
      exact s.shaft_modShaft_other k other _
    · rfl

theorem State.shaft_recomputeLamps_other : (s.recomputeLamps k).shaft j = s.shaft j := by
  unfold State.recomputeLamps
  split
  · refine State.forEach_induction (fun t => t.shaft j = s.shaft j) rfl fun t l _ same => ?_
    unfold State.recomputeLamp
    dsimp only
    split
    · exact same
    · rw [State.shaft_sendLamp_other _ _ other, State.modLanding, State.shaft_modShaft_other _ _ other, same]
  · rfl

theorem State.shaft_enterShaft_other (st : ShaftState) (permit creep brake : Bool) :
    (s.enterShaft k st permit creep brake).shaft j = s.shaft j := by
  have degraded : ∀ (t : State) (on : Bool), (t.setDegraded k on).shaft j = t.shaft j := fun t on => by
    unfold State.setDegraded
    split
    · rfl
    · rw [State.shaft, State.notify_shafts]
      exact t.shaft_modShaft_other k other _
  unfold State.enterShaft
  dsimp only
  rw [State.shaft_recomputeLamps_other _ _ other]
  split
  · exact s.shaft_modShaft_other k other _
  · rw [degraded, s.shaft_modShaft_other k other]

theorem State.shaft_enterStopping_other : (s.enterStopping k).shaft j = s.shaft j := by
  unfold State.enterStopping
  rw [State.shaft_enterShaft_other _ _ other, s.shaft_modShaft_other k other]

end

/-! ### What a clear stop makes of a record (R45 to R47) -/

namespace Shaft

/-- A shaft on its way to a stop: CLEARING with a distance to go, or STOPPING with the brake on. -/
def Clears (x : Shaft) : Prop :=
  x.state = .clearing ∧ x.remaining.isSome = true ∨ x.state = .stopping ∧ x.brake = true ∧ x.permit = false

theorem clears_stop (x : Shaft) : x.stop.Clears := .inr ⟨rfl, rfl, rfl⟩

/-- What a clear stop's start gives the record, its plan whatever it is (R46). -/
theorem startClearStop_spec (x : Shaft) (g : Geometry) (overdue : Bool) :
    (x.startClearStop g overdue).park = x.park ∧ (x.startClearStop g overdue).advance = none ∧
    (x.startClearStop g overdue).reapproach = 0 ∧ (x.startClearStop g overdue).clearSet = x.clearSet ∧
    (x.startClearStop g overdue).clearStops = bump x.clearStops ∧ (x.startClearStop g overdue).Clears := by
  unfold startClearStop planMoving
  split
  · next p _ =>
    unfold startClearing
    dsimp only
    by_cases near : p.distance ≤ g.sc
    · rw [if_pos near]
      cases overdue
      · exact ⟨rfl, rfl, rfl, rfl, rfl, clears_stop _⟩
      · exact ⟨rfl, rfl, rfl, rfl, rfl, .inr ⟨rfl, rfl, rfl⟩⟩
    · rw [if_neg near]
      cases overdue
      · exact ⟨rfl, rfl, rfl, rfl, rfl, .inl ⟨rfl, rfl⟩⟩
      · exact ⟨rfl, rfl, rfl, rfl, rfl, clears_stop _⟩
  · exact ⟨rfl, rfl, rfl, rfl, rfl, .inr ⟨rfl, rfl, rfl⟩⟩

end Shaft

section
variable (s : State) (k : Nat)

/-! ### Forward counts: O6 -/

theorem State.afterForward_of_quiet (quiet : (s.shaft k).state ∈ [ShaftState.idle, .homing, .running, .stopping, .tripped]) :
    s.afterForward k = s := by
  unfold State.afterForward
  dsimp only
  split
  · next here => simp [here] at quiet
  · next here => simp [here] at quiet
  · next here => simp [here] at quiet
  · rfl

theorem State.afterForward_of_clearing (here : (s.shaft k).state = .clearing) : s.afterForward k =
    if (s.shaft k).remaining.getD 0 - 1 ≤ (s.geometry k).sc then s.enterStopping k
    else s.modShaft k fun x => { x with remaining := some ((s.shaft k).remaining.getD 0 - 1) } := by
  simp only [State.afterForward, here]

theorem State.afterForward_of_lastRun (here : (s.shaft k).state = .lastRun) : s.afterForward k =
    if (s.geometry k).L ≤ (s.shaft k).advance.getD 0 + 1 then
      (s.modShaft k fun x => { x with advance := some ((s.shaft k).advance.getD 0 + 1) }).completeLastRun k
    else s.modShaft k fun x => { x with advance := some ((s.shaft k).advance.getD 0 + 1) } := by
  simp only [State.afterForward, here]
  rfl

/-- A forward count applied to the position and the window (R20, R23). -/
def State.counted (s : State) (k : Nat) : State := s.modShaft k fun x => x.countForward (s.geometry k).L

/-- A backward count applied to the position (R21, R23). -/
def State.countedBack (s : State) (k : Nat) : State := s.modShaft k fun x => x.countBackward (s.geometry k).L

theorem State.counted_changes : ChangesOnly [.shafts] s (s.counted k) := State.modShaft_blank (by decide) s k _

theorem State.countedBack_changes : ChangesOnly [.shafts] s (s.countedBack k) := State.modShaft_blank (by decide) s k _

@[simp] theorem State.counted_geometry (j : Nat) : (s.counted k).geometry j = s.geometry j := rfl

@[simp] theorem State.countedBack_geometry (j : Nat) : (s.countedBack k).geometry j = s.geometry j := rfl

theorem State.cores_countedBack : (s.countedBack k).cores = s.cores.modify k fun x => x.countBackward (s.geometry k).L :=
  s.cores_modShaft k fun _ => rfl

variable {s k}

theorem State.shaft_counted (inside : k < 2) : (s.counted k).shaft k = (s.shaft k).countForward (s.geometry k).L := by
  rw [State.counted, State.shaft_modShaft, if_pos ⟨rfl, inside⟩]

theorem State.shaft_countedBack (inside : k < 2) : (s.countedBack k).shaft k = (s.shaft k).countBackward (s.geometry k).L := by
  rw [State.countedBack, State.shaft_modShaft, if_pos ⟨rfl, inside⟩]

theorem exec_forwardCount_eq (enabled : s.shaftEnabled k = true) : exec (.forwardCount k) s = .next ((s.counted k).afterForward k) :=
  if_pos enabled

theorem exec_backwardCount_eq (enabled : s.shaftEnabled k = true) :
    exec (.backwardCount k) s = .next ((s.countedBack k).afterBackward k) := if_pos enabled

theorem forwardCount_clearing {d : Nat} (inside : k < 2) (here : (s.shaft k).state = .clearing)
    (left : (s.shaft k).remaining = some d) (t : State) (result : t = (s.counted k).afterForward k) :
    ChangesOnly [.shafts, .net] s t ∧
    (t.shaft k).pos = (if (s.shaft k).posValid then ((s.shaft k).pos + 1) % (s.geometry k).L else (s.shaft k).pos) ∧
    (t.shaft k).windowCount = (s.shaft k).windowCount + 1 ∧ (t.shaft k).standstill = 0 ∧
    (if d - 1 ≤ (s.geometry k).sc then
      (t.shaft k).state = .stopping ∧ (t.shaft k).permit = false ∧ (t.shaft k).creep = false ∧
        (t.shaft k).brake = true ∧ (t.shaft k).remaining = none
    else (t.shaft k).state = .clearing ∧ (t.shaft k).remaining = some (d - 1) ∧ t.net = s.net) ∧
    ∀ j, j ≠ k → t.shaft j = s.shaft j := by
  have shaft := State.shaft_counted (s := s) inside
  have alone := fun j (other : j ≠ k) => s.shaft_modShaft_other k other fun x => x.countForward (s.geometry k).L
  rw [State.afterForward_of_clearing _ k (by rw [shaft]; exact here), State.counted_geometry, shaft] at result
  have left' : ((s.shaft k).countForward (s.geometry k).L).remaining.getD 0 = d := by
    rw [Shaft.countForward, left]; rfl
  rw [left'] at result
  by_cases near : d - 1 ≤ (s.geometry k).sc
  · rw [if_pos near] at result ⊢
    subst result
    obtain ⟨l, stopped⟩ := State.shaft_of_modify inside ((s.counted k).cores_enterStopping k)
    rw [stopped, shaft]
    refine ⟨((s.counted_changes k).mono (by decide)).trans (State.enterStopping_blank (by decide) (by decide) _ k),
      rfl, rfl, rfl, ⟨rfl, rfl, rfl, rfl, rfl⟩, fun j other => ?_⟩
    rw [State.shaft_enterStopping_other _ _ other]
    exact alone j other
  · rw [if_neg near] at result ⊢
    subst result
    have moved : ((s.counted k).modShaft k fun x => { x with remaining := some (d - 1) }).shaft k =
        { (s.shaft k).countForward (s.geometry k).L with remaining := some (d - 1) } := by
      rw [State.shaft_modShaft, if_pos ⟨rfl, inside⟩, shaft]
    rw [moved]
    refine ⟨((s.counted_changes k).mono (by decide)).trans (State.modShaft_blank (by decide) _ k _), rfl, rfl, rfl,
      ⟨here, rfl, rfl⟩, fun j other => ?_⟩
    rw [State.shaft_modShaft_other _ _ other]
    exact alone j other

theorem State.completeLastRun_spec (inside : k < 2) : (((s.completeLastRun k).shaft k).park.isSome = true ∧
    ((s.completeLastRun k).shaft k).advance = none ∧ ((s.completeLastRun k).shaft k).reapproach = 0 ∧
    ((s.completeLastRun k).shaft k).clearSet = s.sills k ∧ ((s.completeLastRun k).shaft k).Clears) := by
  obtain ⟨l, done⟩ := State.shaft_of_modify inside (s.cores_completeLastRun k inside)
  obtain ⟨park, advance, reapproach, set, -, clears⟩ := Shaft.startClearStop_spec
    { (s.shaft k).core with park := some ((s.shaft k).core.park.getD .day), clearSet := s.sills k } (s.geometry k) s.day.overdue
  rw [done]
  exact ⟨congrArg Option.isSome park, advance, reapproach, set, clears⟩

end

/-- Settles O6, by the state of the shaft: only CLEARING and LAST_RUN act on a count. -/
theorem forwardCountsMoveTheChain : Obligations.ForwardCountsMoveTheChain := by
  refine ⟨fun k s inside enabled quiet => ?_, fun k d s inside enabled here left => ?_, fun k n s inside enabled here run => ?_⟩
  · rw [exec_forwardCount_eq enabled, State.afterForward_of_quiet _ k]
    · rfl
    · rw [State.shaft_counted inside]; exact quiet
  · exact ⟨_, exec_forwardCount_eq enabled, forwardCount_clearing inside here left _ rfl⟩
  · have shaft := State.shaft_counted (s := s) inside
    have run' : (((s.shaft k).countForward (s.geometry k).L).advance.getD 0) = n := by rw [Shaft.countForward, run]; rfl
    refine ⟨_, exec_forwardCount_eq enabled, ((s.counted_changes k).mono (by decide)).trans
      (State.afterForward_blank (by decide) (by decide) (by decide) _ k), ?_⟩
    rw [State.afterForward_of_lastRun _ k (by rw [shaft]; exact here), State.counted_geometry, shaft, run']
    split
    · next part => rw [if_neg (Nat.not_le.2 part), State.counted, State.modShaft_modShaft]; rfl
    · next full =>
      rw [if_pos (Nat.not_lt.1 full)]
      exact State.completeLastRun_spec inside

end Sys2Proof.Machine
end

section
/-! Backward counts, the home mark and the drive inputs (R21, R22, R25, R30, R31): O7, O8 and O10. -/

namespace Sys2Proof.Machine

namespace Shaft

theorem trips_eq {x : Shaft} {enabled : Bool} (c : TripCause) (on : enabled = true) (untripped : x.state ≠ .tripped) :
    x.trips enabled c = x.tripFor c := if_neg (by simp [on, untripped])

/-- A backward count latches REVERSE in every moving or braked state but IDLE (R21). -/
theorem afterBackward_latches {x : Shaft} {g : Geometry} (enabled : g.enabled = true)
    (moving : x.state ∈ [ShaftState.homing, .running, .lastRun, .clearing, .stopping, .held]) :
    ∃ o, x.afterBackward g = { x with outcome := o }.tripFor .reverse := by
  have untripped : x.state ≠ .tripped := fun tripped => by simp [tripped] at moving
  unfold afterBackward
  split
  · next idle => simp [idle] at moving
  · exact ⟨_, trips_eq (x := x.evaluated g) _ enabled untripped⟩
  · exact ⟨x.outcome, trips_eq _ enabled untripped⟩

/-- The fifth settling count latches REVERSE (R21). -/
theorem afterBackward_fifth {x : Shaft} {g : Geometry} (enabled : g.enabled = true) (idle : x.state = .idle)
    (fifth : 4 ≤ x.settling) : x.afterBackward g = { x with settling := x.settling + 1 }.tripFor .reverse := by
  have untripped : x.state ≠ .tripped := by rw [idle]; decide
  have guard : 5 ≤ x.settling + 1 := by omega
  unfold afterBackward
  split
  · dsimp only
    rw [if_pos guard]
    exact trips_eq (x := { x with settling := x.settling + 1 }) _ enabled untripped
  · next held => simp [idle] at held
  · next moving _ => exact (moving idle).elim

end Shaft

section
variable {s t : State} {k : Nat} (inside : k < 2)

/-! ### Backward counts: O7 -/

theorem State.afterBackward_of_tripped (tripped : (s.shaft k).state = .tripped) : s.afterBackward k = s := by
  simp only [State.afterBackward, tripped]
  exact s.tripShaft_of_tripped k tripped

theorem State.afterBackward_settles (idle : (s.shaft k).state = .idle) (early : (s.shaft k).settling < 4) :
    s.afterBackward k = s.modShaft k fun x => { x with settling := x.settling + 1 } := by
  have guard : ¬ 5 ≤ (s.shaft k).settling + 1 := by omega
  simp only [State.afterBackward, idle, guard, if_false]

theorem State.cores_backward (s : State) (k : Nat) : ((s.countedBack k).afterBackward k).cores = s.cores.modify k fun x =>
    (x.countBackward (s.geometry k).L).afterBackward (s.geometry k) := by
  rw [State.cores_afterBackward, State.cores_countedBack, Tab.modify_modify, State.countedBack_geometry]

theorem State.backward_changes (s : State) (k : Nat) :
    ChangesOnly [.shafts, .shutters, .calls, .arbiters, .day, .net, .tokens] s ((s.countedBack k).afterBackward k) :=
  ((s.countedBack_changes k).mono (by decide)).trans
    (State.afterBackward_blank (by decide) (by decide) (by decide) (by decide) (by decide) (by decide) (by decide) _ k)

end

/-- Settles O7, by the state of the shaft: IDLE settles, TRIPPED only moves P, every other state latches REVERSE. -/
theorem backwardCountsSettleOrTrip : Obligations.BackwardCountsSettleOrTrip := by
  refine ⟨fun k s inside enabled moving => ?_, fun k s inside enabled => 
    ⟨fun tripped => ?_, fun idle early => ?_, fun idle fifth => ?_⟩⟩
  · have step := s.cores_backward k
    obtain ⟨o, latches⟩ := Shaft.afterBackward_latches (x := (s.shaft k).core.countBackward (s.geometry k).L) enabled moving
    obtain ⟨l, shaft⟩ := State.shaft_of_modify inside step
    refine ⟨_, exec_backwardCount_eq enabled, ?_⟩
    rw [shaft, latches]
    exact ⟨⟨rfl, rfl, rfl, rfl, rfl, rfl, rfl⟩, rfl, rfl, rfl, rfl, fun j other => State.core_of_modify_other step other,
      s.backward_changes k⟩
  · rw [exec_backwardCount_eq enabled, State.afterBackward_of_tripped]
    · rfl
    · rw [State.shaft_countedBack inside]; exact tripped
  · rw [exec_backwardCount_eq enabled, State.afterBackward_settles, State.countedBack, State.modShaft_modShaft]
    · rfl
    · rw [State.shaft_countedBack inside]; exact idle
    · rw [State.shaft_countedBack inside]; exact early
  · have step := s.cores_backward k
    obtain ⟨l, shaft⟩ := State.shaft_of_modify inside step
    refine ⟨_, exec_backwardCount_eq enabled, ?_, fun j other => State.core_of_modify_other step other, s.backward_changes k⟩
    rw [shaft, Shaft.afterBackward_fifth (x := (s.shaft k).core.countBackward (s.geometry k).L) enabled idle fifth]
    exact ⟨rfl, rfl, rfl, rfl, rfl, rfl, rfl⟩

/-- A trip after a change of the shaft's own record that keeps its state (R30). -/
theorem State.latched_after_change {s : State} {k : Nat} (c : TripCause) (f : Shaft → Shaft) (inside : k < 2)
    (enabled : s.shaftEnabled k = true) (untripped : (f (s.shaft k)).state ≠ .tripped)
    (blind : ∀ x, (f x).core = f x.core) : ∃ l, ((s.modShaft k f).tripShaft k c).shaft k =
      { (f (s.shaft k).core).tripFor c with landings := l } ∧
      (∀ j, j ≠ k → (((s.modShaft k f).tripShaft k c).shaft j).core = (s.shaft j).core) ∧
      ChangesOnly [.shafts, .calls, .arbiters, .day, .net, .tokens] s ((s.modShaft k f).tripShaft k c) := by
  have step : ((s.modShaft k f).tripShaft k c).cores = s.cores.modify k fun x => (f x).tripFor c := by
    rw [(s.modShaft k f).cores_tripShaft k c enabled (by rw [State.shaft_modShaft, if_pos ⟨rfl, inside⟩]; exact untripped),
      s.cores_modShaft k blind, Tab.modify_modify]
  obtain ⟨l, shaft⟩ := State.shaft_of_modify inside step
  exact ⟨l, shaft, fun j other => State.core_of_modify_other step other,
    ChangesOnly.trans (State.modShaft_blank (by decide) s k _)
      (State.tripShaft_blank (by decide) (by decide) (by decide) (by decide) (by decide) (by decide) _ k _)⟩

/-! ### The home mark: O8 -/

theorem Geometry.withinSlip_iff (g : Geometry) (pos : Nat) :
    g.withinSlip pos = true ↔ min (subMod pos g.H g.L) (g.L - subMod pos g.H g.L) ≤ g.slip := by
  unfold Geometry.withinSlip
  dsimp only
  rw [decide_eq_true_iff]
  generalize subMod pos g.H g.L = d
  split <;> omega

section
variable {s : State} {k : Nat}

theorem exec_homeMark_eq (enabled : s.shaftEnabled k = true) : exec (.homeMark k) s = .next (s.homeMark k) := if_pos enabled

/-- The position set to the home mark (R22). -/
def State.homed (s : State) (k : Nat) : State := s.modShaft k fun x => { x with pos := (s.geometry k).H, posValid := true }

section
variable (near : (s.shaft k).posValid = false ∨ (s.geometry k).withinSlip (s.shaft k).pos = true)
include near

theorem State.homeMark_of_quiet (quiet : (s.shaft k).state ∈ [ShaftState.idle, .running, .lastRun, .clearing, .stopping, .tripped]) :
    s.homeMark k = s.homed k := by
  unfold State.homeMark
  dsimp only
  rw [if_neg (by rcases near with near | near <;> simp [near])]
  split
  · next here => simp [here] at quiet
  · next here => simp [here] at quiet
  · rfl

theorem State.homeMark_of_homing (homing : (s.shaft k).state = .homing) :
    s.homeMark k = ((s.homed k).modShaft k fun x => { x with homeTimer := none }).enterRunning k := by
  unfold State.homeMark
  dsimp only
  rw [if_neg (by rcases near with near | near <;> simp [near])]
  simp only [homing]
  rfl

end

theorem State.homeMark_of_far (known : (s.shaft k).posValid = true)
    (far : (s.geometry k).withinSlip (s.shaft k).pos = false) :
    s.homeMark k = (s.modShaft k fun x => { x with posValid := false }).tripShaft k .slip :=
  if_pos (by simp [known, far])

end

/-- Settles O8, by whether the position read at the mark lies within the slip tolerance. -/
theorem homeMarkSetsOrTripsSlip : Obligations.HomeMarkSetsOrTripsSlip := by
  refine fun k s inside enabled => ⟨fun quiet near => ?_, fun untripped known far => ?_, fun homing unknown early => ?_⟩
  · rw [exec_homeMark_eq enabled, State.homeMark_of_quiet (near.imp id (Geometry.withinSlip_iff _ _).2) quiet]
    rfl
  · have outside : (s.geometry k).withinSlip (s.shaft k).pos = false := by
      rw [Bool.eq_false_iff, ne_eq, Geometry.withinSlip_iff]; omega
    obtain ⟨l, tripped, others, changes⟩ := State.latched_after_change (s := s) .slip (fun x => { x with posValid := false }) inside
      enabled untripped fun _ => rfl
    refine ⟨_, exec_homeMark_eq enabled, ?_⟩
    rw [State.homeMark_of_far known outside, tripped]
    exact ⟨⟨rfl, rfl, rfl, rfl, rfl, rfl, rfl⟩, rfl, others, changes.mono (by decide)⟩
  · have step : (((s.homed k).modShaft k fun x => { x with homeTimer := none }).enterRunning k).cores = s.cores.modify k fun x =>
        { x with pos := (s.geometry k).H, posValid := true, homeTimer := none }.startRunning false (s.landingSilent k) s.day.overdue := by
      have late : decide (s.day.mode = .lastCall) = false := decide_eq_false early
      rw [State.homed, State.modShaft_modShaft, State.cores_enterRunning, State.modShaft_day, State.modShaft_landingSilent, late,
        State.cores_modShaft, Tab.modify_modify]
      exact fun _ => rfl
    obtain ⟨l, running⟩ := State.shaft_of_modify inside step
    refine ⟨_, exec_homeMark_eq enabled, ?_⟩
    rw [State.homeMark_of_homing (.inl unknown) homing, running]
    refine ⟨rfl, rfl, rfl, rfl, rfl, rfl, ?_, fun j other => State.core_of_modify_other step other,
      ChangesOnly.trans (State.modShaft_blank (by decide) s k _) (ChangesOnly.trans (State.modShaft_blank (by decide) _ k _)
        (State.enterRunning_blank (by decide) (by decide) _ k))⟩
    simp [Shaft.startRunning, Shaft.serve, Shaft.enter]

/-! ### The drive inputs and the home timer: O10 -/

/-- Settles O10, by the input: each is a change of the record, and a trip where its rule asks for one. -/
theorem driveInputsAndHomeTimerTrip : Obligations.DriveInputsAndHomeTimerTrip := by
  refine ⟨fun k s inside enabled => ⟨rfl, rfl, fun off => ?_, fun on untripped => ?_, fun untripped => ?_⟩,
    fun k e s inside enabled homing timer => ?_⟩
  · have shaft : ((s.modShaft k fun x => { x with ready := false }).shaft k).permit = false := by
      rw [State.shaft_modShaft, if_pos ⟨rfl, inside⟩]; exact off
    change (if ((s.modShaft k fun x => { x with ready := false }).shaft k).permit = true then _ else _) = _
    rw [shaft]
    rfl
  · have shaft : ((s.modShaft k fun x => { x with ready := false }).shaft k).permit = true := by
      rw [State.shaft_modShaft, if_pos ⟨rfl, inside⟩]; exact on
    obtain ⟨l, tripped, others, changes⟩ := State.latched_after_change (s := s) .drive (fun x => { x with ready := false }) inside enabled
      untripped fun _ => rfl
    refine ⟨_, if_pos shaft, ?_⟩
    rw [tripped]
    exact ⟨⟨rfl, rfl, rfl, rfl, rfl, rfl, rfl⟩, rfl, rfl, others, changes⟩
  · obtain ⟨l, tripped, others, changes⟩ := State.latched_after_change (s := s) .drive (fun x => { x with fault := true }) inside enabled
      untripped fun _ => rfl
    refine ⟨_, rfl, ?_⟩
    rw [tripped]
    exact ⟨⟨rfl, rfl, rfl, rfl, rfl, rfl, rfl⟩, rfl, rfl, rfl, rfl, others, changes⟩
  · have step := (s.reach e).cores_tripShaft k .homeTimeout enabled (by
      show (s.shaft k).state ≠ _
      rw [homing]; decide)
    obtain ⟨l, tripped⟩ := State.shaft_of_modify inside step
    have changes := State.tripShaft_blank (F := [.shafts, .calls, .arbiters, .day, .net, .tokens]) (by decide) (by decide)
      (by decide) (by decide) (by decide) (by decide) (s.reach e) k .homeTimeout
    refine ⟨(s.reach e).tripShaft k .homeTimeout, ?_, ?_⟩
    · change (match (s.shaft k).homeTimer with | none => _ | some t => _) = _
      rw [timer]
    · rw [tripped]
      exact ⟨⟨rfl, rfl, rfl, rfl, rfl, rfl, rfl⟩, rfl, ChangesOnly.now changes,
        ChangesOnly.trans (State.reach_blank (by decide) s e) (ChangesOnly.mono changes (by decide))⟩

end Sys2Proof.Machine
end

section
/-! Landing reports and lamps (R32, R33), and the orders of a shaft (R34 to R36): O13, O29 and O30. -/

namespace Sys2Proof.Machine

/-! ### The reports stored for the landings (R32) -/

/-- A step that keeps the stored reports of every landing. -/
def State.SameReports (s t : State) : Prop := ∀ k l,
  (t.landingLive k l).sillTripped = (s.landingLive k l).sillTripped ∧ (t.landingLive k l).stopPulled = (s.landingLive k l).stopPulled

section
variable {s t u : State}

theorem State.SameReports.refl (s : State) : s.SameReports s := fun _ _ => ⟨rfl, rfl⟩

theorem State.SameReports.trans (first : s.SameReports t) (second : t.SameReports u) : s.SameReports u := fun k l =>
  ⟨(second k l).1.trans (first k l).1, (second k l).2.trans (first k l).2⟩

theorem State.sameReports_of_shafts (same : t.shafts = s.shafts) : s.SameReports t := fun k l => by
  rw [State.landingLive_of_shafts same]; exact ⟨rfl, rfl⟩

theorem State.sameReports_modShaft (s : State) (k : Nat) {f : Shaft → Shaft} (blind : ∀ x, (f x).landings = x.landings) :
    s.SameReports (s.modShaft k f) := fun j l => by
  rw [State.landingLive, State.shaft_modShaft]
  split
  · rw [blind]; exact ⟨rfl, rfl⟩
  · exact ⟨rfl, rfl⟩

theorem State.sameReports_modLanding (s : State) (k l : Nat) {f : LandingLive → LandingLive}
    (blind : ∀ x, (f x).sillTripped = x.sillTripped ∧ (f x).stopPulled = x.stopPulled) : s.SameReports (s.modLanding k l f) :=
  fun j m => by
    rw [State.landingLive_modLanding]
    split
    · exact blind _
    · exact ⟨rfl, rfl⟩

theorem State.sameReports_sendLamp (s : State) (k l : Nat) : s.SameReports (s.sendLamp k l) := by
  unfold State.sendLamp
  split
  · exact .refl s
  · split
    · next i _ _ =>
      refine State.SameReports.trans ?_ (State.sameReports_of_shafts
        (ChangesOnly.shafts (F := [.net]) (State.sendTo_blank (by decide) _ i _ _ _ _)))
      exact s.sameReports_modLanding k l fun _ => ⟨rfl, rfl⟩
    · exact .refl s

theorem State.sameReports_recomputeLamps (s : State) (k : Nat) : s.SameReports (s.recomputeLamps k) := by
  unfold State.recomputeLamps
  split
  · refine State.forEach_induction (fun t => s.SameReports t) (.refl s) fun t l _ same => ?_
    unfold State.recomputeLamp
    dsimp only
    split
    · exact same
    · refine State.SameReports.trans ?_ (State.sameReports_sendLamp _ k l)
      exact same.trans (t.sameReports_modLanding k l fun _ => ⟨rfl, rfl⟩)
  · exact .refl s

theorem State.sameReports_closingCheck (s : State) : s.SameReports s.closingCheck := by
  have lamps : ∀ t : State, t.SameReports t.recomputeAllLamps := fun t =>
    (t.sameReports_recomputeLamps 0).trans (State.sameReports_recomputeLamps _ 1)
  have calls : ∀ t : State, t.closeCalls.shafts = t.shafts := fun t =>
    ChangesOnly.shafts (F := [.calls, .arbiters, .net, .tokens]) (State.closeCalls_blank (by decide) (by decide) (by decide) (by decide) t)
  unfold State.closingCheck
  split
  · unfold State.enterMode
    dsimp only
    rw [if_pos rfl]
    refine State.SameReports.trans ?_ (State.sameReports_of_shafts ((State.notify_shafts _ _).trans (calls _)))
    refine State.SameReports.trans ?_ (lamps _)
    exact State.sameReports_of_shafts rfl
  · exact .refl s

theorem State.sameReports_enterShaft (s : State) (k : Nat) (st : ShaftState) (permit creep brake : Bool) :
    s.SameReports (s.enterShaft k st permit creep brake) := by
  have degraded : ∀ (t : State) (on : Bool), t.SameReports (t.setDegraded k on) := fun t on => by
    unfold State.setDegraded
    split
    · exact .refl t
    · exact (t.sameReports_modShaft k fun _ => by rfl).trans (State.sameReports_of_shafts (State.notify_shafts _ _))
  have entered := s.sameReports_modShaft k (f := fun x => { x with
    state := st, permit := permit, creep := creep, brake := brake
    heldReason := if st = .held then x.heldReason else none }) fun _ => rfl
  unfold State.enterShaft
  dsimp only
  refine State.SameReports.trans ?_ (State.sameReports_recomputeLamps _ k)
  split
  · exact entered
  · exact entered.trans (degraded _ _)

theorem State.sameReports_tripShaft (s : State) (k : Nat) (c : TripCause) : s.SameReports (s.tripShaft k c) := by
  unfold State.tripShaft
  dsimp only
  split
  · exact .refl s
  · refine State.SameReports.trans ?_ (State.sameReports_closingCheck _)
    refine State.SameReports.trans ?_ (State.sameReports_of_shafts (State.notify_shafts _ _))
    refine State.SameReports.trans ?_ (State.sameReports_enterShaft _ k _ _ _ _)
    exact s.sameReports_modShaft k fun _ => rfl

/-! ### LANDING and LAMP_REFRESH: O13 -/

/-- The trip that a report asks for, the stop before the sill (R32). -/
def landingTrip (sill stop : Bool) : Option TripCause :=
  if stop then some .landingStop else if sill then some .sillTrip else none

/-- A trip, if one is asked for. -/
def State.tripMaybe (s : State) (k : Nat) : Option TripCause → State
  | some c => s.tripShaft k c
  | none => s

theorem State.landingReport_of_enabled {i k l : Nat} {sill stop : Bool} (named : s.landingOf i = some (k, l))
    (enabled : s.shaftEnabled k = true) : s.landingReport (some i) sill stop =
      (s.modLanding k l fun x => { x with sillTripped := sill, stopPulled := stop }).tripMaybe k (landingTrip sill stop) := by
  simp only [State.landingReport, Option.bind_some, named, enabled, if_true]
  cases stop <;> cases sill <;> rfl

theorem State.landingReport_of_disabled {i k l : Nat} {sill stop : Bool} (named : s.landingOf i = some (k, l))
    (disabled : s.shaftEnabled k = false) : s.landingReport (some i) sill stop = s.unmatchedLanding k := by
  simp [State.landingReport, named, disabled]

theorem State.landingReport_of_unnamed {i : Nat} {sill stop : Bool} (unnamed : s.landingOf i = none) :
    s.landingReport (some i) sill stop = s.unmatchedLanding 0 := by
  simp [State.landingReport, unnamed]

theorem exec_landing_eq {r : Received} {a b : Byte} {i : Nat} (tapped : Tapped s .landing r) (payload : r.frame.payload = [a, b])
    (sender : (s.takeHead r).findStation r.frame.src = some i) :
    exec .landing s = .next ((s.takeHead r).landingReport (some i) (decide (a ≠ 0#8)) (decide (b ≠ 0#8))) := by
  have job : exec .landing s = .next (s.onFrame .landing State.landingFrame) := rfl
  rw [job, State.onFrame_tapped tapped, State.landingFrame, payload, State.sender, sender]

/-- What a report's trip leaves: the reports, the other shaft, and this one where no trip is due (R30, R32). -/
theorem State.tripMaybe_spec {k : Nat} (s : State) (due : Option TripCause) : s.SameReports (s.tripMaybe k due) ∧
    (s.tripMaybe k due).cores = s.cores.modify k (fun x => due.elim x fun c => x.trips (s.shaftEnabled k) c) ∧
    ChangesOnly [.shafts, .calls, .arbiters, .day, .net, .tokens] s (s.tripMaybe k due) := by
  cases due with
  | none => exact ⟨.refl s, (s.cores_modify_self k rfl).symm, .refl s⟩
  | some c => exact ⟨s.sameReports_tripShaft k c, s.cores_trips k c,
      State.tripShaft_blank (by decide) (by decide) (by decide) (by decide) (by decide) (by decide) s k c⟩

/-- A landing report of an enabled shaft's landing station (R30, R32). -/
theorem State.landingReport_spec {i k l : Nat} {sill stop : Bool} (named : s.landingOf i = some (k, l)) (inside : k < 2) (landing : l < 12)
    (enabled : s.shaftEnabled k = true) (result : t = s.landingReport (some i) sill stop) :
    (t.landingLive k l).sillTripped = sill ∧ (t.landingLive k l).stopPulled = stop ∧
    (∀ c, landingTrip sill stop = some c → (s.shaft k).state ≠ .tripped → (t.shaft k).latched c) ∧
    ((s.shaft k).state = .tripped ∨ landingTrip sill stop = none → (t.shaft k).core = (s.shaft k).core) ∧
    (∀ j, j ≠ k → (t.shaft j).core = (s.shaft j).core) ∧
    ChangesOnly [.shafts, .calls, .arbiters, .day, .net, .tokens] s t := by
  rw [State.landingReport_of_enabled named enabled] at result
  generalize due_eq : landingTrip sill stop = due at result ⊢
  subst result
  obtain ⟨reports, step, changes⟩ := State.tripMaybe_spec (k := k)
    (s.modLanding k l fun x => { x with sillTripped := sill, stopPulled := stop }) due
  have stored := s.landingLive_modLanding k l k l fun x => { x with sillTripped := sill, stopPulled := stop }
  rw [if_pos ⟨⟨rfl, inside⟩, rfl, landing⟩] at stored
  rw [State.modLanding_cores] at step
  have core := State.core_of_modify inside step
  refine ⟨(reports k l).1.trans (by rw [stored]), (reports k l).2.trans (by rw [stored]), fun c asked untripped => ?_, fun quiet => ?_,
    fun j other => State.core_of_modify_other step other, (ChangesOnly.trans (State.modLanding_blank (by decide) s k l _) changes)⟩
  · obtain ⟨l, shaft⟩ := State.shaft_of_modify inside step
    rw [shaft, asked]
    change ({ Shaft.trips (s.shaft k).core (s.shaftEnabled k) c with landings := l }).latched c
    rw [Shaft.trips_eq (x := (s.shaft k).core) c enabled untripped]
    exact ⟨rfl, rfl, rfl, rfl, rfl, rfl, rfl⟩
  · rw [core]
    cases due with
    | none => rfl
    | some c =>
      rcases quiet with tripped | never
      · exact if_pos (.inr tripped)
      · exact nomatch never

theorem State.modLanding_modLanding (s : State) (k l : Nat) (f g : LandingLive → LandingLive) :
    (s.modLanding k l f).modLanding k l g = s.modLanding k l fun x => g (f x) := by
  unfold State.modLanding
  rw [State.modShaft_modShaft]
  simp only [Tab.modify_modify]

/-- The lamp sent when its refresh is due (R33). -/
theorem State.sendLamp_of_due {k l i : Nat} {c : StationCfg} (inside : k < 2) (landing : l < 12) (named : s.landingStation k l = some i)
    (found : s.station i = some c) (present : (s.stationLive i).presence = .present) :
    (s.modLanding k l fun x => { x with refresh := none }).sendLamp k l =
      (s.modLanding k l fun x => { x with refresh := some (s.now + 5000000) }).offer c.homePort .safety
        { dest := c.address, src := s.globals.own, kind := 0x19#8, payload := .raw (s.landingLive k l).lamp.payload } := by
  have here : s.isPresent i = true := by rw [State.isPresent_of_station found, present]; rfl
  have named' : (s.modLanding k l fun x => { x with refresh := none }).landingStation k l = some i := named
  have here' : (s.modLanding k l fun x => { x with refresh := none }).isPresent i = true := here
  have lamp : ((s.modLanding k l fun x => { x with refresh := none }).landingLive k l).lamp = (s.landingLive k l).lamp := by
    rw [State.landingLive_modLanding, if_pos ⟨⟨rfl, inside⟩, rfl, landing⟩]
  have record : ∀ f, (s.modLanding k l f).station i = some c := fun _ => found
  unfold State.sendLamp
  rw [named']
  dsimp only
  rw [if_pos here', lamp, State.modLanding_modLanding, State.sendTo, record]
  rfl

theorem State.sendLamp_of_absent {k l i : Nat} {c : StationCfg} (named : s.landingStation k l = some i) (found : s.station i = some c)
    (absent : (s.stationLive i).presence ≠ .present) : s.sendLamp k l = s := by
  have gone : s.isPresent i = false := by rw [State.isPresent_of_station found]; exact decide_eq_false absent
  simp [State.sendLamp, named, gone]

theorem exec_lampRefresh_eq {k l : Nat} {e : Micros} (enabled : s.shaftEnabled k = true) (due : (s.landingLive k l).refresh = some e) :
    exec (.lampRefresh k l) s = .next (((s.reach e).modLanding k l fun x => { x with refresh := none }).sendLamp k l) := by
  have job : exec (.lampRefresh k l) s = execLampRefresh k l s := rfl
  have on : ((s.reach e).modLanding k l fun x => { x with refresh := none }).shaftEnabled k = true := enabled
  simp only [job, execLampRefresh, due, on, if_true]

end

/-- Settles O13, by the landing that the sender's station names and by the presence of the landing station. -/
theorem landingReportsAndLamps : Obligations.LandingReportsAndLamps := by
  refine ⟨fun s s₁ r a b i tapped taken payload sender => ?_, fun k l e i c s inside landing enabled due named found => ?_⟩
  · subst taken
    have reported := exec_landing_eq tapped payload sender
    refine ⟨fun k l here inside landing enabled => ?_, fun k l here disabled => ?_, fun unnamed => ?_⟩
    · obtain ⟨sill, stop, latched, kept, others, changes⟩ :=
        State.landingReport_spec (sill := decide (a ≠ 0#8)) (stop := decide (b ≠ 0#8)) here inside landing enabled rfl
      refine ⟨_, reported, sill, stop, fun pulled => latched _ ?_, fun calm tripped => latched _ ?_, fun quiet => kept ?_, others, changes⟩
      · simp [landingTrip, pulled]
      · simp [landingTrip, calm, tripped]
      · exact quiet.imp id fun ⟨calm, still⟩ => by simp [landingTrip, calm, still]
    · rw [reported, State.landingReport_of_disabled here disabled]; rfl
    · rw [reported, State.landingReport_of_unnamed unnamed]; rfl
  · refine ⟨fun present => ?_, fun absent => ?_⟩
    · have sent := State.sendLamp_of_due (s := s.reach e) inside landing named found present
      refine ⟨_, exec_lampRefresh_eq enabled due, ?_⟩
      rw [sent]
      have live : ∀ (p : Nat) (q : QueueClass) (f : TxFrame), (((s.reach e).modLanding k l fun x =>
          { x with refresh := some ((s.reach e).now + 5000000) }).offer p q f).landingLive k l =
            { s.landingLive k l with refresh := some (max s.now e + 5000000) } := fun p q f => by
        rw [State.landingLive_of_shafts (ChangesOnly.shafts (F := [.net]) (State.offer_blank (by decide) _ p q f)),
          State.landingLive_modLanding, if_pos ⟨⟨rfl, inside⟩, rfl, landing⟩]
        rfl
      refine ⟨rfl, by rw [live], by rw [live], ?_, fun j => ?_⟩
      · exact ChangesOnly.trans (State.reach_blank (by decide) s e) (ChangesOnly.trans (State.modLanding_blank (by decide) _ k l _)
          (State.offer_blank (by decide) _ _ _ _))
      · exact State.core_shaft ((State.offer_cores _ _ _ _).trans ((State.modLanding_cores _ _ _ _).trans (State.reach_cores _ _))) j
    · rw [exec_lampRefresh_eq enabled due, State.sendLamp_of_absent
        (s := (s.reach e).modLanding k l fun x => { x with refresh := none }) named found absent]

end Sys2Proof.Machine
end

section
/-! START_SHAFT, STOP_SHAFT and RESET_SHAFT (R34 to R36): O29 and O30. -/

namespace Sys2Proof.Machine

namespace Shaft

/-! ### Clear-set changes of standing and of moving shafts (R38, R39) -/

/-- A clear-set change of an IDLE or HELD shaft leaves it standing (R38, R53, R54). -/
theorem takeSet_of_standing (x : Shaft) {g : Geometry} (enabled : g.enabled = true) (standing : x.state = .idle ∨ x.state = .held)
    (overdue : Bool) (old : Shaft) (set : List Sill) : ∃ o h, x.takeSet g overdue old set =
      { x with clearSet := set, outcome := o, heldReason := h } := by
  unfold takeSet
  split
  · exact ⟨x.outcome, x.heldReason, rfl⟩
  · have on : ¬ g.enabled = false := by simp [enabled]
    unfold actOnSet
    rw [if_neg on]
    rcases standing with idle | held
    · simp only [idle]
      exact ⟨_, x.heldReason, by unfold evaluated; rw [← idle]⟩
    · simp only [held]
      exact ⟨_, _, by unfold heldSetChange evaluated; rw [← held]⟩

theorem withdrawPark_of_standing (x : Shaft) {g : Geometry} (enabled : g.enabled = true) (standing : x.state = .idle ∨ x.state = .held)
    (overdue : Bool) (set : List Sill) : ∃ c o h, x.withdrawPark g overdue set =
      { x with park := none, clearSet := c, outcome := o, heldReason := h } := by
  unfold withdrawPark
  split
  · next none => exact ⟨x.clearSet, x.outcome, x.heldReason, by rw [← none]⟩
  · obtain ⟨o, h, same⟩ := takeSet_of_standing { x with park := none } enabled standing overdue x set
    exact ⟨set, o, h, same⟩

/-- A clear-set change of a STOPPING or TRIPPED shaft leaves its state (R38, R55). -/
theorem takeSet_keeps_state (x : Shaft) {g : Geometry} (enabled : g.enabled = true)
    (quiet : x.state = .idle ∨ x.state = .stopping ∨ x.state = .tripped)
    (overdue : Bool) (old : Shaft) (set : List Sill) :
    (x.takeSet g overdue old set).state = x.state ∧ (x.takeSet g overdue old set).park = x.park := by
  have on : ¬ g.enabled = false := by simp [enabled]
  unfold takeSet
  split
  · exact ⟨rfl, rfl⟩
  · unfold actOnSet
    rw [if_neg on]
    rcases quiet with idle | stopping | tripped
    · simp only [idle, evaluated, and_self]
    · simp only [stopping, recordReason]
      split <;> simp
    · simp only [tripped, evaluated]
      split <;> simp

/-- A clear-set change leaves the requests. -/
theorem replan_park (x : Shaft) (g : Geometry) : (x.replan g).park = x.park := by
  unfold replan
  split
  · split <;> rfl
  · rfl

theorem actOnSet_park (x : Shaft) (g : Geometry) (overdue : Bool) : (x.actOnSet g overdue).park = x.park := by
  unfold actOnSet
  split
  · rfl
  · split
    · split
      · rfl
      · exact (startClearStop_spec x g overdue).1
    · split
      · rfl
      · exact (startClearStop_spec x g overdue).1
    · rw [replan_park]
      split <;> rfl
    · split <;> rfl
    · split <;> rfl
    · rfl
    · rfl
    · split <;> rfl

theorem takeSet_park (x : Shaft) (g : Geometry) (overdue : Bool) (old : Shaft) (set : List Sill) :
    (x.takeSet g overdue old set).park = x.park := by
  unfold takeSet
  split
  · rfl
  · exact actOnSet_park _ g overdue

/-! ### STOP_SHAFT (R35) -/

theorem originChanged_keeps (x : Shaft) : x.originChanged.state = x.state ∧ x.originChanged.park = x.park := by
  unfold originChanged
  split <;> exact ⟨rfl, rfl⟩

theorem requestPark_order_park (x : Shaft) (g : Geometry) (overdue : Bool) (sills : List Sill) :
    (x.requestPark g overdue sills .order).park = some .order := by
  unfold requestPark
  split
  · exact takeSet_park _ g overdue x sills
  · exact (originChanged_keeps _).2
  · next asked _ o here same =>
    rw [here]
    cases o
    · exact (same rfl rfl).elim
    · rfl

theorem requestPark_keeps_state (x : Shaft) {g : Geometry} (enabled : g.enabled = true)
    (quiet : x.state = .idle ∨ x.state = .stopping ∨ x.state = .tripped) (overdue : Bool) (sills : List Sill) (o : ParkOrigin) :
    (x.requestPark g overdue sills o).state = x.state := by
  unfold requestPark
  split
  · exact (takeSet_keeps_state { x with park := some _ } enabled quiet overdue x sills).1
  · exact (originChanged_keeps _).1
  · rfl

/-- A first PARK request with sills in use is a clear-set change (R38). -/
theorem requestPark_first {x : Shaft} {g : Geometry} (none : x.park = none) (overdue : Bool)
    (sills : List Sill) (o : ParkOrigin) :
    x.requestPark g overdue sills o = { x with park := some o, clearSet := sills }.actOnSet g overdue := by
  simp only [requestPark, none, takeSet]
  rw [if_neg]
  simp

theorem actOnSet_of_service {x : Shaft} {g : Geometry} (enabled : g.enabled = true) (service : x.state = .running ∨ x.state = .lastRun)
    (some : x.clearSet ≠ []) (overdue : Bool) : x.actOnSet g overdue = x.startClearStop g overdue := by
  unfold actOnSet
  rw [if_neg (by simp [enabled])]
  rcases service with here | here
  · simp only [here, some, if_false]
  · simp only [here, some, if_false]

theorem actOnSet_of_homing {x : Shaft} {g : Geometry} (enabled : g.enabled = true) (homing : x.state = .homing)
    (some : x.clearSet ≠ []) (overdue : Bool) : x.actOnSet g overdue = x.homingStop := by
  unfold actOnSet
  rw [if_neg (by simp [enabled])]
  simp only [homing, some, if_false]

end Shaft

section
variable {s s₁ : State} {k : Nat} {r : Received}

theorem exec_startShaft_eq (accepted : Accepted s .order (some k) r) : exec (.startShaft k) s =
    .next (answer r.ticket ((s.takeHead r).orderStart k)) := by
  have job : exec (.startShaft k) s = .next (s.onRequest .order (some k) fun s t => answer t (s.orderStart k)) := rfl
  rw [job, State.onRequest_accepted (by decide) accepted]

theorem exec_stopShaft_eq (accepted : Accepted s .order (some k) r) : exec (.stopShaft k) s =
    .next (answer r.ticket ((s.takeHead r).orderStop k)) := by
  have job : exec (.stopShaft k) s = .next (s.onRequest .order (some k) fun s t => answer t (s.orderStop k)) := rfl
  rw [job, State.onRequest_accepted (by decide) accepted]

theorem exec_resetShaft_eq (accepted : Accepted s .order (some k) r) : exec (.resetShaft k) s =
    .next (answer r.ticket ((s.takeHead r).orderReset k)) := by
  have job : exec (.resetShaft k) s = .next (s.onRequest .order (some k) fun s t => answer t (s.orderReset k)) := rfl
  rw [job, State.onRequest_accepted (by decide) accepted]

/-! ### START_SHAFT: O29 -/

theorem State.startShutters_iff (s : State) (k : Nat) : s.startShutters k = true ↔
    ∀ i ∈ s.shaftShutters k, (s.shutterLive i).state ∈ [ShutterState.open, .isolated] := by
  unfold State.startShutters
  rw [List.all_eq_true]
  refine forall₂_congr fun i _ => ?_
  cases (s.shutterLive i).state <;> simp

theorem State.startBarred_iff (s : State) (k : Nat) : s.startBarred k = true ↔ s.day.mode = .closed ∨ (s.shaft k).ready = false ∨
    (s.shaft k).fault = true ∨ (s.shaft k).zoneFlags ≠ 0#16 ∨
    (∃ i ∈ s.shaftShutters k, (s.shutterLive i).state ∉ [ShutterState.open, .isolated]) ∨
    (∃ l ∈ s.landings k, (s.landingLive k l).stopPulled = true ∨ s.overlayOf (s.landingZone k l) = true) := by
  have shutters : s.startShutters k = false ↔
      ∃ i ∈ s.shaftShutters k, (s.shutterLive i).state ∉ [ShutterState.open, .isolated] := by
    rw [← Bool.not_eq_true, State.startShutters_iff]; simp
  have landings : (∃ l ∈ s.landings k, (s.landingLive k l).stopPulled = true ∨ s.overlayOf (s.landingZone k l) = true) ↔
      (∃ l ∈ s.landings k, (s.landingLive k l).stopPulled = true) ∨ ∃ l ∈ s.landings k, s.overlayOf (s.landingZone k l) = true := by
    simp only [and_or_left, exists_or]
  rw [← shutters, landings]
  unfold State.startBarred
  simp only [Bool.or_eq_true, decide_eq_true_eq, Bool.not_eq_true', List.any_eq_true, or_assoc, or_left_comm, or_comm]

/-- START_SHAFT refused, for a condition that stands against it (R34). -/
theorem State.orderStart_refused (inside : k < 2) (against : s.shaftEnabled k = false ∨
    (s.shaft k).state ∉ [ShaftState.idle, .held] ∨ s.startBarred k = true) : s.orderStart k = (s, .refusedState, .none) := by
  unfold State.orderStart
  rw [if_neg (Nat.not_le.2 inside)]
  split
  · rfl
  · next enabled =>
    dsimp only
    rw [if_neg]
    rintro ⟨standing, free⟩
    rcases against with off | moving | barred
    · exact enabled off
    · exact moving (by simpa using standing)
    · rw [free] at barred; exact Bool.false_ne_true barred

/-- The part of START_SHAFT before the shaft enters a state (R34). -/
def State.readied (s : State) (k : Nat) : State := (s.withdrawPark k).modShaft k fun x => { x with reapproach := 0 }

theorem State.orderStart_taken (inside : k < 2) (enabled : s.shaftEnabled k = true)
    (standing : (s.shaft k).state ∈ [ShaftState.idle, .held]) (free : s.startBarred k = false) : s.orderStart k =
      (if (s.shaft k).posValid then (s.readied k).enterRunning k else (s.readied k).enterHoming k, .done, .none) := by
  have standing' : (s.shaft k).state = .idle ∨ (s.shaft k).state = .held := by simpa using standing
  unfold State.orderStart
  rw [if_neg (Nat.not_le.2 inside), if_neg (by simp [enabled])]
  dsimp only
  rw [if_pos ⟨standing', free⟩]
  rfl

theorem State.readied_changes (s : State) (k : Nat) : ChangesOnly [.shafts, .shutters, .net] s (s.readied k) :=
  ChangesOnly.trans (State.withdrawPark_blank (by decide) (by decide) (by decide) s k) (State.modShaft_blank (by decide) _ k _)

theorem State.core_readied (inside : k < 2) (enabled : s.shaftEnabled k = true)
    (standing : (s.shaft k).state ∈ [ShaftState.idle, .held]) : ∃ c o h,
      (s.readied k).cores = s.cores.modify k fun x =>
        { x with park := none, clearSet := c, outcome := o, heldReason := h, reapproach := 0 } := by
  have standing' : (s.shaft k).core.state = .idle ∨ (s.shaft k).core.state = .held := by
    have same : (s.shaft k).core.state = (s.shaft k).state := rfl
    rw [same]; simpa using standing
  obtain ⟨c, o, h, same⟩ := Shaft.withdrawPark_of_standing (s.shaft k).core enabled standing' s.day.overdue
    (s.setFor k (s.shaft k).zoneFlags none)
  refine ⟨c, o, h, ?_⟩
  unfold State.readied
  rw [State.cores_modShaft, s.cores_withdrawPark k inside, Tab.modify_modify]
  · exact s.cores_modify_congr k (by rw [same])
  · exact fun _ => rfl

/-- Passenger service entered while no close is overdue (R26, R27). -/
theorem Shaft.startRunning_inTime (x : Shaft) (lastCall silent : Bool) : ∃ a b, x.startRunning lastCall silent false =
    { x with
      state := if lastCall then .lastRun else .running
      permit := true, creep := silent, brake := false, degraded := silent, heldReason := none, advance := a, bar := b } := by
  cases lastCall
  · exact ⟨none, false, by simp [Shaft.startRunning, Shaft.serve, Shaft.enter]⟩
  · exact ⟨some 0, x.bar, by simp [Shaft.startRunning, Shaft.startLastRun, Shaft.serve, Shaft.enter, Shaft.overdueStop]⟩

/-- What START_SHAFT makes of a shaft that nothing stands against (R25, R26, R34). -/
theorem State.start_spec (s : State) {k : Nat} (inside : k < 2) (enabled : s.shaftEnabled k = true)
    (standing : (s.shaft k).state ∈ [ShaftState.idle, .held]) (inTime : s.day.overdue = false) {t : State}
    (result : t = if (s.shaft k).posValid then (s.readied k).enterRunning k else (s.readied k).enterHoming k) :
    ChangesOnly [.shafts, .shutters, .net] s t ∧
    (t.shaft k).park = none ∧ (t.shaft k).reapproach = 0 ∧ (t.shaft k).permit = true ∧ (t.shaft k).brake = false ∧
    (t.shaft k).pos = (s.shaft k).pos ∧ (t.shaft k).posValid = (s.shaft k).posValid ∧
    ((s.shaft k).posValid = false → (t.shaft k).state = .homing ∧ (t.shaft k).creep = true ∧
      (t.shaft k).homeTimer =
        some (s.now + 1000000 * ((5 * (s.geometry k).L + 4 * (s.geometry k).Vc - 1) / (4 * (s.geometry k).Vc)))) ∧
    ((s.shaft k).posValid = true → (t.shaft k).creep = (t.shaft k).degraded ∧
      (t.shaft k).state = if s.day.mode = .lastCall then .lastRun else .running) ∧
    ∀ j, j ≠ k → (t.shaft j).core = (s.shaft j).core := by
  obtain ⟨c, o, h, ready⟩ := State.core_readied inside enabled standing
  have frame := s.readied_changes k
  have overdue : (s.readied k).day.overdue = false := by rw [frame.day]; exact inTime
  generalize s.readied k = u at *
  cases known : (s.shaft k).posValid
  · obtain ⟨timer, due, step⟩ := u.cores_enterHoming k inside
    rw [overdue, ready, Tab.modify_modify] at step
    rw [known, if_neg Bool.false_ne_true] at result
    rw [← result] at step
    obtain ⟨l, homing⟩ := State.shaft_of_modify inside step
    rw [State.geometry_of_changes frame k, State.after, frame.now, sec, Nat.mul_comm] at due
    have changes : ChangesOnly [.shafts, .shutters, .net] u t := by
      rw [result]; exact State.enterHoming_blank (by decide) (by decide) (by decide) u k
    rw [homing]
    exact ⟨frame.trans changes, rfl, rfl, rfl, rfl, rfl, known, fun _ => ⟨rfl, rfl, due⟩, fun valid => absurd valid Bool.false_ne_true,
      fun j other => State.core_of_modify_other step other⟩
  · have step := u.cores_enterRunning k
    rw [overdue, frame.day, ready, Tab.modify_modify] at step
    rw [known, if_pos rfl] at result
    rw [← result] at step
    obtain ⟨l, running⟩ := State.shaft_of_modify inside step
    obtain ⟨a, b, served⟩ := Shaft.startRunning_inTime
      { (s.shaft k).core with park := none, clearSet := c, outcome := o, heldReason := h, reapproach := 0 }
      (decide (s.day.mode = .lastCall)) (u.landingSilent k)
    have changes : ChangesOnly [.shafts, .shutters, .net] u t := by
      rw [result]; exact State.enterRunning_blank (by decide) (by decide) u k
    rw [running, served]
    refine ⟨frame.trans changes, rfl, rfl, rfl, rfl, rfl, known, fun lost => absurd lost.symm Bool.false_ne_true,
      fun _ => ⟨rfl, ?_⟩, fun j other => State.core_of_modify_other step other⟩
    by_cases last : s.day.mode = .lastCall <;> simp [last]

end

/-- Settles O29, by the conditions of R34's list and by whether the position is VALID. -/
theorem startShaftEntersService : Obligations.StartShaftEntersService := by
  intro k s s₁ r accepted taken
  have job := exec_startShaft_eq accepted
  have now : s₁.now = s.now := by rw [taken]; exact (s.takeHead_changes r).now
  rw [← taken] at job
  rw [job]
  clear taken job
  refine ⟨fun outside => ?_, fun inside against => ?_, fun inside enabled standing free inTime => ?_⟩
  · rw [State.orderStart, if_pos outside]; rfl
  · rw [State.orderStart_refused inside]
    · rfl
    · rw [State.startBarred_iff]
      rcases against with off | moving | barred
      · exact .inl off
      · exact .inr (.inl moving)
      · exact .inr (.inr barred)
  · rw [State.orderStart_taken inside enabled standing free, ← now]
    exact ⟨_, rfl, s₁.start_spec inside enabled standing inTime rfl⟩

/-! ### STOP_SHAFT and RESET_SHAFT: O30 -/

section
variable {s : State} {k : Nat}

theorem State.orderStop_of_enabled (inside : k < 2) (enabled : s.shaftEnabled k = true) :
    s.orderStop k = (s.requestPark k .order, .done, .none) := by
  simp [State.orderStop, Nat.not_le.2 inside, enabled]

/-- What STOP_SHAFT makes of an enabled shaft (R35, R38, R46, R51). -/
theorem State.stop_spec (s : State) {k : Nat} (inside : k < 2) (enabled : s.shaftEnabled k = true) {t : State}
    (result : t = s.requestPark k .order) :
    (t.shaft k).park = some .order ∧
    ((s.shaft k).park = none → s.sills k ≠ [] →
      ((s.shaft k).state ∈ [ShaftState.running, .lastRun] → (t.shaft k).clearSet = s.sills k ∧
        (t.shaft k).reapproach = 0 ∧ (t.shaft k).advance = none ∧
        (t.shaft k).clearStops = bump (s.shaft k).clearStops ∧ (t.shaft k).state ∈ [ShaftState.clearing, .stopping]) ∧
      ((s.shaft k).state = .homing → (t.shaft k).state = .stopping ∧ (t.shaft k).outcome = some .unclear ∧
        (t.shaft k).homeTimer = none ∧ (t.shaft k).permit = false ∧ (t.shaft k).brake = true)) ∧
    ((s.shaft k).state ∈ [ShaftState.idle, .stopping, .tripped] → (t.shaft k).state = (s.shaft k).state) := by
  have step := s.cores_requestPark k inside .order
  rw [← result] at step
  obtain ⟨l, shaft⟩ := State.shaft_of_modify inside step
  have on : (s.geometry k).enabled = true := enabled
  have state : (s.shaft k).core.state = (s.shaft k).state := rfl
  rw [shaft]
  refine ⟨Shaft.requestPark_order_park _ _ _ _, fun none some => ?_, fun quiet => ?_⟩
  · have first := Shaft.requestPark_first (x := (s.shaft k).core) (g := s.geometry k) none s.day.overdue (s.sills k) .order
    refine ⟨fun service => ?_, fun homing => ?_⟩
    · have served : (s.shaft k).core.state = .running ∨ (s.shaft k).core.state = .lastRun := by rw [state]; simpa using service
      rw [Shaft.actOnSet_of_service (x := { (s.shaft k).core with park := Option.some .order, clearSet := s.sills k }) on served
        some] at first
      obtain ⟨-, advance, reapproach, set, stops, clears⟩ := Shaft.startClearStop_spec
        { (s.shaft k).core with park := Option.some .order, clearSet := s.sills k } (s.geometry k) s.day.overdue
      rw [first]
      refine ⟨set, reapproach, advance, stops, ?_⟩
      rcases clears with ⟨clearing, -⟩ | ⟨stopping, -⟩
      · exact List.mem_cons.2 (.inl clearing)
      · exact List.mem_cons_of_mem _ (List.mem_singleton.2 stopping)
    · rw [Shaft.actOnSet_of_homing (x := { (s.shaft k).core with park := Option.some .order, clearSet := s.sills k }) on homing some] at first
      rw [first]
      exact ⟨rfl, rfl, rfl, rfl, rfl⟩
  · exact Shaft.requestPark_keeps_state _ on (by rw [state]; simpa using quiet) _ _ _

theorem State.orderReset_refused (inside : k < 2) (against : s.shaftEnabled k = false ∨ (s.shaft k).state ≠ .tripped) :
    s.orderReset k = (s, .refusedState, .none) := by
  unfold State.orderReset
  rw [if_neg (Nat.not_le.2 inside)]
  split
  · rfl
  · next enabled => rw [if_pos (against.resolve_left enabled)]

/-- RESET_SHAFT of a TRIPPED shaft names the part of its condition that fails (R36). -/
theorem State.orderReset_of_failed (inside : k < 2) (enabled : s.shaftEnabled k = true) (tripped : (s.shaft k).state = .tripped)
    {p : ClearedPart} (failed : s.notCleared k = some p) : s.orderReset k = (s, .refusedState, .failedPart p) := by
  simp [State.orderReset, Nat.not_le.2 inside, enabled, tripped, failed]

/-- A TRIPPED shaft freed by RESET_SHAFT, before its standing evaluation (R36). -/
def State.freed (s : State) (k : Nat) : State := (s.enterIdle k).modShaft k fun x => { x with reapproach := 0 }

/-- RESET_SHAFT of a TRIPPED shaft that is cleared of its causes and standing (R36, R54). -/
theorem State.orderReset_of_cleared (inside : k < 2) (enabled : s.shaftEnabled k = true) (tripped : (s.shaft k).state = .tripped)
    (cleared : s.notCleared k = none) : s.orderReset k =
      ((if ((s.freed k).shaft k).clearSet = [] then s.freed k else (s.freed k).evaluateAndDeliver k).closingCheck, .done, .none) := by
  simp only [State.orderReset, Nat.not_le.2 inside, enabled, tripped, cleared, if_false, Bool.true_eq_false, ne_eq, not_true, State.freed]
  rfl

theorem State.notCleared_drive (failed : (s.shaft k).ready = false ∨ (s.shaft k).fault = true) : s.notCleared k = some .drive := by
  rcases failed with failed | failed <;> simp [State.notCleared, failed]

section
variable (ready : (s.shaft k).ready = true) (sound : (s.shaft k).fault = false)
include ready sound

theorem State.notCleared_landings
    (failed : ∃ l ∈ s.landings k, (s.landingLive k l).stopPulled = true ∨ (s.landingLive k l).sillTripped = true) :
    s.notCleared k = some .landings := by
  have any : ((s.landings k).any fun l => (s.landingLive k l).stopPulled || (s.landingLive k l).sillTripped) = true := by
    simpa using failed
  simp [State.notCleared, ready, sound, any]

theorem State.notCleared_of_clear_landings
    (clear : ∀ l ∈ s.landings k, (s.landingLive k l).stopPulled = false ∧ (s.landingLive k l).sillTripped = false) :
    s.notCleared k = if (s.shaft k).standstill ≠ 3 then some .standstill else none := by
  have any : ((s.landings k).any fun l => (s.landingLive k l).stopPulled || (s.landingLive k l).sillTripped) = false := by
    simpa using clear
  simp [State.notCleared, ready, sound, any]

end

/-- What RESET_SHAFT makes of a TRIPPED shaft without requests whose causes are gone (R24, R36). -/
theorem State.reset_spec (s : State) {k : Nat} (inside : k < 2) (calm : s.day.closePending = false)
    (empty : (s.shaft k).clearSet = []) {t : State}
    (result : t = (if ((s.freed k).shaft k).clearSet = [] then s.freed k else (s.freed k).evaluateAndDeliver k).closingCheck) :
    ChangesOnly [.shafts, .net] s t ∧
    (t.shaft k).core = { (s.shaft k).core with
      state := .idle, trip := none, settling := 0, reapproach := 0, permit := false, creep := false, brake := true
      degraded := false, heldReason := none } ∧
    ∀ j, j ≠ k → (t.shaft j).core = (s.shaft j).core := by
  have step : (s.freed k).cores = s.cores.modify k fun x => { x.standIdle with reapproach := 0 } := by
    unfold State.freed
    rw [State.cores_modShaft, State.cores_enterIdle, Tab.modify_modify]
    exact fun _ => rfl
  have changes : ChangesOnly [.shafts, .net] s (s.freed k) :=
    ChangesOnly.trans (State.enterIdle_blank (by decide) (by decide) s k) (State.modShaft_blank (by decide) _ k _)
  obtain ⟨l, shaft⟩ := State.shaft_of_modify inside step
  have set : ((s.freed k).shaft k).clearSet = [] := by rw [shaft]; exact empty
  rw [if_pos set, State.closingCheck_of_not_pending (by rw [changes.day]; exact calm)] at result
  subst result
  refine ⟨changes, ?_, fun j other => State.core_of_modify_other step other⟩
  rw [State.core_of_modify inside step]
  simp [Shaft.standIdle, Shaft.enter]

end

/-- Settles O30: STOP_SHAFT by the state of the shaft, RESET_SHAFT by the first part of its condition that fails. -/
theorem stopAndResetShaft : Obligations.StopAndResetShaft := by
  refine ⟨fun k s s₁ r accepted taken => ?_, fun k s s₁ r accepted taken => ?_⟩
  · have job := exec_stopShaft_eq accepted
    rw [← taken] at job
    rw [job]
    clear taken job
    refine ⟨fun outside => ?_, fun inside enabled => ?_⟩
    · rw [State.orderStop, if_pos outside]; rfl
    · rw [State.orderStop_of_enabled inside enabled]
      exact ⟨_, rfl, State.requestPark_blank (by decide) (by decide) (by decide) s₁ k _, s₁.stop_spec inside enabled rfl⟩
  · have job := exec_resetShaft_eq accepted
    rw [← taken] at job
    rw [job]
    clear taken job
    refine ⟨fun outside => ?_, fun inside against => ?_, fun inside enabled tripped => ⟨fun failed => ?_, fun ready sound failed => ?_,
      fun ready sound clear => ⟨fun moving => ?_, fun standing calm empty => ?_⟩⟩⟩
    · rw [State.orderReset, if_pos outside]; rfl
    · rw [State.orderReset_refused inside against]; rfl
    · rw [State.orderReset_of_failed inside enabled tripped (State.notCleared_drive failed)]; rfl
    · rw [State.orderReset_of_failed inside enabled tripped (State.notCleared_landings ready sound failed)]; rfl
    · rw [State.orderReset_of_failed inside enabled tripped
        ((State.notCleared_of_clear_landings ready sound clear).trans (if_pos moving))]
      rfl
    · rw [State.orderReset_of_cleared inside enabled tripped
        ((State.notCleared_of_clear_landings ready sound clear).trans (if_neg (not_not.2 standing)))]
      exact ⟨_, rfl, s₁.reset_spec inside calm empty rfl⟩

end Sys2Proof.Machine
end

section
/-! What no operation of chapters 2 and 3 takes from a shaft: what it measures, the outputs of its state (R18), and its trip
(R30). -/

namespace Sys2Proof.Machine

namespace Shaft

/-- What a shaft measures: position, drive inputs, speed window and standstill (R15, R20 to R23, R31). -/
def gauge (x : Shaft) : (Nat × Bool × Bool × Bool) × (Nat × Bool × Timer × Nat × Nat) :=
  ((x.pos, x.posValid, x.ready, x.fault), (x.windowCount, x.windowMoved, x.windowEnd, x.speed, x.standstill))

/-- State, trip cause and outputs. -/
def status (x : Shaft) : (ShaftState × Option TripCause) × (Bool × Bool × Bool × Bool) :=
  ((x.state, x.trip), (x.permit, x.creep, x.brake, x.degraded))

/-- A change that measures nothing, gives its state the outputs of R18's table where they were right before, and leaves a
trip latched. -/
structure Steady (x y : Shaft) : Prop where
  gauge : y.gauge = x.gauge
  outputs : x.outputsOk = true → y.outputsOk = true
  latched : x.state = .tripped → y.state = .tripped ∧ y.trip = x.trip

namespace Steady

variable {x y z : Shaft}

theorem refl (x : Shaft) : Steady x x := ⟨rfl, id, fun tripped => ⟨tripped, rfl⟩⟩

theorem trans (first : Steady x y) (second : Steady y z) : Steady x z :=
  ⟨second.gauge.trans first.gauge, fun ok => second.outputs (first.outputs ok), fun tripped =>
    have ⟨still, cause⟩ := first.latched tripped
    ⟨(second.latched still).1, (second.latched still).2.trans cause⟩⟩

/-- A change of what is neither measured nor shown. -/
theorem of_status (gauge : y.gauge = x.gauge) (status : y.status = x.status) : Steady x y := by
  simp only [Shaft.status, Prod.mk.injEq] at status
  obtain ⟨⟨state, trip⟩, permit, creep, brake, degraded⟩ := status
  refine ⟨gauge, fun ok => ?_, fun tripped => ⟨state.trans tripped, trip⟩⟩
  rw [← ok, outputsOk, outputsOk, state, permit, creep, brake, degraded]

/-- The same after a change of what is neither measured nor shown. -/
theorem after (next : Steady y z) (gauge : y.gauge = x.gauge) (status : y.status = x.status) : Steady x z :=
  (of_status gauge status).trans next

/-- A state entered from another than TRIPPED, with its outputs. -/
theorem of_outputs (gauge : y.gauge = x.gauge) (outputs : y.outputsOk = true) (untripped : x.state ≠ .tripped) : Steady x y :=
  ⟨gauge, fun _ => outputs, fun tripped => absurd tripped untripped⟩

end Steady

variable (x : Shaft)

/-! ### Entries to the states -/

section
variable {x} (untripped : x.state ≠ .tripped)

theorem outputsOk_enter_braked (x : Shaft) {st : ShaftState} (braked : st = .idle ∨ st = .stopping ∨ st = .held ∨ st = .tripped) :
    (x.enter st false false true).outputsOk = true := by
  rcases braked with rfl | rfl | rfl | rfl <;> simp [enter, outputsOk]

theorem outputsOk_enter_creeping (x : Shaft) {st : ShaftState} (creeping : st = .homing ∨ st = .clearing) :
    (x.enter st true true false).outputsOk = true := by
  rcases creeping with rfl | rfl <;> simp [enter, outputsOk]

theorem outputsOk_serve (x : Shaft) {st : ShaftState} (service : st = .running ∨ st = .lastRun) (silent : Bool) :
    (x.serve st silent).outputsOk = true := by
  rcases service with rfl | rfl <;> simp [serve, enter, outputsOk]

include untripped

theorem steady_stop : Steady x x.stop := .of_outputs rfl (outputsOk_enter_braked _ (.inr (.inl rfl))) untripped

theorem steady_tripFor (c : TripCause) : Steady x (x.tripFor c) :=
  .of_outputs rfl (outputsOk_enter_braked _ (.inr (.inr (.inr rfl)))) untripped

theorem steady_hold (o : Outcome) : Steady x (x.hold o) :=
  .of_outputs rfl (outputsOk_enter_braked _ (.inr (.inr (.inl rfl)))) untripped

theorem steady_serve {st : ShaftState} (service : st = .running ∨ st = .lastRun) (silent : Bool) : Steady x (x.serve st silent) :=
  .of_outputs rfl (outputsOk_serve x service silent) untripped

theorem steady_stopUnclearable : Steady x x.stopUnclearable := (steady_stop untripped).trans (.of_status rfl rfl)

theorem steady_homingStop : Steady x x.homingStop := (steady_stop untripped).trans (.of_status rfl rfl)

end

theorem steady_trips (enabled : Bool) (c : TripCause) : Steady x (x.trips enabled c) := by
  unfold trips
  split
  · exact .refl x
  · next guard => exact steady_tripFor (not_or.1 guard).2 c

theorem steady_finalStop : Steady x x.finalStop := by
  unfold finalStop
  split
  · next here =>
    have from_ : ({ x with stopReason := if x.clearSet = [] then some .park else x.requestReason, bar := true } : Shaft).state
        ≠ .tripped := by simp [here]
    exact Steady.after (steady_stop from_) rfl rfl
  · next here =>
    have from_ : ({ x with bar := true } : Shaft).state ≠ .tripped := by simp [here]
    exact Steady.after (steady_stop from_) rfl rfl
  · exact .of_status rfl rfl
  · exact .refl x

theorem steady_overdueStop (overdue : Bool) : Steady x (x.overdueStop overdue) := by
  unfold overdueStop
  split
  · exact steady_finalStop x
  · exact .refl x

theorem steady_planWith (g : Geometry) (v : Nat) : Steady x (x.planWith g v) := .of_status rfl rfl

theorem steady_recordReason : Steady x x.recordReason := .of_status rfl rfl

theorem steady_evaluated (g : Geometry) : Steady x (x.evaluated g) := .of_status rfl rfl

theorem steady_heldSetChange (g : Geometry) : Steady x (x.heldSetChange g) := .of_status rfl rfl

theorem steady_originChanged : Steady x x.originChanged := by
  unfold originChanged
  split
  · exact .of_status rfl rfl
  · exact .refl x

/-! ### Clear stops and service -/

section
variable {x} (untripped : x.state ≠ .tripped)
include untripped

theorem steady_startClearing (g : Geometry) (overdue : Bool) (d : Nat) : Steady x (x.startClearing g overdue d) := by
  have entered : Steady x ({ x with remaining := some d, advance := none }.enter .clearing true true false) :=
    .of_outputs rfl (outputsOk_enter_creeping _ (.inr rfl)) untripped
  have left : (({ x with remaining := some d, advance := none }.enter .clearing true true false)).state ≠ .tripped := nofun
  unfold startClearing
  refine Steady.trans ?_ (steady_overdueStop _ overdue)
  split
  · exact entered.trans (steady_stop left)
  · exact entered

theorem steady_planMoving (g : Geometry) (overdue : Bool) : Steady x (x.planMoving g overdue) := by
  unfold planMoving
  split
  · exact (steady_planWith x g _).trans (steady_startClearing (x := x.planWith g x.speed) untripped g overdue _)
  · exact (steady_planWith x g _).trans (steady_stopUnclearable (x := x.planWith g x.speed) untripped)

theorem steady_startClearStop (g : Geometry) (overdue : Bool) : Steady x (x.startClearStop g overdue) :=
  Steady.after (steady_planMoving (x := recordReason { x with
    advance := none, reapproach := 0, bar := false, outcome := none, clearStops := bump x.clearStops }) untripped g overdue) rfl rfl

theorem steady_replan (g : Geometry) : Steady x (x.replan g) := by
  unfold replan
  split
  · split
    · exact (steady_planWith x g _).trans (steady_stop (x := x.planWith g x.speed) untripped)
    · exact .of_status rfl rfl
  · exact (steady_planWith x g _).trans (steady_stopUnclearable (x := x.planWith g x.speed) untripped)

theorem steady_reapproachOrHold (g : Geometry) (overdue may : Bool) : Steady x (x.reapproachOrHold g overdue may) := by
  unfold reapproachOrHold
  split
  · split
    · exact Steady.after (steady_startClearing (x := { x.planWith g 0 with
        reapproach := x.reapproach + 1, outcome := none, reapproaches := bump x.reapproaches }) untripped g overdue _) rfl rfl
    · exact Steady.after (steady_hold (x := { x.planWith g 0 with heldUnclear := bump x.heldUnclear }) untripped _) rfl rfl
  · exact Steady.after (steady_hold (x := { x.planWith g 0 with
      unclearables := bump x.unclearables, heldUnclear := bump x.heldUnclear }) untripped _) rfl rfl

theorem steady_standstillCheck (g : Geometry) (overdue may : Bool) : Steady x (x.standstillCheck g overdue may) := by
  unfold standstillCheck
  split
  · exact steady_hold untripped _
  · split
    · exact steady_reapproachOrHold untripped g overdue may
    · exact steady_hold untripped _

theorem steady_startLastRun (silent overdue : Bool) : Steady x (x.startLastRun silent overdue) := by
  have started : Steady x { x with advance := some 0 } := .of_status rfl rfl
  exact (started.trans (steady_serve (x := { x with advance := some 0 }) untripped (.inr rfl) silent)).trans (steady_overdueStop _ overdue)

theorem steady_startRunning (lastCall silent overdue : Bool) : Steady x (x.startRunning lastCall silent overdue) := by
  unfold startRunning
  split
  · exact steady_startLastRun untripped silent overdue
  · exact Steady.after (steady_serve (x := { x with bar := false, advance := none }) untripped (.inl rfl) silent) rfl rfl

theorem steady_completeLastRun (g : Geometry) (overdue : Bool) (sills : List Sill) : Steady x (x.completeLastRun g overdue sills) :=
  Steady.after (steady_startClearStop (x := { x with park := some (x.park.getD .day), clearSet := sills })
    untripped g overdue) rfl rfl

end

theorem steady_standstillEvent (g : Geometry) (overdue may : Bool) : Steady x (x.standstillEvent g overdue may) := by
  unfold standstillEvent
  split
  · next here => exact steady_standstillCheck (by simp [here]) g overdue may
  · split
    · exact .refl x
    · exact steady_evaluated x g
  · exact .of_status rfl rfl
  · exact .refl x

theorem steady_actOnSet (g : Geometry) (overdue : Bool) : Steady x (x.actOnSet g overdue) := by
  unfold actOnSet
  split
  · exact steady_evaluated x g
  · split
    · next here =>
      split
      · exact .refl x
      · exact steady_startClearStop (by simp [here]) g overdue
    · next here =>
      split
      · exact .refl x
      · exact steady_startClearStop (by simp [here]) g overdue
    · next here =>
      split
      · exact steady_replan (by simp [here]) g
      · have left : x.recordReason.state ≠ .tripped := by simp [recordReason, here]
        exact (steady_recordReason x).trans (steady_replan left g)
    · split
      · exact .refl x
      · exact steady_recordReason x
    · next here =>
      split
      · exact .refl x
      · exact steady_homingStop (by simp [here])
    · exact steady_heldSetChange x g
    · exact steady_evaluated x g
    · split
      · exact .of_status rfl rfl
      · exact .of_status rfl rfl

theorem steady_takeSet (g : Geometry) (overdue : Bool) (old : Shaft) (set : List Sill) : Steady x (x.takeSet g overdue old set) := by
  unfold takeSet
  split
  · exact .of_status rfl rfl
  · exact Steady.after (steady_actOnSet { x with clearSet := set } g overdue) rfl rfl

theorem steady_requestPark (g : Geometry) (overdue : Bool) (sills : List Sill) (o : ParkOrigin) :
    Steady x (x.requestPark g overdue sills o) := by
  unfold requestPark
  split
  · exact Steady.after (steady_takeSet { x with park := some _ } g overdue x sills) rfl rfl
  · exact Steady.after (steady_originChanged { x with park := some .order }) rfl rfl
  · exact .refl x

theorem steady_withdrawPark (g : Geometry) (overdue : Bool) (set : List Sill) : Steady x (x.withdrawPark g overdue set) := by
  unfold withdrawPark
  split
  · exact .refl x
  · exact Steady.after (steady_takeSet { x with park := none } g overdue x set) rfl rfl

theorem steady_parkHoming (g : Geometry) (overdue : Bool) (sills : List Sill) : Steady x (x.parkHoming g overdue sills) := by
  have parked := steady_requestPark x g overdue sills .day
  unfold parkHoming
  dsimp only
  split
  · next homing => exact parked.trans (steady_homingStop (by simp [homing]))
  · exact parked

theorem steady_startHoming (untripped : x.state ≠ .tripped) (g : Geometry) (overdue : Bool) (sills : List Sill) (timer : Timer) :
    Steady x (x.startHoming g overdue sills timer) := by
  have entered : Steady x ({ x with bar := false, homeTimer := timer }.enter .homing true true false) :=
    .of_outputs rfl (outputsOk_enter_creeping _ (.inl rfl)) untripped
  unfold startHoming
  dsimp only
  split
  · exact entered.trans (steady_parkHoming _ g overdue sills)
  · exact entered

theorem steady_degrade (silent : Bool) : Steady x
    (if x.state = .running ∨ x.state = .lastRun then { x with degraded := silent, creep := silent } else x) := by
  split
  · next service =>
    refine ⟨rfl, fun ok => ?_, fun tripped => by simp [tripped] at service⟩
    rcases service with here | here <;> simp [outputsOk, here] at ok ⊢ <;> exact ⟨ok.1.1, ok.2⟩
  · exact .refl x

theorem steady_afterForward (g : Geometry) (overdue : Bool) (sills : List Sill) : Steady x (x.afterForward g overdue sills) := by
  unfold afterForward
  split
  · next here =>
    dsimp only
    split
    · exact Steady.after (steady_completeLastRun (x := { x with advance := some (x.advance.getD 0 + 1) }) (by simp [here])
        g overdue sills) rfl rfl
    · exact .of_status rfl rfl
  · next here =>
    split
    · exact steady_stop (by simp [here])
    · exact .of_status rfl rfl
  · exact steady_evaluated x g
  · exact .refl x

theorem steady_afterBackward (g : Geometry) : Steady x (x.afterBackward g) := by
  unfold afterBackward
  split
  · dsimp only
    split
    · exact Steady.after (steady_trips { x with settling := x.settling + 1 } g.enabled .reverse) rfl rfl
    · exact .of_status rfl rfl
  · exact (steady_evaluated x g).trans (steady_trips _ g.enabled .reverse)
  · exact steady_trips x g.enabled .reverse

end Shaft

end Sys2Proof.Machine
end

section
/-! Outcomes delivered to the shutters of a shaft (R42, R83). -/

namespace Sys2Proof.Machine

/-! ### One shutter answered (R83) -/

/-- A shutter's RELEASE started at a moment (R80). -/
def ShutterLive.released (x : ShutterLive) (c : ShutterCfg) (now : Micros) : ShutterLive :=
  { x with
    command := some .release, sends := 1, complied := false
    resend := some (now + Config.resend), motion := some (now + motionLimit c .release), state := .descending }

/-- What an outcome makes of a shutter's record (R83). -/
def ShutterLive.answered (x : ShutterLive) (c : ShutterCfg) (now warned : Micros) (o : Outcome) : ShutterLive :=
  if x.state = .releaseWait then
    if o = .clear then { x with clearance := none }.released c now
    else { x with clearance := none, warning := some warned, state := .warning }
  else if x.state = .warning ∧ o = .clear then { x with warning := none }.released c now
  else if (x.state = .descending ∨ x.state = .closed ∨ x.state = .stalled) ∧ x.forced = true then
    { x with lateOutcomes := bump x.lateOutcomes }
  else x

section
variable (s : State)

theorem State.shutterLive_of_shutters {s t : State} (same : t.shutters = s.shutters) (i : Nat) : t.shutterLive i = s.shutterLive i := by
  rw [State.shutterLive, same]; rfl

theorem State.shutterLive_setShutter {i : Nat} (inside : i < 32) (st : ShutterState) (j : Nat) :
    (s.setShutter i st).shutterLive j = if i = j then { s.shutterLive j with state := st } else s.shutterLive j := by
  unfold State.setShutter
  dsimp only
  split
  · next kept =>
    by_cases same : i = j
    · subst same; rw [if_pos rfl, ← kept]
    · rw [if_neg same]
  · have lamps : ∀ (t : State) r, (t.recomputeLampAt r).shutters = t.shutters := fun t r => (t.recomputeLampAt_changes r).shutters
    rw [State.shutterLive_of_shutters ((State.notify_shutters _ _).trans (lamps _ _)), State.shutterLive_modShutter]
    by_cases same : i = j
    · subst same; rw [if_pos ⟨rfl, inside⟩, if_pos rfl]
    · rw [if_neg fun h => same h.1, if_neg same]

theorem State.shutterLive_startRelease {i : Nat} {c : ShutterCfg} (found : s.shutter i = some c) (j : Nat) :
    ((s.startCommand i .release).setShutter i .descending).shutterLive j =
      if i = j then (s.shutterLive j).released c s.now else s.shutterLive j := by
  have inside : i < 32 := Tab.lt_of_at? found
  rw [State.shutterLive_setShutter _ inside]
  unfold State.startCommand
  rw [found]
  dsimp only
  have sent : ∀ (t : State) bytes, (t.sendShut i bytes).shutters = t.shutters := fun t bytes =>
    ChangesOnly.shutters (F := [.net]) (State.sendShut_blank (by decide) t i bytes)
  rw [State.shutterLive_of_shutters (sent _ _), State.shutterLive_modShutter]
  by_cases same : i = j
  · subst same; simp only [if_true, inside, and_self]; rfl
  · simp only [same, false_and, if_false]

theorem State.shutterZone_of_found {i : Nat} {c : ShutterCfg} (found : s.shutter i = some c) : s.shutterZone i = c.zone := by
  simp [State.shutterZone, found]

/-- An outcome answers its shutter and touches no other (R83). -/
theorem State.shutterLive_applyOutcome {i : Nat} {c : ShutterCfg} (found : s.shutter i = some c) (o : Outcome) (j : Nat) :
    (s.applyOutcome i o).shutterLive j =
      if i = j then (s.shutterLive j).answered c s.now (s.now + sec (s.zoneCfg c.zone).warningTime) o else s.shutterLive j := by
  have inside : i < 32 := Tab.lt_of_at? found
  have kept : ∀ f : ShutterLive → ShutterLive, (s.modShutter i f).shutterLive j = if i = j then f (s.shutterLive j) else s.shutterLive j :=
    fun f => by
      rw [State.shutterLive_modShutter]
      by_cases same : i = j
      · subst same; rw [if_pos ⟨rfl, inside⟩, if_pos rfl]
      · rw [if_neg fun h => same h.1, if_neg same]
  have begun : ∀ f : ShutterLive → ShutterLive, (((s.modShutter i f).startCommand i .release).setShutter i .descending).shutterLive j =
      if i = j then (f (s.shutterLive j)).released c s.now else s.shutterLive j := fun f => by
    rw [State.shutterLive_startRelease (s.modShutter i f) found j, kept]
    by_cases same : i = j <;> simp only [same, if_true, if_false] <;> rfl
  have late : (if (s.shutterLive i).forced = true then s.modShutter i fun x => { x with lateOutcomes := bump x.lateOutcomes }
      else s).shutterLive j = if i = j then
        (if (s.shutterLive j).forced = true then { s.shutterLive j with lateOutcomes := bump (s.shutterLive j).lateOutcomes }
          else s.shutterLive j) else s.shutterLive j := by
    by_cases same : i = j
    · subst same
      split
      · rw [kept]
      · rw [if_pos rfl]
    · rw [if_neg same]
      split
      · rw [kept, if_neg same]
      · rfl
  by_cases same : i = j
  · subst same
    rw [if_pos rfl]
    unfold State.applyOutcome ShutterLive.answered
    dsimp only
    split <;> rename_i here
    · rw [begun, if_pos rfl, if_pos here, if_pos rfl]
    · rw [State.shutterLive_setShutter _ inside, if_pos rfl, kept, if_pos rfl, s.shutterZone_of_found found, if_pos here,
        if_neg (by decide)]
      rfl
    · rw [begun, if_pos rfl, if_neg (by simp [here]), if_pos ⟨here, rfl⟩]
    · rw [late, if_pos rfl]; simp [here]
    · rw [late, if_pos rfl]; simp [here]
    · rw [late, if_pos rfl]; simp [here]
    · next a _ _ descends closed stalled waits warns =>
      have untold : ¬ (s.shutterLive i).state = .releaseWait := fun wait => by
        cases a
        · exact waits wait rfl
        · exact warns wait rfl
      have unwarned : ¬ ((s.shutterLive i).state = .warning ∧ a = .clear) := fun ⟨warning, clear⟩ => here warning clear
      have quiet : ¬ (((s.shutterLive i).state = .descending ∨ (s.shutterLive i).state = .closed ∨
          (s.shutterLive i).state = .stalled) ∧ (s.shutterLive i).forced = true) :=
        fun ⟨late, _⟩ => late.elim descends fun late => late.elim closed stalled
      rw [if_neg untold, if_neg unwarned, if_neg quiet]
  · rw [if_neg same]
    unfold State.applyOutcome
    dsimp only
    split
    · rw [begun, if_neg same]
    · rw [State.shutterLive_setShutter _ inside, if_neg same, kept, if_neg same]
    · rw [begun, if_neg same]
    · rw [late, if_neg same]
    · rw [late, if_neg same]
    · rw [late, if_neg same]
    · rfl

/-! ### An outcome delivered to the zones of a set (R42) -/

theorem State.mem_shaftShutters (k i : Nat) : i ∈ s.shaftShutters k ↔
    ∃ c r, s.shutter i = some c ∧ c.landing = some r ∧ r.shaft = k := by
  unfold State.shaftShutters
  rw [mem_indicesWhere]
  constructor
  · rintro ⟨-, here⟩
    obtain ⟨c, found, here⟩ := (Option.any_eq_true _ _).1 here
    obtain ⟨r, landing, shaft⟩ := (Option.any_eq_true _ _).1 here
    exact ⟨c, r, found, landing, of_decide_eq_true shaft⟩
  · rintro ⟨c, r, found, landing, shaft⟩
    exact ⟨Tab.lt_of_at? found, by simp [found, landing, shaft]⟩

/-- What a delivery for some zones makes of a shutter's record (R42, R83). -/
def State.deliveredTo (s : State) (k : Nat) (zs : List Nat) (o : Outcome) (j : Nat) (x : ShutterLive) : ShutterLive :=
  match s.shutter j with
  | none => x
  | some c =>
    if j ∈ s.shaftShutters k ∧ c.zone ∈ zs then x.answered c s.now (s.now + sec (s.zoneCfg c.zone).warningTime) o else x

theorem State.applyOutcome_changes (i : Nat) (o : Outcome) : ChangesOnly [.shafts, .shutters, .net] s (s.applyOutcome i o) :=
  State.applyOutcome_blank (by decide) (by decide) (by decide) s i o

/-- A step of a delivery reads what it reads in the state that the delivery starts in. -/
theorem State.deliveredTo_congr {s t : State} (same : ChangesOnly [.shafts, .shutters, .net] s t) (k : Nat) :
    t.deliveredTo k = s.deliveredTo k := by
  have tables := same.tables
  have shutter : t.shutter = s.shutter := by unfold State.shutter; rw [tables]
  have shutters : t.shaftShutters = s.shaftShutters := by unfold State.shaftShutters; rw [shutter]
  have zone : t.zoneCfg = s.zoneCfg := by unfold State.zoneCfg; rw [tables]
  unfold State.deliveredTo
  rw [shutter, shutters, zone, same.now]

theorem State.shutterLive_deliverZone (k z : Nat) (o : Outcome) (j : Nat) :
    (s.deliverZone k z o).shutterLive j = s.deliveredTo k [z] o j (s.shutterLive j) := by
  have read := State.forEach_read (s := s) (is := (s.shaftShutters k).filter fun i => decide (s.shutterZone i = z))
    (f := fun s i => s.applyOutcome i o) (fun u => ChangesOnly [.shafts, .shutters, .net] s u) State.shutterLive
    (fun i => s.deliveredTo k [z] o i) (.refl s) (fun u i _ same => same.trans (u.applyOutcome_changes i o))
    (fun u i mem same j => by
      obtain ⟨mine, zoned⟩ := List.mem_filter.1 mem
      obtain ⟨c, r, found, -⟩ := (s.mem_shaftShutters k i).1 mine
      have found' : u.shutter i = some c := by rw [← found, State.shutter, same.tables]; rfl
      have zone : c.zone = z := by rw [← s.shutterZone_of_found found]; exact of_decide_eq_true zoned
      rw [u.shutterLive_applyOutcome found' o]
      by_cases here : i = j
      · subst here
        rw [if_pos rfl, if_pos rfl, State.deliveredTo, found]
        dsimp only
        rw [if_pos ⟨mine, List.mem_singleton.2 zone⟩, same.now, State.zoneCfg, same.tables]
        rfl
      · rw [if_neg here, if_neg here])
    ((nodup_indicesWhere _ _).filter _) j
  unfold State.deliverZone
  rw [read]
  split
  · rfl
  · next outside =>
    unfold State.deliveredTo
    split
    · rfl
    · next c found =>
      rw [if_neg]
      rintro ⟨mine, zone⟩
      refine outside (List.mem_filter.2 ⟨mine, decide_eq_true ?_⟩)
      rw [s.shutterZone_of_found found]
      exact List.mem_singleton.1 zone

theorem State.deliverZone_changes (k z : Nat) (o : Outcome) : ChangesOnly [.shafts, .shutters, .net] s (s.deliverZone k z o) :=
  State.deliverZone_blank (by decide) (by decide) (by decide) s k z o

theorem State.shutterLive_deliverZones (k : Nat) (o : Outcome) (j : Nat) (zs : List Nat) (once : zs.Nodup) :
    (s.forEach zs fun s z => s.deliverZone k z o).shutterLive j = s.deliveredTo k zs o j (s.shutterLive j) := by
  induction zs generalizing s with
  | nil =>
    unfold State.deliveredTo
    split
    · rfl
    · rw [if_neg (by simp)]; rfl
  | cons z zs ih =>
    obtain ⟨fresh, once⟩ := List.nodup_cons.1 once
    change (State.forEach (s.deliverZone k z o) zs fun s z => s.deliverZone k z o).shutterLive j = _
    rw [ih _ once, s.shutterLive_deliverZone, State.deliveredTo_congr (s.deliverZone_changes k z o)]
    unfold State.deliveredTo
    cases s.shutter j with
    | none => rfl
    | some c =>
      by_cases mine : j ∈ s.shaftShutters k
      · by_cases here : c.zone = z
        · have later : c.zone ∉ zs := by rw [here]; exact fresh
          simp [mine, here, fresh]
        · simp [mine, here]
      · simp [mine]

/-- A delivery answers each shutter across the shaft of the zones in its set, once (R42). -/
theorem State.shutterLive_deliver {k : Nat} {o : Outcome} (told : (s.shaft k).outcome = some o) {i : Nat} {c : ShutterCfg}
    (found : s.shutter i = some c) (mine : i ∈ s.shaftShutters k) (flagged : (s.shaft k).zoneFlags.getLsbD c.zone = true) :
    (s.deliver k).shutterLive i = (s.shutterLive i).answered c s.now (s.now + sec (s.zoneCfg c.zone).warningTime) o := by
  have zone : c.zone ∈ (s.shaft k).zoneFlags.zones := mem_indicesWhere.2 ⟨BitVec.lt_of_getLsbD flagged, flagged⟩
  unfold State.deliver
  rw [told]
  dsimp only
  rw [s.shutterLive_deliverZones k o i (s.shaft k).zoneFlags.zones (nodup_indicesWhere _ _), State.deliveredTo, found]
  exact if_pos ⟨mine, zone⟩

end

end Sys2Proof.Machine
end

section
/-! Speed windows, the standstill check and the counts of a HELD shaft (R23, R41, R42, R49, R50, R53): O9. -/

namespace Sys2Proof.Machine

theorem State.modShaft_congr (s : State) (k : Nat) {f g : Shaft → Shaft} (inside : k < 2) (same : f (s.shaft k) = g (s.shaft k)) :
    s.modShaft k f = s.modShaft k g := by
  obtain ⟨x, here⟩ := s.shafts.get?_eq_some inside
  have read : s.shaft k = x := by simp [State.shaft, Tab.getD, here]
  unfold State.modShaft Tab.modify
  rw [here]
  dsimp only
  rw [read] at same
  rw [same]

/-! ### The end of a window (R23) -/

namespace Shaft

/-- The window measured, before a standstill event (R23). -/
def measure (x : Shaft) (g : Geometry) : Shaft :=
  let y := { x with windowCount := 0, windowMoved := false }
  let z := if g.Vmax < x.windowCount * 10 then y.trips g.enabled .overspeed else y
  { z with
    speed := min (x.windowCount * 10) 4000
    standstill := if x.windowMoved then z.standstill else min 3 (z.standstill + 1) }

/-- A window measured, with the trip it asks for. -/
theorem measure_cases (x : Shaft) (g : Geometry) : ∃ z, (z = { x with windowCount := 0, windowMoved := false } ∨
    z = { x with windowCount := 0, windowMoved := false }.tripFor .overspeed) ∧
    x.measure g = { z with
      speed := min (x.windowCount * 10) 4000
      standstill := if x.windowMoved then x.standstill else min 3 (x.standstill + 1) } := by
  by_cases fast : g.Vmax < x.windowCount * 10
  · by_cases guard : g.enabled = false ∨ x.state = .tripped
    · exact ⟨_, .inl rfl, by simp [measure, fast, trips, guard]⟩
    · exact ⟨_, .inr rfl, by simp [measure, fast, trips, guard]; rfl⟩
  · exact ⟨_, .inl rfl, by simp [measure, fast]⟩

/-- The gauges after a window's end (R23). -/
theorem gauge_measure (x : Shaft) (g : Geometry) : (x.measure g).gauge = ((x.pos, x.posValid, x.ready, x.fault),
    (0, false, x.windowEnd, min (x.windowCount * 10) 4000, if x.windowMoved then x.standstill else min 3 (x.standstill + 1))) := by
  obtain ⟨z, rfl | rfl, same⟩ := x.measure_cases g <;> rw [same] <;> rfl

theorem measure_of_tripped {x : Shaft} {g : Geometry} (tripped : x.state = .tripped) :
    (x.measure g).state = .tripped ∧ (x.measure g).trip = x.trip := by
  simp [measure, trips, tripped]

theorem measure_of_fast {x : Shaft} {g : Geometry} (enabled : g.enabled = true) (untripped : x.state ≠ .tripped)
    (fast : g.Vmax < x.windowCount * 10) : (x.measure g).latched .overspeed := by
  simp [measure, trips, enabled, untripped, fast, tripFor, enter, latched]

/-- A standstill event leaves a latched shaft latched (R55). -/
theorem latched_standstillEvent {x : Shaft} {c : TripCause} (latched : x.latched c) (g : Geometry) (overdue may : Bool) :
    (x.standstillEvent g overdue may).latched c := by
  obtain ⟨state, rest⟩ := latched
  unfold standstillEvent
  split
  · next here => simp [here] at state
  · next here => simp [here] at state
  · exact ⟨state, rest⟩
  · exact ⟨state, rest⟩

theorem status_of_gauge {x y : Shaft} (same : y.gauge = x.gauge) : y.pos = x.pos ∧ y.posValid = x.posValid ∧ y.ready = x.ready ∧
    y.fault = x.fault ∧ y.windowCount = x.windowCount ∧ y.windowMoved = x.windowMoved ∧ y.windowEnd = x.windowEnd ∧
    y.speed = x.speed ∧ y.standstill = x.standstill := by
  simp only [gauge, Prod.mk.injEq] at same
  obtain ⟨⟨pos, valid, ready, fault⟩, count, moved, due, speed, still⟩ := same
  exact ⟨pos, valid, ready, fault, count, moved, due, speed, still⟩

end Shaft

section
variable (s : State) (k : Nat)

/-- The state at the end of a window before its standstill event (R23). -/
def State.measured (s : State) (k : Nat) : State :=
  let x := s.shaft k
  let raw := x.windowCount * 10
  let s := s.modShaft k fun x => { x with windowCount := 0, windowMoved := false }
  let s := if (s.geometry k).Vmax < raw then s.tripShaft k .overspeed else s
  s.modShaft k fun y => { y with
    speed := min raw 4000
    standstill := if x.windowMoved then y.standstill else min 3 (y.standstill + 1) }

theorem State.measured_changes : ChangesOnly [.shafts, .calls, .arbiters, .day, .net, .tokens] s (s.measured k) := by
  unfold State.measured
  dsimp only
  have fast : ∀ (c : Prop) [Decidable c] (t : State), ChangesOnly [.shafts, .calls, .arbiters, .day, .net, .tokens] t
      (if c then t.tripShaft k .overspeed else t) := fun c _ t => by
    split
    · exact State.tripShaft_blank (by decide) (by decide) (by decide) (by decide) (by decide) (by decide) t k _
    · exact .refl t
  exact ChangesOnly.trans (ChangesOnly.trans (State.modShaft_blank (by decide) s k _) (fast _ _)) (State.modShaft_blank (by decide) _ k _)

theorem State.endWindow_eq : s.endWindow k =
    if s.shaftEnabled k && decide (((s.measured k).shaft k).standstill = 3) then (s.measured k).standstillEvent k else s.measured k := by
  have enabled : (s.measured k).shaftEnabled k = s.shaftEnabled k := by
    rw [State.shaftEnabled, State.geometry_of_changes (s.measured_changes k)]; rfl
  rw [← enabled]
  rfl

theorem State.cores_measured : (s.measured k).cores = s.cores.modify k fun x => x.measure (s.geometry k) := by
  have tripped : ∀ (c : Prop) [Decidable c] (t : State), (if c then t.tripShaft k .overspeed else t).cores =
      t.cores.modify k fun x => if c then x.trips (t.shaftEnabled k) .overspeed else x := fun c _ t => by
    split
    · exact t.cores_trips k _
    · exact (t.cores_modify_self k rfl).symm
  unfold State.measured
  dsimp only
  rw [State.cores_modShaft, tripped, State.cores_modShaft, Tab.modify_modify, Tab.modify_modify]
  · exact s.cores_modify_congr k rfl
  · exact fun _ => rfl
  · exact fun _ => rfl

variable {s k}

/-- The record at the end of a window (R23): the gauges measured, a trip latched, an earlier one kept. -/
theorem State.endWindow_spec (inside : k < 2) (enabled : s.shaftEnabled k = true) {t : State} (result : t = s.endWindow k) :
    ((t.shaft k).gauge = ((s.shaft k).core.measure (s.geometry k)).gauge) ∧
    (∀ j, j ≠ k → (t.shaft j).core = (s.shaft j).core) ∧
    (((s.geometry k).Vmax < (s.shaft k).windowCount * 10 → (s.shaft k).state ≠ .tripped → (t.shaft k).latched .overspeed)) ∧
    ((s.shaft k).state = .tripped → (t.shaft k).state = .tripped ∧ (t.shaft k).trip = (s.shaft k).trip) := by
  have measured := s.cores_measured k
  have first : ((s.shaft k).core.measure (s.geometry k)).gauge = ((s.shaft k).core.measure (s.geometry k)).gauge := rfl
  have both : ∃ F : Shaft → Shaft, t.cores = s.cores.modify k (fun x => F (x.measure (s.geometry k))) ∧
      (∀ x, (F x).gauge = x.gauge) ∧ (∀ x c, x.latched c → (F x).latched c) ∧
      ∀ x, x.state = .tripped → (F x).state = .tripped ∧ (F x).trip = x.trip := by
    rw [State.endWindow_eq] at result
    split at result
    · refine ⟨fun x => x.standstillEvent ((s.measured k).geometry k) (s.measured k).day.overdue ((s.measured k).mayReapproach k), ?_,
        fun x => (x.steady_standstillEvent _ _ _).gauge, fun x c latched => Shaft.latched_standstillEvent latched _ _ _,
        fun x => (x.steady_standstillEvent _ _ _).latched⟩
      rw [result, State.cores_standstillEvent _ k inside, measured, Tab.modify_modify]
    · exact ⟨id, by rw [result, measured]; rfl, fun _ => rfl, fun _ _ => id, fun x tripped => ⟨tripped, rfl⟩⟩
  obtain ⟨F, step, gauge, latched, tripped⟩ := both
  obtain ⟨l, shaft⟩ := State.shaft_of_modify inside step
  rw [shaft]
  refine ⟨gauge _, fun j other => State.core_of_modify_other step other, fun fast untripped => ?_, fun already => ?_⟩
  · exact latched _ _ (Shaft.measure_of_fast (x := (s.shaft k).core) enabled untripped fast)
  · obtain ⟨still, cause⟩ := Shaft.measure_of_tripped (x := (s.shaft k).core) (g := s.geometry k) already
    obtain ⟨latest, kept⟩ := tripped _ still
    exact ⟨latest, kept.trans cause⟩

theorem exec_speedWindowEnd_eq {e : Micros} (due : (s.shaft k).windowEnd = some e) : exec (.speedWindowEnd k) s =
    .next (((s.reach e).modShaft k fun x => { x with windowEnd := some (e + 100000) }).endWindow k) := by
  have job : exec (.speedWindowEnd k) s = execSpeedWindowEnd k s := rfl
  simp only [job, execSpeedWindowEnd, due]
  rfl

/-- The window's end of an enabled shaft (R23). -/
theorem windowEnd_enabled {e : Micros} (inside : k < 2) (enabled : s.shaftEnabled k = true)
    {t : State} (result : t = ((s.reach e).modShaft k fun x => { x with windowEnd := some (e + 100000) }).endWindow k) :
    t.now = max s.now e ∧
      (t.shaft k).windowEnd = some (e + 100000) ∧ (t.shaft k).windowCount = 0 ∧ (t.shaft k).windowMoved = false ∧
      (t.shaft k).speed = min ((s.shaft k).windowCount * 10) 4000 ∧
      (t.shaft k).standstill =
        (if (s.shaft k).windowMoved then (s.shaft k).standstill else min 3 ((s.shaft k).standstill + 1)) ∧
      (t.shaft k).pos = (s.shaft k).pos ∧ (t.shaft k).posValid = (s.shaft k).posValid ∧
      (∀ j, j ≠ k → (t.shaft j).core = (s.shaft j).core) ∧
      ChangesOnly [.shafts, .shutters, .calls, .arbiters, .day, .net, .tokens, .now] s t ∧
      ((s.geometry k).Vmax < (s.shaft k).windowCount * 10 → (s.shaft k).state ≠ .tripped →
        (t.shaft k).latched .overspeed) ∧
      ((s.shaft k).state = .tripped → (t.shaft k).state = .tripped ∧ (t.shaft k).trip = (s.shaft k).trip) := by
  have begun : ((s.reach e).modShaft k fun x => { x with windowEnd := some (e + 100000) }).shaft k =
      { s.shaft k with windowEnd := some (e + 100000) } := by
    rw [State.shaft_modShaft, if_pos ⟨rfl, inside⟩]; rfl
  have others : ∀ j, j ≠ k → ((s.reach e).modShaft k fun x => { x with windowEnd := some (e + 100000) }).shaft j = s.shaft j :=
    fun j other => by rw [State.shaft_modShaft_other _ _ other]; rfl
  have changes : ChangesOnly [.shafts, .shutters, .calls, .arbiters, .day, .net, .tokens]
      ((s.reach e).modShaft k fun x => { x with windowEnd := some (e + 100000) }) t := by
    rw [result]
    exact State.endWindow_blank (by decide) (by decide) (by decide) (by decide) (by decide) (by decide) (by decide) _ k
  obtain ⟨gauge, rest, fast, tripped⟩ := State.endWindow_spec
    (s := (s.reach e).modShaft k fun x => { x with windowEnd := some (e + 100000) }) inside enabled result
  rw [begun, Shaft.gauge_measure] at gauge
  rw [begun] at fast tripped
  simp only [Shaft.gauge, Prod.mk.injEq] at gauge
  obtain ⟨⟨pos, valid, -, -⟩, count, moved, due, speed, still⟩ := gauge
  refine ⟨changes.now, due, count, moved, speed, still, pos, valid, fun j other => by rw [rest j other, others j other], ?_, fast, tripped⟩
  exact ChangesOnly.trans (State.reach_blank (by decide) s e) (
    ChangesOnly.trans (State.modShaft_blank (by decide) _ k _) (changes.mono (by decide)))

/-- The window's end of a disabled shaft (R16, R23). -/
theorem State.endWindow_of_disabled (inside : k < 2) (disabled : s.shaftEnabled k = false) : s.endWindow k = s.modShaft k fun x => { x with
    windowCount := 0, windowMoved := false, speed := min (x.windowCount * 10) 4000
    standstill := if x.windowMoved then x.standstill else min 3 (x.standstill + 1) } := by
  have still : (s.modShaft k fun x => { x with windowCount := 0, windowMoved := false }).tripShaft k .overspeed =
      s.modShaft k fun x => { x with windowCount := 0, windowMoved := false } := State.tripShaft_of_disabled _ k disabled
  rw [State.endWindow_eq, disabled, Bool.false_and, if_neg Bool.false_ne_true]
  unfold State.measured
  dsimp only
  rw [still, ite_self, State.modShaft_modShaft]
  exact s.modShaft_congr k inside rfl

end

end Sys2Proof.Machine
end

section
/-! The standstill check and the counts of a HELD shaft (R41, R42, R49, R50, R53): O9. -/

namespace Sys2Proof.Machine

/-! ### Flags of notices over a closing check (R143, R184) -/

section
variable (s : State)

theorem State.keepsFlags_closeCalls : s.KeepsFlags s.closeCalls := by
  have dropped : ∀ (t : State) (kinds : List NoticeKind) (n : Nat), t.KeepsFlags (t.dropRepeats kinds n) := fun t kinds n j set => by
    unfold State.dropRepeats
    rw [State.modMgmt_net]
    exact set
  have counted : ∀ (t : State) f, t.KeepsFlags (t.countCalls f) := fun t f => t.keepsFlags_modCalls _
  have removed : ∀ (t : State) (n : Nat), t.KeepsFlags (t.removeRecord n) := fun t n => by
    unfold State.removeRecord State.withdrawAll
    refine State.KeepsFlags.trans ?_ (dropped _ _ _)
    exact (t.keepsFlags_modCalls _).trans (State.keepsFlags_forEach fun u i => u.keepsFlags_withdraw i _)
  unfold State.closeCalls
  refine State.KeepsFlags.trans ?_ (State.keepsFlags_recomputeDisplays _)
  refine State.keepsFlags_foldl (fun t r => ?_) _ s
  exact (removed t r.number).trans (counted _ _)

theorem State.keepsFlags_closingCheck : s.KeepsFlags s.closingCheck := by
  have lamps : ∀ t : State, t.KeepsFlags t.recomputeAllLamps := fun t =>
    (t.keepsFlags_recomputeLamps 0).trans (State.keepsFlags_recomputeLamps _ 1)
  unfold State.closingCheck State.enterMode
  split
  · dsimp only
    rw [if_pos rfl]
    refine State.KeepsFlags.trans ?_ (State.keepsFlags_notify _ _)
    refine State.KeepsFlags.trans ?_ (State.keepsFlags_closeCalls _)
    refine State.KeepsFlags.trans ?_ (lamps _)
    exact State.keepsFlags_of_net rfl
  · exact .refl s

theorem State.notifyHeld_flag (k : Nat) : (s.notifyHeld k).net.mgmt.sticky.getLsbD 15 = true := by
  unfold State.notifyHeld
  rw [State.getLsbD_notify]
  exact Bool.or_eq_true_iff.2 (.inr (decide_eq_true rfl))

end

/-! ### Entry to HELD (R29, R42) -/

/-- The answers that a delivery of a shaft's outcome gives, read against the state before it (R42, R83). -/
def State.Answers (s t : State) (k : Nat) (o : Outcome) : Prop :=
  ∀ i c, s.shutter i = some c → i ∈ s.shaftShutters k → (s.shaft k).zoneFlags.getLsbD c.zone = true →
    t.shutterLive i = (s.shutterLive i).answered c s.now (s.now + sec (s.zoneCfg c.zone).warningTime) o

section
variable {s t u : State} {k : Nat} {o : Outcome}

/-- A delivery answers as from any state that has the same shutters, tables and zone flags. -/
theorem State.answers_deliver (told : (u.shaft k).outcome = some o) (before : ChangesOnly [.shafts, .net] s u)
    (flags : (u.shaft k).zoneFlags = (s.shaft k).zoneFlags) (after : t.shutters = (u.deliver k).shutters) : s.Answers t k o := by
  intro i c found mine flagged
  have tables := before.tables
  have found' : u.shutter i = some c := by rw [← found, State.shutter, tables]; rfl
  have shutter : u.shutter = s.shutter := by unfold State.shutter; rw [tables]
  have mine' : i ∈ u.shaftShutters k := by unfold State.shaftShutters; rw [shutter]; exact mine
  rw [State.shutterLive_of_shutters after, u.shutterLive_deliver told found' mine' (by rw [flags]; exact flagged),
    State.shutterLive_of_shutters before.shutters, before.now, State.zoneCfg, tables]
  rfl

theorem State.answers_enterHeld (inside : k < 2) : s.Answers (s.enterHeld k o) k o := by
  have core := (s.modShaft k fun x => { x with outcome := some o, heldReason := x.requestReason.or x.stopReason }).cores_enterShaft
    k .held false false true
  obtain ⟨l, shaft⟩ := State.shaft_of_modify inside core
  rw [State.shaft_modShaft, if_pos ⟨rfl, inside⟩] at shaft
  refine State.answers_deliver (u := (s.modShaft k fun x => { x with
    outcome := some o, heldReason := x.requestReason.or x.stopReason }).enterShaft k .held false false true) ?_ ?_ ?_ ?_
  · rw [shaft]; rfl
  · exact ChangesOnly.trans (State.modShaft_blank (by decide) s k _) (State.enterShaft_blank (by decide) (by decide) _ k _ _ _ _)
  · rw [shaft]; rfl
  · have closed : ∀ v : State, v.closingCheck.shutters = v.shutters := fun v =>
      ChangesOnly.shutters (F := [.shafts, .calls, .arbiters, .day, .net, .tokens]) (State.closingCheck_blank (by decide) (by decide)
        (by decide) (by decide) (by decide) (by decide) v)
    unfold State.enterHeld
    rw [closed]
    rfl

theorem State.enterHeld_flag : (s.enterHeld k o).net.mgmt.sticky.getLsbD 15 = true :=
  State.keepsFlags_closingCheck _ 15 (State.notifyHeld_flag _ k)

/-- A count in HELD that changes the evaluation (R42, R53). -/
theorem State.answers_evaluateAndDeliver (inside : k < 2) : s.Answers (s.evaluateAndDeliver k) k (s.standingEval k) := by
  have shaft : (s.modShaft k fun x => { x with outcome := some (s.standingEval k) }).shaft k =
      { s.shaft k with outcome := some (s.standingEval k) } := by rw [State.shaft_modShaft, if_pos ⟨rfl, inside⟩]
  refine State.answers_deliver (u := s.modShaft k fun x => { x with outcome := some (s.standingEval k) }) ?_
    (State.modShaft_blank (by decide) s k _) ?_ rfl
  · rw [shaft]
  · rw [shaft]

/-! ### The window of a shaft at rest (R23) -/

/-- A shaft at rest at the end of an empty window (R23). -/
def State.rested (s : State) (k : Nat) (e : Micros) : State := (s.reach e).modShaft k fun x => { x with
  windowEnd := some (e + 100000), windowCount := 0, windowMoved := false, speed := 0, standstill := 3 }

theorem State.endWindow_of_rest {e : Micros} (inside : k < 2) (enabled : s.shaftEnabled k = true) (still : (s.shaft k).windowMoved = false)
    (empty : (s.shaft k).windowCount = 0) (long : 2 ≤ (s.shaft k).standstill) (stopping : (s.shaft k).state = .stopping) :
    ((s.reach e).modShaft k fun x => { x with windowEnd := some (e + 100000) }).endWindow k = (s.rested k e).standstillCheck k := by
  have measured : ((s.reach e).modShaft k fun x => { x with windowEnd := some (e + 100000) }).measured k = s.rested k e := by
    have begun : ((s.reach e).modShaft k fun x => { x with windowEnd := some (e + 100000) }).shaft k =
        { s.shaft k with windowEnd := some (e + 100000) } := by
      rw [State.shaft_modShaft, if_pos ⟨rfl, inside⟩]; rfl
    have third : min 3 ((s.shaft k).standstill + 1) = 3 := by omega
    unfold State.measured
    dsimp only
    rw [begun]
    simp only [empty, Nat.zero_mul, Nat.not_lt_zero, if_false, still, Bool.false_eq_true, Nat.zero_min]
    rw [State.modShaft_modShaft, State.modShaft_modShaft]
    refine State.modShaft_congr _ k inside ?_
    change ({ s.shaft k with
      windowEnd := some (e + 100000), windowCount := 0, windowMoved := false, speed := 0
      standstill := min 3 ((s.shaft k).standstill + 1) } : Shaft) = _
    rw [third]
    rfl
  have rested : (s.rested k e).shaft k = { s.shaft k with
      windowEnd := some (e + 100000), windowCount := 0, windowMoved := false, speed := 0, standstill := 3 } := by
    rw [State.rested, State.shaft_modShaft, if_pos ⟨rfl, inside⟩]; rfl
  have on : ((s.reach e).modShaft k fun x => { x with windowEnd := some (e + 100000) }).shaftEnabled k = true := enabled
  rw [State.endWindow_eq, measured, on, rested]
  simp only [decide_true, Bool.and_self, if_true, State.standstillEvent]
  rw [rested]
  simp only [stopping]

/-! ### The standstill check (R49, R50) -/

theorem State.standingEval_clear (known : s.shaftEnabled k = true) : s.standingEval k = .clear ↔
    (s.shaft k).clearSet = [] ∨ (s.shaft k).posValid = true ∧
      (s.geometry k).forbidden (s.shaft k).clearSet ((s.shaft k).pos % (s.geometry k).pitch) = false := by
  have on : (s.geometry k).enabled = true := known
  unfold State.standingEval
  simp only [on, Bool.not_true, Bool.false_eq_true, if_false]
  split
  · next empty => simp [empty]
  · next some =>
    cases (s.shaft k).posValid
    · simp [some]
    · cases (s.geometry k).forbidden (s.shaft k).clearSet ((s.shaft k).pos % (s.geometry k).pitch) <;> simp [some]

theorem State.standingEval_unclear (known : s.shaftEnabled k = true) : s.standingEval k = .unclear ↔
    (s.shaft k).clearSet ≠ [] ∧ ((s.shaft k).posValid = false ∨
      (s.geometry k).forbidden (s.shaft k).clearSet ((s.shaft k).pos % (s.geometry k).pitch) = true) := by
  have other : s.standingEval k = .unclear ↔ ¬ s.standingEval k = .clear := by cases s.standingEval k <;> simp
  rw [other, State.standingEval_clear known]
  cases (s.shaft k).posValid <;> simp

/-- The conditions of a re-approach but its plan, one of which fails (R50). -/
theorem State.mayReapproach_false (s : State) (k : Nat) : s.mayReapproach k = false ↔
    2 ≤ (s.shaft k).reapproach ∨ (s.shaft k).bar = true ∨ s.day.mode = .closed ∨ (s.shaft k).ready = false ∨ (s.shaft k).fault = true ∨
    ∃ i ∈ s.shaftShutters k, (s.shutterLive i).state ∉ [ShutterState.open, .releaseWait, .isolated] := by
  have shutters : s.reapproachShutters k = false ↔
      ∃ i ∈ s.shaftShutters k, (s.shutterLive i).state ∉ [ShutterState.open, .releaseWait, .isolated] := by
    unfold State.reapproachShutters
    rw [List.all_eq_false]
    refine exists_congr fun i => and_congr_right fun _ => ?_
    cases (s.shutterLive i).state <;> simp
  rw [← shutters]
  unfold State.mayReapproach
  simp only [Bool.and_eq_false_iff, decide_eq_false_iff_not, Bool.not_eq_false', Nat.not_lt, ne_eq, not_not, or_assoc]

/-- A shaft's record with a plan written and its counters moved. -/
def State.Planned (s u : State) (k : Nat) : Prop := ChangesOnly [.shafts] s u ∧
  (∃ p a b, u.shaft k = { s.shaft k with plan := p, unclearables := a, heldUnclear := b })

/-- The standstill check ends in HELD (R49). -/
theorem State.standstillCheck_holds (inside : k < 2) (enabled : s.shaftEnabled k = true)
    (case : (o = .clear ∧ ((s.shaft k).clearSet = [] ∨ (s.shaft k).posValid = true ∧
          (s.geometry k).forbidden (s.shaft k).clearSet ((s.shaft k).pos % (s.geometry k).pitch) = false)) ∨
        (o = .unclear ∧ (s.shaft k).clearSet ≠ [] ∧ (s.shaft k).posValid = false) ∨
        (o = .unclear ∧ (s.shaft k).clearSet ≠ [] ∧
          (s.geometry k).forbidden (s.shaft k).clearSet ((s.shaft k).pos % (s.geometry k).pitch) = true ∧
          (s.mayReapproach k = false ∨ ((s.geometry k).plan (s.shaft k).clearSet (s.shaft k).pos 0).target = none))) :
    ∃ u, s.Planned u k ∧ s.standstillCheck k = u.enterHeld k o := by
  have same : s.Planned s k := ⟨.refl s, _, _, _, rfl⟩
  rcases case with ⟨rfl, clear⟩ | ⟨rfl, some, unknown⟩ | ⟨rfl, some, forbidden, barred⟩
  · refine ⟨s, same, ?_⟩
    simp only [State.standstillCheck, (State.standingEval_clear enabled).2 clear]
  · refine ⟨s, same, ?_⟩
    simp only [State.standstillCheck, (State.standingEval_unclear enabled).2 ⟨some, .inl unknown⟩, unknown, Bool.false_eq_true, if_false]
  · have eval := (State.standingEval_unclear enabled).2 ⟨some, .inr forbidden⟩
    cases known : (s.shaft k).posValid
    · refine ⟨s, same, ?_⟩
      simp only [State.standstillCheck, eval, known, Bool.false_eq_true, if_false]
    · have made : ∀ f, ((s.makePlan k 0).modShaft k f).shaft k =
          f { s.shaft k with plan := Option.some ((s.geometry k).plan (s.shaft k).clearSet (s.shaft k).pos 0) } := fun f => by
        rw [State.shaft_modShaft, if_pos ⟨rfl, inside⟩, State.makePlan, State.shaft_modShaft, if_pos ⟨rfl, inside⟩]
      have frame : ∀ f, ChangesOnly [.shafts] s ((s.makePlan k 0).modShaft k f) := fun f =>
        ChangesOnly.trans (State.makePlan_blank (by decide) s k 0) (State.modShaft_blank (by decide) _ k f)
      unfold State.standstillCheck State.attemptReapproach
      simp only [eval, known, if_true]
      rw [s.plannedDistance_makePlan k inside]
      cases plan : ((s.geometry k).plan (s.shaft k).clearSet (s.shaft k).pos 0).target with
      | none => exact ⟨_, ⟨frame _, _, _, _, made _⟩, rfl⟩
      | some p =>
        have may : s.mayReapproach k = false := barred.resolve_right (by simp [plan])
        rw [may]
        exact ⟨_, ⟨frame _, _, _, _, made _⟩, rfl⟩

end

end Sys2Proof.Machine
end

section
/-! O9, from the rules of the window, of the standstill check and of the delivery. -/

namespace Sys2Proof.Machine

theorem ShutterLive.answered_of_wait {x : ShutterLive} (wait : x.state = .releaseWait) (c : ShutterCfg) (now warned : Micros) (o : Outcome) :
    (x.answered c now warned o).clearance = none ∧
    (o = .clear → (x.answered c now warned o).state = .descending ∧ (x.answered c now warned o).command = some .release) ∧
    (o = .unclear → (x.answered c now warned o).state = .warning ∧ (x.answered c now warned o).warning = some warned) := by
  unfold ShutterLive.answered
  rw [if_pos wait]
  cases o
  · exact ⟨rfl, fun _ => ⟨rfl, rfl⟩, nofun⟩
  · exact ⟨rfl, nofun, fun _ => ⟨rfl, rfl⟩⟩

theorem ShutterLive.answered_clear {x : ShutterLive} (wait : x.state ∈ [ShutterState.releaseWait, .warning]) (c : ShutterCfg)
    (now warned : Micros) :
    (x.answered c now warned .clear).state = .descending ∧ (x.answered c now warned .clear).command = some .release := by
  have cases : x.state = .releaseWait ∨ x.state = .warning := by simpa using wait
  rcases cases with here | here
  · exact (ShutterLive.answered_of_wait here c now warned .clear).2.1 rfl
  · unfold ShutterLive.answered
    rw [if_neg (by simp [here]), if_pos ⟨here, rfl⟩]
    exact ⟨rfl, rfl⟩

section
variable {s t : State} {k : Nat} {e : Micros} {o : Outcome}

theorem State.shaft_rested (inside : k < 2) : (s.rested k e).shaft k = { s.shaft k with
    windowEnd := some (e + 100000), windowCount := 0, windowMoved := false, speed := 0, standstill := 3 } := by
  rw [State.rested, State.shaft_modShaft, if_pos ⟨rfl, inside⟩]; rfl

theorem State.rested_changes (s : State) (k : Nat) (e : Micros) : ChangesOnly [.shafts, .now] s (s.rested k e) :=
  ChangesOnly.trans (State.reach_blank (by decide) s e) (State.modShaft_blank (by decide) _ k _)

/-- A shaft whose standstill check ends in HELD (R29, R42, R49). -/
theorem standstill_holds (inside : k < 2) (enabled : s.shaftEnabled k = true) (result : t = (s.rested k e).standstillCheck k)
    (case : (o = .clear ∧ ((s.shaft k).clearSet = [] ∨ (s.shaft k).posValid = true ∧
          (s.geometry k).forbidden (s.shaft k).clearSet ((s.shaft k).pos % (s.geometry k).pitch) = false)) ∨
        (o = .unclear ∧ (s.shaft k).clearSet ≠ [] ∧ (s.shaft k).posValid = false) ∨
        (o = .unclear ∧ (s.shaft k).clearSet ≠ [] ∧
          (s.geometry k).forbidden (s.shaft k).clearSet ((s.shaft k).pos % (s.geometry k).pitch) = true ∧
          (s.mayReapproach k = false ∨ ((s.geometry k).plan (s.shaft k).clearSet (s.shaft k).pos 0).target = none))) :
    (t.shaft k).state = .held ∧ (t.shaft k).outcome = some o ∧ (t.shaft k).permit = false ∧
      (t.shaft k).brake = true ∧ (t.shaft k).reapproach = (s.shaft k).reapproach ∧
      (t.shaft k).heldReason = (s.shaft k).requestReason.or (s.shaft k).stopReason ∧
      t.net.mgmt.sticky.getLsbD 15 = true ∧
      ∀ i c, s.shutter i = some c → i ∈ s.shaftShutters k → (s.shaft k).zoneFlags.getLsbD c.zone = true →
        (s.shutterLive i).state = .releaseWait → (t.shutterLive i).clearance = none ∧
        (o = .clear → (t.shutterLive i).state = .descending ∧ (t.shutterLive i).command = some .release) ∧
        (o = .unclear → (t.shutterLive i).state = .warning ∧
          (t.shutterLive i).warning = some (max s.now e + 1000000 * (s.zoneCfg c.zone).warningTime)) := by
  have rest := State.shaft_rested (s := s) (e := e) inside
  have may : (s.rested k e).mayReapproach k = s.mayReapproach k := by
    have x := rest
    unfold State.mayReapproach
    rw [x]
    rfl
  obtain ⟨u, ⟨frame, p, a, b, planned⟩, held⟩ := State.standstillCheck_holds (s := s.rested k e) (k := k) (o := o) inside enabled
    (by rw [rest, may]; exact case)
  rw [held] at result
  have changes : ChangesOnly [.shafts, .now] s u := (s.rested_changes k e).trans (frame.mono (by decide))
  have now : u.now = max s.now e := by rw [frame.now]; rfl
  have answers := State.answers_enterHeld (s := u) (k := k) (o := o) inside
  have step := u.cores_enterHeld k o
  rw [← result] at answers step
  obtain ⟨l, shaft⟩ := State.shaft_of_modify inside step
  rw [planned, rest] at shaft
  rw [shaft]
  refine ⟨rfl, rfl, rfl, rfl, rfl, rfl, by rw [result]; exact State.enterHeld_flag, fun i c found mine flagged wait => ?_⟩
  have tables := changes.tables
  have found' : u.shutter i = some c := by rw [← found, State.shutter, tables]; rfl
  have mine' : i ∈ u.shaftShutters k := by
    have shutter : u.shutter = s.shutter := by unfold State.shutter; rw [tables]
    unfold State.shaftShutters
    rw [shutter]
    exact mine
  have flagged' : (u.shaft k).zoneFlags.getLsbD c.zone = true := by rw [planned, rest]; exact flagged
  have wait' : (u.shutterLive i).state = .releaseWait := by rw [State.shutterLive_of_shutters changes.shutters]; exact wait
  have zone : u.zoneCfg c.zone = s.zoneCfg c.zone := by rw [State.zoneCfg, tables]; rfl
  rw [answers i c found' mine' flagged', now, zone, sec, Nat.mul_comm]
  exact ShutterLive.answered_of_wait wait' c _ _ o

/-- A shaft whose standstill check starts a re-approach (R50). -/
theorem standstill_reapproaches {p : PlanTarget} (inside : k < 2) (enabled : s.shaftEnabled k = true)
    (result : t = (s.rested k e).standstillCheck k) (some : (s.shaft k).clearSet ≠ []) (known : (s.shaft k).posValid = true)
    (forbidden : (s.geometry k).forbidden (s.shaft k).clearSet ((s.shaft k).pos % (s.geometry k).pitch) = true)
    (may : s.mayReapproach k = true) (plan : ((s.geometry k).plan (s.shaft k).clearSet (s.shaft k).pos 0).target = Option.some p) :
    (t.shaft k).reapproach = (s.shaft k).reapproach + 1 ∧ (t.shaft k).outcome = none ∧
      (t.shaft k).reapproaches = bump (s.shaft k).reapproaches ∧
      (∀ i, t.shutterLive i = s.shutterLive i) ∧ ChangesOnly [.shafts, .net, .now] s t ∧
      ((s.geometry k).sc < p.distance → s.day.overdue = false → (t.shaft k).state = .clearing ∧
        (t.shaft k).permit = true ∧ (t.shaft k).creep = true ∧ (t.shaft k).brake = false ∧
        (t.shaft k).remaining = Option.some p.distance) ∧
      (p.distance ≤ (s.geometry k).sc → (t.shaft k).state = .stopping ∧ (t.shaft k).brake = true) := by
  have rest := State.shaft_rested (s := s) (e := e) inside
  have may' : (s.rested k e).mayReapproach k = true := by
    rw [← may]
    unfold State.mayReapproach
    rw [rest]
    rfl
  have eval : (s.rested k e).standingEval k = .unclear :=
    (State.standingEval_unclear (s := s.rested k e) enabled).2 (by rw [rest]; exact ⟨some, .inr forbidden⟩)
  have known' : ((s.rested k e).shaft k).posValid = true := by rw [rest]; exact known
  have attempt : t = (s.rested k e).attemptReapproach k := by
    rw [result]
    simp only [State.standstillCheck, eval, known', if_true]
  have changes : ChangesOnly [.shafts, .net] (s.rested k e) t := by
    have distance : (((s.rested k e).makePlan k 0).shaft k).plannedDistance = Option.some p.distance := by
      rw [State.plannedDistance_makePlan _ k inside, rest]
      exact congrArg (Option.map PlanTarget.distance) plan
    rw [attempt]
    unfold State.attemptReapproach
    dsimp only
    rw [distance, may']
    have moved : ∀ f, ChangesOnly [.shafts, .net] (s.rested k e) (((s.rested k e).makePlan k 0).modShaft k f) := fun f =>
      ChangesOnly.trans (State.makePlan_blank (by decide) _ k 0) (State.modShaft_blank (by decide) _ k f)
    exact (moved _).trans (State.enterClearing_blank (by decide) (by decide) _ k _)
  have frame : ChangesOnly [.shafts, .net, .now] s t := ((s.rested_changes k e).mono (by decide)).trans (changes.mono (by decide))
  have step := (s.rested k e).cores_attemptReapproach k inside
  rw [← attempt, may'] at step
  obtain ⟨l, shaft⟩ := State.shaft_of_modify inside step
  rw [rest] at shaft
  have approach : ∀ x : Shaft, x.clearSet = (s.shaft k).clearSet → x.pos = (s.shaft k).pos →
      x.reapproachOrHold (s.geometry k) s.day.overdue true = { x.planWith (s.geometry k) 0 with
        reapproach := x.reapproach + 1, outcome := none
        reapproaches := bump x.reapproaches }.startClearing (s.geometry k) s.day.overdue p.distance := fun x set pos => by
    unfold Shaft.reapproachOrHold
    rw [set, pos, plan]
    rfl
  have approached := approach ({ s.shaft k with
      windowEnd := Option.some (e + 100000), windowCount := 0, windowMoved := false, speed := 0, standstill := 3 } : Shaft).core rfl rfl
  replace shaft := shaft.trans (congrArg (fun x : Shaft => { x with landings := l }) approached)
  rw [shaft]
  unfold Shaft.startClearing
  dsimp only
  by_cases near : p.distance ≤ (s.geometry k).sc
  · rw [if_pos near]
    cases s.day.overdue <;>
      exact ⟨rfl, rfl, rfl, fun i => State.shutterLive_of_shutters frame.shutters i, frame, fun far => absurd near (Nat.not_le.2 far),
        fun _ => ⟨rfl, rfl⟩⟩
  · rw [if_neg near]
    cases s.day.overdue
    · exact ⟨rfl, rfl, rfl, fun i => State.shutterLive_of_shutters frame.shutters i, frame, fun _ _ => ⟨rfl, rfl, rfl, rfl, rfl⟩,
        fun close => absurd close near⟩
    · exact ⟨rfl, rfl, rfl, fun i => State.shutterLive_of_shutters frame.shutters i, frame,
        fun _ inTime => absurd inTime.symm Bool.false_ne_true, fun close => absurd close near⟩

/-- A count of a HELD shaft that changes its standing evaluation (R53). -/
theorem State.heldReevaluate_changed (inside : k < 2) (held : (s.shaft k).state = .held)
    (changed : (s.shaft k).outcome ≠ some (s.standingEval k)) (result : t = s.heldReevaluate k) :
    (t.shaft k).state = .held ∧ (t.shaft k).outcome = some (s.standingEval k) ∧
      (t.shaft k).heldReason = (s.shaft k).heldReason ∧ (t.shaft k).pos = (s.shaft k).pos ∧
      t.net.mgmt.sticky.getLsbD 15 = true ∧ ChangesOnly [.shafts, .shutters, .net] s t ∧ s.Answers t k (s.standingEval k) := by
  have step := s.cores_heldReevaluate k
  rw [← result] at step
  obtain ⟨l, shaft⟩ := State.shaft_of_modify inside step
  have told : t = (s.evaluateAndDeliver k).notifyHeld k := by rw [result, State.heldReevaluate, if_neg changed]
  have answers := State.answers_evaluateAndDeliver (s := s) inside
  have shutters : t.shutters = (s.evaluateAndDeliver k).shutters := by rw [told, State.notifyHeld, State.notify_shutters]
  rw [shaft]
  refine ⟨held, rfl, rfl, rfl, by rw [told]; exact State.notifyHeld_flag _ k, ?_, fun i c found mine flagged => ?_⟩
  · rw [result]; exact State.heldReevaluate_blank (by decide) (by decide) (by decide) s k
  · rw [State.shutterLive_of_shutters shutters]; exact answers i c found mine flagged

end

/-- Settles O9: the window's end is measured, then judged; the standstill check by the standing evaluation; a count in HELD by
whether the evaluation changes. -/
theorem speedWindowMeasuresAndGuards : Obligations.SpeedWindowMeasuresAndGuards := by
  refine ⟨fun k e s inside due => ⟨fun enabled => ?_, fun disabled => ?_⟩, fun k e s inside enabled due still empty long stopping => ?_,
    fun k s u inside enabled held counted => ?_⟩
  · exact ⟨_, exec_speedWindowEnd_eq due, windowEnd_enabled inside enabled rfl⟩
  · rw [exec_speedWindowEnd_eq due, State.endWindow_of_disabled (s := (s.reach e).modShaft k fun x =>
      { x with windowEnd := some (e + 100000) }) inside disabled, State.modShaft_modShaft]
  · have result := State.endWindow_of_rest (e := e) inside enabled still empty long stopping
    obtain ⟨-, -, -, -, -, third, -⟩ := windowEnd_enabled (e := e) inside enabled rfl
    refine ⟨_, exec_speedWindowEnd_eq due, ?_, fun o case => standstill_holds inside enabled result ?_,
      fun p some known forbidden few bar opened ready sound shutters plan => standstill_reapproaches inside enabled result some known
        forbidden ?_ plan⟩
    · rw [third, still]
      have three : min 3 ((s.shaft k).standstill + 1) = 3 := by omega
      rw [three]
      rfl
    · refine case.imp id (Or.imp id ?_)
      rintro ⟨unclear, some, forbidden, against⟩
      refine ⟨unclear, some, forbidden, ?_⟩
      rw [State.mayReapproach_false]
      rcases against with many | barred | closed | lost | failed | shut | none
      · exact .inl (.inl many)
      · exact .inl (.inr (.inl barred))
      · exact .inl (.inr (.inr (.inl closed)))
      · exact .inl (.inr (.inr (.inr (.inl lost))))
      · exact .inl (.inr (.inr (.inr (.inr (.inl failed)))))
      · exact .inl (.inr (.inr (.inr (.inr (.inr shut)))))
      · exact .inr none
    · rw [← Bool.not_eq_false, State.mayReapproach_false]
      rintro (many | barred | closed | lost | failed | ⟨i, mine, other⟩)
      · omega
      · rw [bar] at barred; exact Bool.false_ne_true barred
      · exact opened closed
      · rw [ready] at lost; exact Bool.false_ne_true lost.symm
      · rw [sound] at failed; exact Bool.false_ne_true failed
      · exact other (shutters i mine)
  · have counted : u = s.counted k := counted
    have shaft : u.shaft k = (s.shaft k).countForward (s.geometry k).L := by rw [counted]; exact State.shaft_counted inside
    have held' : (u.shaft k).state = .held := by rw [shaft]; exact held
    have outcome : (u.shaft k).outcome = (s.shaft k).outcome := by rw [shaft]; rfl
    have changes : ChangesOnly [.shafts] s u := by rw [counted]; exact s.counted_changes k
    have job : exec (.forwardCount k) s = .next (u.heldReevaluate k) := by
      rw [exec_forwardCount_eq enabled, ← counted]
      simp only [State.afterForward, held']
    rw [job]
    refine ⟨fun same => ?_, fun changed => ?_⟩
    · rw [State.heldReevaluate, if_pos (by rw [outcome]; exact same)]
    · obtain ⟨state, told, reason, pos, flag, frame, answers⟩ := State.heldReevaluate_changed inside held'
        (by rw [outcome]; exact changed) rfl
      refine ⟨_, rfl, state, told, by rw [reason, shaft]; rfl, pos, flag, (changes.mono (by decide)).trans frame,
        fun i c found mine flagged => ?_⟩
      have tables := changes.tables
      have found' : u.shutter i = some c := by rw [← found, State.shutter, tables]; rfl
      have mine' : i ∈ u.shaftShutters k := by
        have shutter : u.shutter = s.shutter := by unfold State.shutter; rw [tables]
        unfold State.shaftShutters
        rw [shutter]
        exact mine
      have live := State.shutterLive_of_shutters changes.shutters i
      rw [answers i c found' mine' (by rw [shaft]; exact flagged), live]
      refine ⟨fun wait clear => ?_, fun wait unclear => ?_⟩
      · rw [clear]; exact ShutterLive.answered_clear wait c _ _
      · exact ((ShutterLive.answered_of_wait wait c _ _ _).2.2 unclear).1

end Sys2Proof.Machine
end

section
/-! SETUP SHAFT and SETUP SILL (R15 to R17): O45. -/

namespace Sys2Proof.Machine

/-! ### The shaft's record under the writes of its tables (R17, R31) -/

namespace Shaft

/-- A shaft disabled (R17). -/
def disable (x : Shaft) (g : Geometry) : Shaft :=
  let y := { x with
    state := .idle, trip := none, posValid := false, permit := false, creep := false, brake := true
    homeTimer := none, advance := none, remaining := none, heldReason := none }
  if x.clearSet = [] then y else y.evaluated g

/-- A shaft enabled (R17, R31). -/
def enable (x : Shaft) (g : Geometry) : Shaft :=
  let y := { x with posValid := false, standstill := 0 }.standIdle
  let z := if x.clearSet = [] then y else y.evaluated g
  if x.fault then z.trips g.enabled .drive else z

variable {x : Shaft} {g : Geometry}

theorem status_trip {y : Shaft} (same : y.status = x.status) : y.state = x.state ∧ y.trip = x.trip := by
  simp only [status, Prod.mk.injEq] at same
  exact same.1

/-- A standing shaft, or one that is disabled, takes a clear set without leaving its state (section 3.5). -/
theorem status_takeSet (standing : g.enabled = false ∨ x.state = .idle ∨ x.state = .tripped) (overdue : Bool) (old : Shaft)
    (set : List Sill) : (x.takeSet g overdue old set).status = x.status := by
  unfold takeSet
  split
  · rfl
  · unfold actOnSet
    split
    · rfl
    · next enabled =>
      rcases standing with disabled | idle | tripped
      · exact absurd disabled enabled
      · simp [idle, evaluated, status]
      · simp only [tripped]
        split <;> simp [evaluated, status, tripped]

/-- What a shaft shows that is newly disabled or enabled (R17). -/
def Parked (x : Shaft) : Prop := x.state = .idle ∧ x.posValid = false ∧ x.permit = false ∧ x.brake = true

theorem parked_disable (x : Shaft) (g : Geometry) : (x.disable g).Parked := by
  unfold disable
  dsimp only
  split <;> exact ⟨rfl, rfl, rfl, rfl⟩

theorem parked_enable (fine : x.fault = false) (g : Geometry) : (x.enable g).Parked := by
  unfold enable
  simp only [fine, Bool.false_eq_true, if_false]
  split <;> exact ⟨rfl, rfl, rfl, rfl⟩

end Shaft

/-- A clear set recomputed leaves a standing shaft in its state (R17, R39). -/
theorem State.status_recomputeSet (s : State) (k : Nat) (inside : k < 2)
    (standing : (s.geometry k).enabled = false ∨ (s.shaft k).core.state = .idle ∨ (s.shaft k).core.state = .tripped) :
    ((s.recomputeSet k).shaft k).status = (s.shaft k).core.status :=
  (congrArg Shaft.status (State.core_of_modify inside (s.cores_recomputeSet k inside))).trans
    (Shaft.status_takeSet standing _ _ _)

section
variable (s : State) (k : Nat)

/-- A change that makes of each record what another makes of its core. -/
theorem State.cores_modShaft_as {f g : Shaft → Shaft} (as : ∀ x, (f x).core = g x.core) :
    (s.modShaft k f).cores = s.cores.modify k g := by
  apply Tab.ext'
  apply List.ext_getElem?
  intro j
  show (State.cores _).get? j = Tab.get? _ j
  simp only [State.cores, Tab.get?_map, State.modShaft_shafts, Tab.get?_modify]
  split
  · cases s.shafts.get? j with
    | none => rfl
    | some x => exact congrArg some (as x)
  · rfl

@[simp] theorem State.modLanding_geometry (l j : Nat) (f : LandingLive → LandingLive) :
    (s.modLanding k l f).geometry j = s.geometry j := rfl

theorem State.cores_disableShaft (inside : k < 2) :
    (s.disableShaft k).cores = s.cores.modify k fun x => x.disable (s.geometry k) := by
  unfold State.disableShaft
  dsimp only
  rw [State.closingCheck_cores, State.cores_ite, State.cores_evaluateAndDeliver, State.shaft_modShaft,
    s.cores_modShaft_as k (g := fun x => { x with
      state := .idle, trip := none, posValid := false, permit := false, creep := false, brake := true
      homeTimer := none, advance := none, remaining := none, heldReason := none }) fun _ => rfl, Tab.modify_modify]
  simp only [inside, and_self, if_true]
  split
  · next empty => exact s.cores_modify_congr k (if_pos empty).symm
  · next some => exact s.cores_modify_congr k (if_neg some).symm

/-- The first half of the enabling of a shaft: IDLE, the position INVALID, the lamps sent (R17). -/
def State.enabledIdle (s : State) (k : Nat) : State :=
  let s := s.modShaft k fun x => { x with posValid := false, standstill := 0 }
  let s := s.forEach (s.landings k) fun s l => s.modLanding k l fun x => { x with lamp := s.lampOf k l }
  let s := s.enterIdle k
  s.forEach (s.landings k) fun s l => s.sendLamp k l

/-- The set of a shaft answered, if it has one (R54). -/
def State.answerSet (s : State) (k : Nat) : State := if (s.shaft k).clearSet = [] then s else s.evaluateAndDeliver k

theorem State.enableShaft_eq : s.enableShaft k =
    (if (((s.enabledIdle k).answerSet k).shaft k).fault then ((s.enabledIdle k).answerSet k).tripShaft k .drive
      else (s.enabledIdle k).answerSet k).closingCheck := rfl

theorem State.cores_enabledIdle : (s.enabledIdle k).cores =
    s.cores.modify k fun x => { x with posValid := false, standstill := 0 }.standIdle := by
  unfold State.enabledIdle
  dsimp only
  rw [State.forEach_cores, State.cores_enterIdle, State.forEach_cores, State.cores_modShaft, Tab.modify_modify]
  · exact fun _ => rfl
  · exact fun _ _ => State.modLanding_cores ..
  · exact fun _ _ => State.sendLamp_cores ..

theorem State.cores_answerSet : (s.answerSet k).cores =
    s.cores.modify k fun x => if x.clearSet = [] then x else x.evaluated (s.geometry k) := by
  unfold State.answerSet
  rw [State.cores_ite, State.cores_evaluateAndDeliver]
  split
  · next empty => exact (s.cores_modify_self k (by rw [if_pos]; exact empty)).symm
  · next some => exact s.cores_modify_congr k (if_neg some).symm

theorem State.enabledIdle_changes : ChangesOnly [.shafts, .net] s (s.enabledIdle k) := by
  unfold State.enabledIdle
  simp [ChangesOnly]

theorem State.cores_enableShaft (inside : k < 2) :
    (s.enableShaft k).cores = s.cores.modify k fun x => x.enable (s.geometry k) := by
  have geometry : (s.enabledIdle k).geometry k = s.geometry k := State.geometry_of_changes (s.enabledIdle_changes k) k
  have later : ((s.enabledIdle k).answerSet k).shaftEnabled k = (s.geometry k).enabled := by
    have kept : ((s.enabledIdle k).answerSet k).geometry k = (s.enabledIdle k).geometry k := by
      unfold State.answerSet
      split
      · rfl
      · exact State.geometry_of_changes (F := [.shafts, .shutters, .net])
          (State.evaluateAndDeliver_blank (by decide) (by decide) (by decide) _ k) k
    rw [State.shaftEnabled, kept, geometry]
  have answered : ((s.enabledIdle k).answerSet k).cores = s.cores.modify k fun x =>
      if x.clearSet = [] then { x with posValid := false, standstill := 0 }.standIdle
      else ({ x with posValid := false, standstill := 0 }.standIdle).evaluated (s.geometry k) := by
    rw [State.cores_answerSet, State.cores_enabledIdle, Tab.modify_modify, geometry]
    rfl
  have fault : (((s.enabledIdle k).answerSet k).shaft k).fault = (s.shaft k).fault := by
    obtain ⟨l, after⟩ := State.shaft_of_modify inside answered
    rw [after]
    split <;> rfl
  rw [State.enableShaft_eq, State.closingCheck_cores, State.cores_ite, State.cores_trips, answered, Tab.modify_modify, later, fault]
  split
  · next raised => exact s.cores_modify_congr k (if_pos raised).symm
  · next fine => exact s.cores_modify_congr k (if_neg fine).symm

end

/-! ### The tables written (R16, R17) -/

section
variable (s : State) (k : Nat)

theorem State.geometry_writeGeometry (g : Geometry) (j : Nat) :
    (s.writeGeometry k g).geometry j = if k = j ∧ j < 2 then g else s.geometry j := by
  simp only [State.geometry, State.writeGeometry, Tab.getD_modify]
  split <;> rfl

theorem State.sills_writeGeometry (g : Geometry) (j : Nat) : (s.writeGeometry k g).sills j = s.sills j := by
  simp only [State.sills, State.writeGeometry, Tab.getD_modify]
  split <;> rfl

theorem State.sill_writeSill {i : Nat} (inside : k < 2 ∧ i < 24) (x : Option Sill) (j : Nat) :
    (s.writeSill k i x).sill k j = if i = j then x else s.sill k j := by
  simp only [State.sill, State.writeSill, Tab.getD_modify, inside, and_self, if_true, Tab.at?_set, and_true]

theorem State.geometry_writeSill (i j : Nat) (x : Option Sill) : (s.writeSill k i x).geometry j = s.geometry j := by
  simp only [State.geometry, State.writeSill, Tab.getD_modify]
  split <;> rfl

/-- The geometry written, and the position lost with a change of L, N or H (R17). -/
def State.regauged (s : State) (k : Nat) (o g : Geometry) : State :=
  let s := s.writeGeometry k g
  if o.L = g.L ∧ o.N = g.N ∧ o.H = g.H then s else s.modShaft k fun x => { x with posValid := false }

variable (o g : Geometry)

theorem State.applyShaft_off (on : o.enabled = true) (off : g.enabled = false) :
    s.applyShaft k o g = (s.regauged k o g).disableShaft k := by
  simp only [State.applyShaft, State.regauged, on, off]

theorem State.applyShaft_on (off : o.enabled = false) (on : g.enabled = true) :
    s.applyShaft k o g = (s.regauged k o g).enableShaft k := by
  simp only [State.applyShaft, State.regauged, on, off]

theorem State.applyShaft_same (same : o.enabled = g.enabled) :
    s.applyShaft k o g = ((s.regauged k o g).recomputeLamps k).recomputeSet k := by
  cases on : g.enabled <;> simp only [State.applyShaft, State.regauged, on, same]

theorem State.regauged_tables : (s.regauged k o g).tables = (s.writeGeometry k g).tables := by
  unfold State.regauged
  dsimp only
  split <;> rfl

theorem State.cores_regauged : (s.regauged k o g).cores = s.cores.modify k fun x =>
    { x with posValid := x.posValid && decide (o.L = g.L ∧ o.N = g.N ∧ o.H = g.H) } := by
  unfold State.regauged
  dsimp only
  split
  · next same => exact (s.cores_modify_self k (by simp [same])).symm
  · next moved =>
    rw [State.cores_modShaft]
    · exact State.cores_modify_congr (s := s) k (by simp [moved])
    · exact fun _ => rfl

theorem State.applyShaft_changes :
    ChangesOnly [.shafts, .shutters, .calls, .arbiters, .day, .net, .tokens] (s.regauged k o g) (s.applyShaft k o g) := by
  by_cases same : o.enabled = g.enabled
  · rw [s.applyShaft_same k o g same]; simp [ChangesOnly]
  · cases on : o.enabled with
    | true => rw [s.applyShaft_off k o g on (by rw [on] at same; simpa using Ne.symm same)]; simp [ChangesOnly]
    | false => rw [s.applyShaft_on k o g on (by rw [on] at same; simpa using Ne.symm same)]; simp [ChangesOnly]

theorem State.geometry_applyShaft (j : Nat) : (s.applyShaft k o g).geometry j = if k = j ∧ j < 2 then g else s.geometry j := by
  rw [State.geometry_of_changes (s.applyShaft_changes k o g) j, State.geometry, State.regauged_tables]
  exact s.geometry_writeGeometry k g j

theorem State.sills_applyShaft (j : Nat) : (s.applyShaft k o g).sills j = s.sills j := by
  rw [State.sills, (s.applyShaft_changes k o g).tables, State.regauged_tables]
  exact s.sills_writeGeometry k g j

variable {o g} (inside : k < 2)
include inside

theorem State.geometry_regauged : (s.regauged k o g).geometry k = g := by
  rw [State.geometry, State.regauged_tables]
  exact (s.geometry_writeGeometry k g k).trans (if_pos ⟨rfl, inside⟩)

/-- A standing shaft that stays enabled, or stays disabled, keeps its state; its position stays VALID unless L, N or H
change (R17). -/
theorem State.applyShaft_kept (same : o.enabled = g.enabled)
    (standing : g.enabled = false ∨ (s.shaft k).state = .idle ∨ (s.shaft k).state = .tripped) :
    ((s.applyShaft k o g).shaft k).status = (s.shaft k).status ∧
    ((s.applyShaft k o g).shaft k).posValid =
      ((s.shaft k).posValid && decide (o.L = g.L ∧ o.N = g.N ∧ o.H = g.H)) := by
  have lamps : ((s.regauged k o g).recomputeLamps k).cores = (s.regauged k o g).cores := State.recomputeLamps_cores ..
  have geometry : ((s.regauged k o g).recomputeLamps k).geometry k = g := by
    rw [State.geometry_of_changes (State.recomputeLamps_changes _ k) k, s.geometry_regauged k inside]
  have before := State.core_of_modify inside (lamps.trans (s.cores_regauged k o g))
  have after := State.core_of_modify inside (State.cores_recomputeSet ((s.regauged k o g).recomputeLamps k) k inside)
  rw [← s.applyShaft_same k o g same, before, geometry] at after
  constructor
  · refine (congrArg Shaft.status after).trans (.trans (Shaft.status_takeSet ?_ _ _ _) rfl)
    exact standing
  · exact (Shaft.status_of_gauge ((congrArg Shaft.gauge after).trans (Shaft.steady_takeSet _ g _ _ _).gauge)).2.1

theorem State.applyShaft_disabled (on : o.enabled = true) (off : g.enabled = false) : ((s.applyShaft k o g).shaft k).Parked := by
  have after := State.core_of_modify inside (State.cores_disableShaft (s.regauged k o g) k inside)
  rw [← s.applyShaft_off k o g on off] at after
  have parked := Shaft.parked_disable ((s.regauged k o g).shaft k).core ((s.regauged k o g).geometry k)
  rw [← after] at parked
  exact parked

theorem State.applyShaft_enabled (off : o.enabled = false) (on : g.enabled = true) (fine : (s.shaft k).fault = false) :
    ((s.applyShaft k o g).shaft k).Parked := by
  have before := State.core_of_modify inside (s.cores_regauged k o g)
  have after := State.core_of_modify inside (State.cores_enableShaft (s.regauged k o g) k inside)
  rw [← s.applyShaft_on k o g off on] at after
  have still : ((s.regauged k o g).shaft k).core.fault = false := by rw [before]; exact fine
  have parked := Shaft.parked_enable still ((s.regauged k o g).geometry k)
  rw [← after] at parked
  exact parked

end

/-! ### SETUP SHAFT: the first half of O45 -/

section
variable {s : State} {k : Nat} {r : Received}

theorem exec_setupShaft_eq {f : ShaftFields} (accepted : Accepted s .setup (some k) r) : exec (.setupShaft k f) s =
    .next (answer r.ticket ((s.takeHead r).setupShaft k f)) := by
  have job : exec (.setupShaft k f) s = .next (s.onRequest .setup (some k) fun s t => answer t (s.setupShaft k f)) := rfl
  rw [job, State.onRequest_accepted (by decide) accepted]

theorem State.shaftWritable_iff (s : State) (k : Nat) : s.shaftWritable k = true ↔
    s.shaftEnabled k = false ∨ (s.shaft k).state ∈ [ShaftState.idle, .tripped] := by
  unfold State.shaftWritable
  cases s.shaftEnabled k <;> cases (s.shaft k).state <;> simp

variable {f : ShaftFields}

theorem State.setupShaft_outside (outside : 2 ≤ k) : s.setupShaft k f = s.refuse .badIndex := by
  simp [State.setupShaft, outside]

section
variable (inside : k < 2)
include inside

theorem State.setupShaft_bad (bad : s.tables.shaftOk k (shaftDraft (s.geometry k) f) = false) :
    s.setupShaft k f = s.refuse .badValue := by
  simp [State.setupShaft, Nat.not_le.2 inside, bad]

theorem State.setupShaft_held (ok : s.tables.shaftOk k (shaftDraft (s.geometry k) f) = true) (held : s.shaftWritable k = false) :
    s.setupShaft k f = s.refuse .refusedState := by
  simp [State.setupShaft, Nat.not_le.2 inside, ok, held]

variable (ok : s.tables.shaftOk k (shaftDraft (s.geometry k) f) = true) (free : s.shaftWritable k = true)
include ok free

theorem State.setupShaft_slow (slow : (shaftDraft (s.geometry k) f).clamp.Vmax ≤ (shaftDraft (s.geometry k) f).clamp.Vc) :
    s.setupShaft k f = s.refuse .badValue := by
  simp [State.setupShaft, Nat.not_le.2 inside, ok, free, slow]

theorem State.setupShaft_written (fast : (shaftDraft (s.geometry k) f).clamp.Vc < (shaftDraft (s.geometry k) f).clamp.Vmax) :
    s.setupShaft k f = (if s.geometry k = (shaftDraft (s.geometry k) f).clamp then s
      else s.applyShaft k (s.geometry k) (shaftDraft (s.geometry k) f).clamp).carried
        (decide ((shaftDraft (s.geometry k) f).clamp ≠ shaftDraft (s.geometry k) f)) := by
  unfold State.setupShaft
  dsimp only
  rw [if_neg (Nat.not_le.2 inside), if_neg (by simp [ok]), if_neg (by simp [free]), if_neg (Nat.not_le.2 fast)]
  split <;> rfl

end

/-- SETUP SHAFT of a shaft that may be written (R15, R17). -/
theorem State.setupShaft_spec {s : State} {k : Nat} {f : ShaftFields} {g : Geometry} (inside : k < 2)
    (ok : s.tables.shaftOk k (shaftDraft (s.geometry k) f) = true) (free : s.shaftWritable k = true)
    (fast : g.Vc < g.Vmax) (clamp : g = (shaftDraft (s.geometry k) f).clamp) : ∃ mid : State,
    s.setupShaft k f = (mid, (if g = shaftDraft (s.geometry k) f then .done else .clamped), .none) ∧
    mid.geometry k = g ∧ (∀ j, j ≠ k → mid.geometry j = s.geometry j) ∧ (∀ j, mid.sills j = s.sills j) ∧
    ((s.geometry k).enabled = true → g.enabled = true →
      (mid.shaft k).state = (s.shaft k).state ∧ (mid.shaft k).trip = (s.shaft k).trip ∧
      (mid.shaft k).posValid = ((s.shaft k).posValid &&
        decide ((s.geometry k).L = g.L ∧ (s.geometry k).N = g.N ∧ (s.geometry k).H = g.H))) ∧
    ((s.geometry k).enabled = true → g.enabled = false → (mid.shaft k).Parked) ∧
    ((s.geometry k).enabled = false → g.enabled = true → (s.shaft k).fault = false → (mid.shaft k).Parked) ∧
    ChangesOnly [.tables, .shafts, .shutters, .calls, .arbiters, .day, .net, .tokens] s mid := by
  have status : (if decide (g ≠ shaftDraft (s.geometry k) f) = true then Status.clamped else .done) =
      if g = shaftDraft (s.geometry k) f then .done else .clamped := by
    by_cases same : g = shaftDraft (s.geometry k) f <;> simp [same]
  refine ⟨if s.geometry k = g then s else s.applyShaft k (s.geometry k) g, ?_, ?_⟩
  · subst clamp
    rw [State.setupShaft_written inside ok free fast, State.carried, status]
  · split
    · next same =>
      refine ⟨same, fun _ _ => rfl, fun _ => rfl, fun _ _ => ⟨rfl, rfl, by simp [same]⟩, fun on off => ?_, fun off on => ?_, rfl⟩
      · rw [same, off] at on; cases on
      · rw [same, on] at off; cases off
    · refine ⟨?_, fun j other => ?_, s.sills_applyShaft k _ g, fun was on => ?_, fun was off => ?_, fun was on fine => ?_, ?_⟩
      · rw [s.geometry_applyShaft k _ g, if_pos ⟨rfl, inside⟩]
      · rw [s.geometry_applyShaft k _ g, if_neg fun both => other both.1.symm]
      · have standing := (s.shaftWritable_iff k).1 free
        rw [State.shaftEnabled, was] at standing
        have kept := s.applyShaft_kept k inside (was.trans on.symm) (.inr (by simpa using standing))
        obtain ⟨state, trip⟩ := Shaft.status_trip kept.1
        exact ⟨state, trip, kept.2⟩
      · exact s.applyShaft_disabled k inside was off
      · exact s.applyShaft_enabled k inside was on fine
      · exact State.applyShaft_blank (by decide) (by decide) (by decide) (by decide) (by decide) (by decide) (by decide) (by decide) s k _ g

end

/-! ### SETUP SILL: the second half of O45 -/

section
variable {s : State} {k i : Nat} {r : Received}

theorem exec_setupSill_eq {w : Write SillFields} (accepted : Accepted s .setup none r) : exec (.setupSill k i w) s =
    .next (answer r.ticket ((s.takeHead r).setupSill k i w)) := by
  have job : exec (.setupSill k i w) s = .next (s.onRequest .setup none fun s t => answer t (s.setupSill k i w)) := rfl
  rw [job, State.onRequest_accepted (by decide) accepted]

/-- The fields that give a sill record whole. -/
def Sill.fields (x : Sill) : SillFields :=
  { position := some x.position, landing := some x.landing, side := .val x.side, station := some x.station }

theorem State.setupSill_outside (outside : 2 ≤ k ∨ 24 ≤ i) (x : Sill) :
    s.setupSill k i (.fields x.fields) = s.refuse .badIndex := by
  simp only [State.setupSill, Sill.fields, reduceCtorEq, or_self, and_false, if_false, outside, if_true]

theorem State.setupSill_free_outside (outside : 2 ≤ k ∨ 24 ≤ i) : s.setupSill k i .free = s.refuse .badIndex := by
  simp only [State.setupSill, outside, if_true]

theorem Tab.any_cells_iff {α : Type} {n : Nat} (t : Tab (Option α) n) (p : α → Bool) :
    (t.cells.any fun x => x.any p) = true ↔ ∃ i a, t.at? i = some a ∧ p a = true := by
  rw [List.any_eq_true]
  constructor
  · rintro ⟨x, mem, holds⟩
    obtain ⟨i, found⟩ := List.getElem?_of_mem mem
    cases x with
    | none => cases holds
    | some a => exact ⟨i, a, by simp [Tab.at?, Tab.get?, found], holds⟩
  · rintro ⟨i, a, found, good⟩
    exact ⟨some a, Tab.mem_cells_of_at? found, good⟩

/-- A write strands a landing that a shutter names when no sill is left on it (R16). -/
theorem State.sillStrands_iff (inside : k < 2 ∧ i < 24) (x : Option Sill) : s.sillStrands k i x = true ↔
    ∃ j c l, s.shutter j = some c ∧ c.landing = some l ∧ l.shaft = k ∧
      ∀ n y, (if n = i then x else s.sill k n) = some y → y.landing ≠ l.landing := by
  have sills : ∀ l : LandingRef, l.shaft = k → ((s.writeSill k i x).tables.hasSill l = false ↔
      ∀ n y, (if n = i then x else s.sill k n) = some y → y.landing ≠ l.landing) := by
    rintro l rfl
    unfold Tables.hasSill
    rw [← Bool.not_eq_true, Tab.any_cells_iff]
    push Not
    refine forall₂_congr fun n y => ?_
    have read : (((s.writeSill l.shaft i x).tables.shafts.getD l.shaft {}).sills.at? n) = if n = i then x else s.sill l.shaft n := by
      have written := s.sill_writeSill l.shaft inside x n
      simp only [eq_comm (a := i)] at written
      exact written
    rw [read]
    simp
  unfold State.sillStrands
  dsimp only
  rw [Tab.any_cells_iff]
  refine exists₂_congr fun j c => ?_
  constructor
  · rintro ⟨named, strands⟩
    cases landing : c.landing with
    | none => simp [landing] at strands
    | some l =>
      simp only [landing, Option.any_some, Bool.and_eq_true, decide_eq_true_eq, Bool.not_eq_true'] at strands
      exact ⟨l, named, rfl, strands.1, (sills l strands.1).1 strands.2⟩
  · rintro ⟨l, named, landing, shaft, none⟩
    refine ⟨named, ?_⟩
    simp only [landing, Option.any_some, Bool.and_eq_true, decide_eq_true_eq, Bool.not_eq_true']
    exact ⟨shaft, (sills l shaft).2 none⟩

section
variable (inside : k < 2) (sill : i < 24)
include inside sill

/-- A sill record written, its landing afresh, and the lamps redrawn (R17, R32). -/
def State.resilled (s : State) (k i : Nat) (x : Option Sill) : State :=
  let before := s.landings k
  let s := s.writeSill k i x
  let after := s.landings k
  let s := s.forEach ((List.range 12).filter fun l => before.contains l != after.contains l) fun s l =>
    s.modLanding k l fun _ => {}
  (s.evaluateDegraded k).recomputeLamps k

omit inside sill in
theorem State.applySill_eq (x : Option Sill) : s.applySill k i x = (s.resilled k i x).recomputeSet k := rfl

omit inside sill in
theorem State.resilled_changes (x : Option Sill) : ChangesOnly [.shafts, .net] (s.writeSill k i x) (s.resilled k i x) := by
  unfold State.resilled
  simp [ChangesOnly]

omit inside sill in
theorem State.cores_resilled (x : Option Sill) : ∃ silent, (s.resilled k i x).cores = s.cores.modify k fun y =>
    if y.state = .running ∨ y.state = .lastRun then { y with degraded := silent, creep := silent } else y := by
  unfold State.resilled
  dsimp only
  generalize first : State.forEach (s.writeSill k i x) _ _ = t
  have cores : t.cores = s.cores := by
    rw [← first, State.forEach_cores]
    · rfl
    · exact fun _ _ => State.modLanding_cores ..
  exact ⟨t.landingSilent k, by rw [State.recomputeLamps_cores, State.cores_evaluateDegraded, cores]⟩

/-- What the write of a sill record makes of the shaft that stands (R17). -/
theorem State.applySill_spec (x : Option Sill) (free : s.shaftWritable k = true) :
    (s.applySill k i x).sill k i = x ∧ (∀ j, j ≠ i → (s.applySill k i x).sill k j = s.sill k j) ∧
    (s.applySill k i x).geometry k = s.geometry k ∧ ((s.applySill k i x).shaft k).state = (s.shaft k).state ∧
    ChangesOnly [.tables, .shafts, .shutters, .net] s (s.applySill k i x) := by
  have tables : (s.applySill k i x).tables = (s.writeSill k i x).tables :=
    ChangesOnly.tables (F := [.shafts, .shutters, .net]) (.trans
      ((State.resilled_changes x).mono (by decide))
      (State.recomputeSet_blank (by decide) (by decide) (by decide) (s.resilled k i x) k))
  have record : ∀ j, (s.applySill k i x).sill k j = if i = j then x else s.sill k j := fun j => by
    rw [State.sill, tables]
    exact s.sill_writeSill k ⟨inside, sill⟩ x j
  have geometry : (s.resilled k i x).geometry k = s.geometry k := by
    rw [State.geometry_of_changes (State.resilled_changes x) k, s.geometry_writeSill k i k x]
  obtain ⟨silent, cores⟩ := State.cores_resilled (s := s) (k := k) (i := i) x
  have before := State.core_of_modify inside cores
  refine ⟨(record i).trans (if_pos rfl), fun j other => (record j).trans (if_neg (Ne.symm other)), ?_, ?_, ?_⟩
  · rw [State.geometry, tables]
    exact s.geometry_writeSill k i k x
  · have same : ((s.resilled k i x).shaft k).core.state = (s.shaft k).state := by
      rw [before]
      split <;> rfl
    have standing := (s.shaftWritable_iff k).1 free
    rw [State.shaftEnabled, ← geometry, ← same] at standing
    rw [State.applySill_eq]
    exact (Shaft.status_trip (State.status_recomputeSet _ k inside (by simpa using standing))).1.trans same
  · exact State.applySill_blank (by decide) (by decide) (by decide) (by decide) s k i x

theorem State.setupSill_fields (x : Sill) : s.setupSill k i (.fields x.fields) =
    if s.tables.sillOk k i x = false then s.refuse .badValue
    else if s.sillStrands k i (some x) = true ∨ s.shaftWritable k = false then s.refuse .refusedState
    else (if s.sill k i = some x then s else s.applySill k i (some x)).carried false := by
  have draft : sillDraft (s.sill k i) x.fields = some x := rfl
  have outside : ¬ (2 ≤ k ∨ 24 ≤ i) := by omega
  unfold State.setupSill
  simp only [draft, outside, if_false]
  simp only [Sill.fields, reduceCtorEq, or_self, and_false, if_false, Bool.not_eq_true', Bool.or_eq_true]
  split
  · rfl
  · split
    · rfl
    · split <;> rfl

theorem State.setupSill_free : s.setupSill k i .free =
    if s.sill k i = none then (if s.shaftWritable k then s.carried false else s.refuse .refusedState)
    else if s.sillStrands k i none = true ∨ s.shaftWritable k = false then s.refuse .refusedState
    else (s.applySill k i none).carried false := by
  have outside : ¬ (2 ≤ k ∨ 24 ≤ i) := by omega
  unfold State.setupSill
  simp only [outside, if_false]
  cases here : s.sill k i with
  | none => simp only [if_true]
  | some x => simp only [reduceCtorEq, if_false, Bool.not_eq_true', Bool.or_eq_true]

variable (free : s.shaftWritable k = true)
include free

theorem State.setupSill_written {x : Sill} (ok : s.tables.sillOk k i x = true) (kept : s.sillStrands k i (some x) = false) :
    ∃ mid : State, s.setupSill k i (.fields x.fields) = (mid, .done, .none) ∧ mid.sill k i = some x ∧
    (∀ j, j ≠ i → mid.sill k j = s.sill k j) ∧ mid.geometry k = s.geometry k ∧
    (mid.shaft k).state = (s.shaft k).state ∧ ChangesOnly [.tables, .shafts, .shutters, .net] s mid := by
  refine ⟨if s.sill k i = some x then s else s.applySill k i (some x), ?_, ?_⟩
  · rw [State.setupSill_fields inside sill, if_neg (by simp [ok]), if_neg (by simp [kept, free])]; rfl
  · split
    · next same => exact ⟨same, fun _ _ => rfl, rfl, rfl, rfl⟩
    · exact State.applySill_spec inside sill (some x) free

theorem State.setupSill_freed (used : s.sill k i ≠ none) (kept : s.sillStrands k i none ≠ true) :
    ∃ mid : State, s.setupSill k i .free = (mid, .done, .none) ∧ mid.sill k i = none ∧
    (∀ j, j ≠ i → mid.sill k j = s.sill k j) ∧ mid.geometry k = s.geometry k ∧
    (mid.shaft k).state = (s.shaft k).state ∧ ChangesOnly [.tables, .shafts, .shutters, .net] s mid := by
  refine ⟨s.applySill k i none, ?_, State.applySill_spec inside sill none free⟩
  rw [State.setupSill_free inside sill, if_neg used, if_neg (by simp [kept, free])]; rfl

end

end

/-- Settles O45: the table of the branches of SETUP SHAFT, then that of SETUP SILL, written and freed. -/
theorem setupShaftAndSillWriteTheGeometry : Obligations.SetupShaftAndSillWriteTheGeometry := by
  unfold Obligations.SetupShaftAndSillWriteTheGeometry
  refine ⟨?_, ?_⟩
  · rintro s s₁ r k rfl
    generalize taken : s.takeHead r = s₁
    refine ⟨fun f d g accepted draft clamp => ?_, fun i x f accepted fields => ?_⟩
    · have job := exec_setupShaft_eq (f := f) accepted
      rw [taken] at job
      have clamped : g = (shaftDraft (s₁.geometry k) f).clamp := by rw [clamp, draft]; rfl
      subst draft
      rw [job]
      refine ⟨fun outside => ?_, fun inside bad => ?_, fun inside ok enabled moving => ?_,
        fun inside ok free => ⟨fun slow => ?_, fun fast => ?_⟩⟩
      · rw [State.setupShaft_outside outside]; rfl
      · rw [State.setupShaft_bad inside bad]; rfl
      · have held : s₁.shaftWritable k = false := by
          rw [← Bool.not_eq_true, State.shaftWritable_iff]; simp [enabled, moving]
        rw [State.setupShaft_held inside ok held]; rfl
      · rw [State.setupShaft_slow inside ok ((s₁.shaftWritable_iff k).2 free) (by rw [← clamped]; exact slow)]; rfl
      · obtain ⟨mid, step, spec⟩ := State.setupShaft_spec inside ok ((s₁.shaftWritable_iff k).2 free) fast clamped
        exact ⟨mid, by rw [step]; rfl, spec⟩
    · have job := exec_setupSill_eq (k := k) (i := i) (w := .fields x.fields) accepted
      rw [taken] at job
      have fields : f = x.fields := fields
      rw [fields, job]
      refine ⟨fun outside => ?_, fun inside sill bad => ?_, fun inside sill ok kept free => ?_, fun inside sill ok enabled moving => ?_⟩
      · rw [State.setupSill_outside outside x]; rfl
      · rw [State.setupSill_fields inside sill, if_pos bad]; rfl
      · obtain ⟨mid, step, spec⟩ := State.setupSill_written inside sill ((s₁.shaftWritable_iff k).2 free) ok kept
        exact ⟨mid, by rw [step]; rfl, spec⟩
      · have held : s₁.shaftWritable k = false := by
          rw [← Bool.not_eq_true, State.shaftWritable_iff]; simp [enabled, moving]
        rw [State.setupSill_fields inside sill, if_neg (by simp [ok]), if_pos (.inr held)]; rfl
  · rintro k i s s₁ r stands strands new rfl accepted stands_iff strands_iff
    generalize taken : s.takeHead r = s₁ at stands_iff strands_iff ⊢
    have job := exec_setupSill_eq (k := k) (i := i) (w := .free) accepted
    rw [taken] at job
    rw [← State.shaftWritable_iff] at stands_iff
    rw [job]
    refine ⟨fun outside => ?_, fun inside sill => ⟨fun empty stand => ?_, fun moving => ?_, fun used none strand => ?_,
      fun used none kept stand => ?_, fun x some ok strand => ?_⟩⟩
    · rw [State.setupSill_free_outside outside]; rfl
    · rw [State.setupSill_free inside sill, if_pos empty, if_pos (stands_iff.1 stand)]; rfl
    · have held : s₁.shaftWritable k = false := by rw [← Bool.not_eq_true, ← stands_iff]; exact moving
      rw [State.setupSill_free inside sill]
      simp only [held, Bool.false_eq_true, if_false, or_true, if_true, ite_self]
      rfl
    · subst none
      rw [← State.sillStrands_iff ⟨inside, sill⟩] at strands_iff
      rw [State.setupSill_free inside sill, if_neg used, if_pos (.inl (strands_iff.1 strand))]; rfl
    · subst none
      rw [← State.sillStrands_iff ⟨inside, sill⟩] at strands_iff
      obtain ⟨mid, step, spec⟩ := State.setupSill_freed inside sill (stands_iff.1 stand) used (mt strands_iff.2 kept)
      exact ⟨mid, by rw [step]; rfl, spec⟩
    · subst some
      rw [← State.sillStrands_iff ⟨inside, sill⟩] at strands_iff
      have write := exec_setupSill_eq (k := k) (i := i) (w := .fields x.fields) accepted
      rw [taken, State.setupSill_fields inside sill, if_neg (by simp [ok]), if_pos (.inl (strands_iff.1 strand))] at write
      exact write

end Sys2Proof.Machine
end

section
/-! The steps that neither move a chain nor free a trip: what they measure nothing of, whose outputs they leave right, and whose
trip they leave latched (R15, R18, R30). -/

namespace Sys2Proof.Machine

/-! ### The relation -/

/-- The fields that no shaft's own record, geometry or enabling is read from. -/
abbrev quiet : List Field :=
  [.stations, .unknownSource, .mismatchDrop, .points, .unknownPoint, .zones, .shutters, .unknownDrive, .calls, .arbiters, .clock,
   .day, .playback, .net, .exchange, .settings, .store, .pending, .now, .draws, .tokens]

/-- A step that leaves the geometries and, of each shaft, what it measures, right outputs and a latched trip. It reads no
field that is `quiet`, and is stated of states without them. -/
structure State.Calm (s t : State) : Prop where
  inPlace : t.inPlace = s.inPlace
  geometry : ∀ k, t.geometry k = s.geometry k
  shaft : ∀ k, Shaft.Steady (s.shaft k).core (t.shaft k).core

section
variable {s₀ s t : State} {k : Nat}

theorem State.calm_blank (s t : State) : s.Calm (t.blank quiet) ↔ s.Calm t :=
  ⟨fun h => ⟨h.inPlace, h.geometry, h.shaft⟩, fun h => ⟨h.inPlace, h.geometry, h.shaft⟩⟩

@[simp] theorem State.Calm.refl (s : State) : s.Calm (s.blank quiet) :=
  (s.calm_blank s).2 ⟨rfl, fun _ => rfl, fun _ => .refl _⟩

/-- A further step that is calm. -/
theorem State.Calm.then (before : s₀.Calm (s.blank quiet)) (next : s.Calm t) : s₀.Calm (t.blank quiet) :=
  have before := (State.calm_blank _ _).1 before
  (State.calm_blank _ _).2 ⟨next.inPlace.trans before.inPlace, fun k => (next.geometry k).trans (before.geometry k),
    fun k => (before.shaft k).trans (next.shaft k)⟩

@[simp] theorem State.calm_ite {c : Prop} [Decidable c] :
    s₀.Calm (if c then s else t) ↔ (c → s₀.Calm s) ∧ (¬ c → s₀.Calm t) := by
  by_cases holds : c <;> simp [holds]

/-- A change of one shaft that is steady. -/
theorem State.calm_modify {f : Shaft → Shaft} (changes : ChangesOnly (.shafts :: quiet) s t) (cores : t.cores = s.cores.modify k f)
    (steady : Shaft.Steady (s.shaft k).core (f (s.shaft k).core)) : s.Calm t := by
  refine ⟨changes.inPlace, fun j => State.geometry_of_changes changes j (by decide), fun j => ?_⟩
  by_cases same : j = k
  · subst same
    by_cases inside : j < 2
    · rw [State.core_of_modify inside cores]; exact steady
    · have outside : ∀ u : State, u.shaft j = {} := fun u => Tab.getD_eq_of_le _ (Nat.le_of_not_lt inside) _
      rw [outside, outside]; exact .refl _
  · rw [State.core_of_modify_other cores same]; exact .refl _

theorem State.calm_of_cores (changes : ChangesOnly (.shafts :: quiet) s t) (cores : t.cores = s.cores) : s.Calm t :=
  ⟨changes.inPlace, fun j => State.geometry_of_changes changes j (by decide),
    fun j => by rw [State.core_shaft cores]; exact .refl _⟩

/-- A step that changes no field that is read. -/
theorem State.calm_of_quiet (same : t.blank quiet = s.blank quiet) : s.Calm t :=
  (State.calm_blank _ _).1 (by rw [same]; exact .refl s)

theorem State.calm_foldl {α : Type} {f : State → α → State} (each : ∀ (t : State) a, t.Calm ((f t a).blank quiet)) (l : List α)
    (before : s₀.Calm (s.blank quiet)) : s₀.Calm ((l.foldl f s).blank quiet) := by
  induction l generalizing s with
  | nil => exact before
  | cons a l ih => exact ih (before.then ((State.calm_blank _ _).1 (each s a)))

@[simp] theorem State.calm_forEach {f : State → Nat → State} {is : List Nat} (each : ∀ (t : State) i, t.Calm ((f t i).blank quiet))
    (before : s₀.Calm (s.blank quiet)) : s₀.Calm ((s.forEach is f).blank quiet) :=
  State.calm_foldl each is before

end

/-! ### Operations that change no shaft's own record -/

section
variable {s₀ s : State} (before : s₀.Calm (s.blank quiet))
include before

@[simp] theorem State.calm_modLanding (k l : Nat) (f : LandingLive → LandingLive) : s₀.Calm ((s.modLanding k l f).blank quiet) :=
  before.then (State.calm_of_cores (by simp [ChangesOnly]) (State.modLanding_cores s k l f))

@[simp] theorem State.calm_sendLamp (k l : Nat) : s₀.Calm ((s.sendLamp k l).blank quiet) :=
  before.then (State.calm_of_cores (by simp [ChangesOnly]) (State.sendLamp_cores s k l))

@[simp] theorem State.calm_recomputeLamps (k : Nat) : s₀.Calm ((s.recomputeLamps k).blank quiet) :=
  before.then (State.calm_of_cores (by simp [ChangesOnly]) (State.recomputeLamps_cores s k))

@[simp] theorem State.calm_recomputeAllLamps : s₀.Calm ((s.recomputeAllLamps).blank quiet) :=
  before.then (State.calm_of_cores (by simp [ChangesOnly]) (State.recomputeAllLamps_cores s))

@[simp] theorem State.calm_recomputeLampAt (r : Option LandingRef) : s₀.Calm ((s.recomputeLampAt r).blank quiet) :=
  before.then (State.calm_of_cores (by simp [ChangesOnly]) (State.recomputeLampAt_cores s r))

@[simp] theorem State.calm_enterMode (m : StoreMode) (src : ModeSource) : s₀.Calm ((s.enterMode m src).blank quiet) :=
  before.then (State.calm_of_cores (by simp [ChangesOnly]) (State.enterMode_cores s m src))

@[simp] theorem State.calm_closingCheck : s₀.Calm ((s.closingCheck).blank quiet) :=
  before.then (State.calm_of_cores (by simp [ChangesOnly]) (State.closingCheck_cores s))

@[simp] theorem State.calm_setShutter (i : Nat) (st : ShutterState) : s₀.Calm ((s.setShutter i st).blank quiet) :=
  before.then (State.calm_of_cores (by simp [ChangesOnly]) (State.setShutter_cores s i st))

@[simp] theorem State.calm_setFault (i : Nat) (f : ShutterFault) (on : Bool) : s₀.Calm ((s.setFault i f on).blank quiet) :=
  before.then (State.calm_of_cores (by simp [ChangesOnly]) (State.setFault_cores s i f on))

@[simp] theorem State.calm_openShutter (i : Nat) : s₀.Calm ((s.openShutter i).blank quiet) :=
  before.then (State.calm_of_cores (by simp [ChangesOnly]) (State.openShutter_cores s i))

@[simp] theorem State.calm_requestRelease (i : Nat) : s₀.Calm ((s.requestRelease i).blank quiet) :=
  before.then (State.calm_of_cores (by simp [ChangesOnly]) (State.requestRelease_cores s i))

@[simp] theorem State.calm_requestReleases (z : Nat) : s₀.Calm ((s.requestReleases z).blank quiet) :=
  before.then (State.calm_of_cores (by simp [ChangesOnly]) (State.requestReleases_cores s z))

@[simp] theorem State.calm_isolateShutter (i : Nat) : s₀.Calm ((s.isolateShutter i).blank quiet) :=
  before.then (State.calm_of_cores (by simp [ChangesOnly]) (State.isolateShutter_cores s i))

@[simp] theorem State.calm_setZone (z : Nat) (st : ZoneState) : s₀.Calm ((s.setZone z st).blank quiet) :=
  before.then (State.calm_of_cores (by simp [ChangesOnly]) (State.setZone_cores s z st))

@[simp] theorem State.calm_enterAlert (z : Nat) (knock : Option Nat) : s₀.Calm ((s.enterAlert z knock).blank quiet) :=
  before.then (State.calm_of_cores (by simp [ChangesOnly]) (State.enterAlert_cores s z knock))

@[simp] theorem State.calm_shutterFromPosition (i : Nat) (p : CurtainPos) : s₀.Calm ((s.shutterFromPosition i p).blank quiet) :=
  before.then (State.calm_of_cores (by simp [ChangesOnly]) (State.shutterFromPosition_cores s i p))

@[simp] theorem State.calm_reportRelease (i : Nat) (p : CurtainPos) : s₀.Calm ((s.reportRelease i p).blank quiet) :=
  before.then (State.calm_of_cores (by simp [ChangesOnly]) (State.reportRelease_cores s i p))

@[simp] theorem State.calm_reportRaise (i : Nat) (p : CurtainPos) : s₀.Calm ((s.reportRaise i p).blank quiet) :=
  before.then (State.calm_of_cores (by simp [ChangesOnly]) (State.reportRaise_cores s i p))

@[simp] theorem State.calm_reportIdle (i : Nat) (c : ShutterCfg) (p : CurtainPos) : s₀.Calm ((s.reportIdle i c p).blank quiet) :=
  before.then (State.calm_of_cores (by simp [ChangesOnly]) (State.reportIdle_cores s i c p))

@[simp] theorem State.calm_driveLoss (i : Nat) : s₀.Calm ((s.driveLoss i).blank quiet) :=
  before.then (State.calm_of_cores (by simp [ChangesOnly]) (State.driveLoss_cores s i))

@[simp] theorem State.calm_driveRegain (i : Nat) : s₀.Calm ((s.driveRegain i).blank quiet) :=
  before.then (State.calm_of_cores (by simp [ChangesOnly]) (State.driveRegain_cores s i))

end

end Sys2Proof.Machine
end

section
/-! The operations of chapters 2, 3 and 8 on the shafts are calm: each is steady on the shaft it names (R18 to R55, R141 to
R145). -/

namespace Sys2Proof.Machine

/-! ### A shaft that the part does not have -/

section
variable {s : State} {k : Nat} (outside : 2 ≤ k)
include outside

theorem State.cores_modify_outside (f : Shaft → Shaft) : s.cores.modify k f = s.cores :=
  Tab.modify_eq_self fun a here => by rw [Tab.get?_eq_none _ outside] at here; cases here

theorem State.shaftEnabled_outside : s.shaftEnabled k = false := by
  rw [State.shaftEnabled, State.geometry, Tab.getD_eq_of_le _ outside]

theorem State.cores_clearSetEvent_outside (old : Shaft) : (s.clearSetEvent k old).cores = s.cores := by
  have taken : (s.modShaft k fun x => { x with clearSet := s.computeClearSet k }).cores = s.cores := by
    rw [State.cores_modShaft, State.cores_modify_outside outside]
    exact fun _ => rfl
  have acted : ∀ t : State, (t.actOnSet k).cores = t.cores := fun t => by
    unfold State.actOnSet
    dsimp only
    rw [if_pos (State.shaftEnabled_outside outside), State.cores_evaluateAndDeliver, State.cores_modify_outside outside]
  unfold State.clearSetEvent
  dsimp only
  rw [State.cores_ite, acted, taken, ite_self]

end

section
variable {s₀ s : State} (before : s₀.Calm (s.blank quiet)) (k : Nat)
include before

/-! ### Trips, clear sets and requests -/

@[simp] theorem State.calm_tripShaft (c : TripCause) : s₀.Calm ((s.tripShaft k c).blank quiet) :=
  before.then (State.calm_modify
    (by simp [ChangesOnly])
    (s.cores_trips k c) (Shaft.steady_trips _ _ c))

@[simp] theorem State.calm_tripLanding (c : TripCause) (r : Option LandingRef) : s₀.Calm ((s.tripLanding c r).blank quiet) := by
  cases r with
  | none => exact before
  | some r => exact State.calm_tripShaft before r.shaft c

@[simp] theorem State.calm_recomputeSet : s₀.Calm ((s.recomputeSet k).blank quiet) := by
  have changes : ChangesOnly (.shafts :: quiet) s (s.recomputeSet k) :=
    State.recomputeSet_blank (by decide) (by decide) (by decide) s k
  by_cases inside : k < 2
  · exact before.then (State.calm_modify changes (s.cores_recomputeSet k inside) (Shaft.steady_takeSet _ _ _ _ _))
  · exact before.then (State.calm_of_cores changes (State.cores_clearSetEvent_outside (Nat.le_of_not_lt inside) _))

@[simp] theorem State.calm_setZoneFlag (z : Nat) (on : Bool) : s₀.Calm ((s.setZoneFlag k z on).blank quiet) := by
  have changes : ChangesOnly (.shafts :: quiet) s (s.setZoneFlag k z on) :=
    State.setZoneFlag_blank (by decide) (by decide) (by decide) s k z on
  by_cases inside : k < 2
  · obtain ⟨flags, cores⟩ := s.cores_setZoneFlag k inside z on
    exact before.then (State.calm_modify changes cores (.after (Shaft.steady_takeSet _ _ _ _ _) rfl rfl))
  · refine before.then (State.calm_of_cores changes ?_)
    unfold State.setZoneFlag
    dsimp only
    rw [State.cores_clearSetEvent_outside (Nat.le_of_not_lt inside), State.cores_modShaft,
      State.cores_modify_outside (Nat.le_of_not_lt inside)]
    exact fun _ => rfl

@[simp] theorem State.calm_evaluateDegraded : s₀.Calm ((s.evaluateDegraded k).blank quiet) :=
  before.then (State.calm_modify (by simp [ChangesOnly])
    (s.cores_evaluateDegraded k) (Shaft.steady_degrade _ _))

/-! ### Orders of the Day Sequencer -/

@[simp] theorem State.calm_lastRunOrder : s₀.Calm ((s.lastRunOrder k).blank quiet) := by
  refine before.then (State.calm_modify (by simp [ChangesOnly])
    (s.cores_lastRunOrder k) ?_)
  split
  · next here => exact Shaft.steady_startLastRun (by simp [here]) _ _
  · exact .refl _

@[simp] theorem State.calm_finalStop : s₀.Calm ((s.finalStop k).blank quiet) :=
  before.then (State.calm_modify (by simp [ChangesOnly])
    (s.cores_finalStop k) (Shaft.steady_finalStop _))

variable {k} (inside : k < 2)
include inside

@[simp] theorem State.calm_requestPark (o : ParkOrigin) : s₀.Calm ((s.requestPark k o).blank quiet) :=
  before.then (State.calm_modify
    (by simp [ChangesOnly])
    (s.cores_requestPark k inside o) (Shaft.steady_requestPark _ _ _ _ o))

@[simp] theorem State.calm_withdrawPark : s₀.Calm ((s.withdrawPark k).blank quiet) :=
  before.then (State.calm_modify
    (by simp [ChangesOnly])
    (s.cores_withdrawPark k inside) (Shaft.steady_withdrawPark _ _ _ _))

@[simp] theorem State.calm_parkHoming : s₀.Calm ((s.parkHoming k).blank quiet) :=
  before.then (State.calm_modify
    (by simp [ChangesOnly])
    (s.cores_parkHoming k inside) (Shaft.steady_parkHoming _ _ _ _))

@[simp] theorem State.calm_closeWaitShaft : s₀.Calm ((s.closeWaitShaft k).blank quiet) := by
  unfold State.closeWaitShaft
  split
  · exact State.calm_finalStop before k
  · exact State.calm_finalStop before k
  · exact State.calm_finalStop before k
  · exact State.calm_parkHoming before inside
  · exact before

/-- A LAST_RUN that returns to RUNNING (R27, R145). -/
theorem State.calm_returnToRunning (running : (s.shaft k).state = .lastRun) :
    s₀.Calm ((((s.modShaft k fun x => { x with bar := false, advance := none }).enterService k .running)).blank quiet) := by
  have changes : ChangesOnly (.shafts :: quiet) s
      ((s.modShaft k fun x => { x with bar := false, advance := none }).enterService k .running) := by simp [ChangesOnly]
  have cores : ((s.modShaft k fun x => { x with bar := false, advance := none }).enterService k .running).cores =
      s.cores.modify k fun x => { x with bar := false, advance := none }.serve .running (s.landingSilent k) := by
    rw [State.cores_enterService, State.cores_modShaft, Tab.modify_modify]
    · rfl
    · exact fun _ => rfl
  have left : (s.shaft k).core.state ≠ .tripped := by
    have same : (s.shaft k).core.state = (s.shaft k).state := rfl
    simp [same, running]
  exact before.then (State.calm_modify changes cores
    (.after (Shaft.steady_serve (x := { (s.shaft k).core with bar := false, advance := none }) left (.inl rfl) _) rfl rfl))

@[simp] theorem State.calm_cancelOrder : s₀.Calm ((s.cancelOrder k).blank quiet) := by
  unfold State.cancelOrder
  dsimp only
  have withdrawn : ∀ t : State, s₀.Calm (t.blank quiet) →
      s₀.Calm ((if (t.shaft k).park = some .day then t.withdrawPark k else t).blank quiet) := fun t first => by
    split
    · exact State.calm_withdrawPark first inside
    · exact first
  apply withdrawn
  split
  · next here => exact State.calm_returnToRunning before inside (by simp at here; exact here.2)
  · exact before

end

end Sys2Proof.Machine
end

section
/-! The jobs of chapters 1, 2, 4, 5 and 8 are calm: a zone in alarm, a shutter's report, a mode action, a frame heard. -/

namespace Sys2Proof.Machine

section
variable {s₀ s : State} (before : s₀.Calm (s.blank quiet))
include before

/-! ### Zones (chapter 4) -/

@[simp] theorem State.calm_raiseFlags (z : Nat) : s₀.Calm ((s.raiseFlags z).blank quiet) := by
  unfold State.raiseFlags; simp [before]

@[simp] theorem State.calm_enterAlarm (z : Nat) (cause : AlarmCause) (p : AlarmPoint) :
    s₀.Calm ((s.enterAlarm z cause p).blank quiet) := by
  have named : ∀ t : State, s₀.Calm (t.blank quiet) → s₀.Calm ((((t.setZone z .alarm).requestReleases z).raiseFlags z).blank quiet) :=
    fun t h => State.calm_raiseFlags (State.calm_requestReleases (State.calm_setZone h z .alarm) z) z
  unfold State.enterAlarm
  simp [before, named]

@[simp] theorem State.calm_report (z i : Nat) (isNew : Bool) (c : ReportClass) :
    s₀.Calm ((s.report z i isNew c).blank quiet) := by
  unfold State.report
  split
  · unfold State.reportNormal; split <;> simp [before]
  · unfold State.reportAlert; (repeat' split) <;> simp [before]
  · unfold State.reportAlarm; split <;> simp [before]
  · unfold State.reportReentry; split <;> simp [before]
  · unfold State.reportReentry; split <;> simp [before]
  · exact before

@[simp] theorem State.calm_localDrop (z i : Nat) : s₀.Calm ((s.localDrop z i).blank quiet) := by
  unfold State.localDrop; split <;> simp [before]

@[simp] theorem State.calm_detect (sender : Option Nat) (payload : List Byte) :
    s₀.Calm ((s.detect sender payload).blank quiet) := by
  unfold State.detect; dsimp only; (repeat' split) <;> simp [before]

@[simp] theorem State.calm_completeReset (z : Nat) : s₀.Calm ((s.completeReset z).blank quiet) := by
  have lowered := State.calm_forEach (is := [0, 1]) (fun t k => State.calm_setZoneFlag (.refl t) k z false) before
  unfold State.completeReset; simp [lowered]

@[simp] theorem State.calm_completionCheck (z : Nat) : s₀.Calm ((s.completionCheck z).blank quiet) := by
  have lowered := State.calm_forEach (is := [0, 1]) (f := fun s k =>
      if (s.shaft k).zoneFlags.getLsbD z &&
          ((s.shaftShutters k).filter fun i => decide (s.shutterZone i = z)).all s.shutterDone
      then s.setZoneFlag k z false else s) (fun t k => by split <;> simp) before
  unfold State.completionCheck
  split
  · dsimp only
    split
    · exact State.calm_completeReset lowered z
    · exact lowered
  · exact before

@[simp] theorem State.calm_orderSilence (z : Nat) : s₀.Calm ((s.orderSilence z).1.blank quiet) := by
  unfold State.orderSilence; (repeat' split) <;> simp [before]

@[simp] theorem State.calm_resetShutter (i : Nat) : s₀.Calm ((s.resetShutter i).blank quiet) := by
  have dropped : ∀ t : State, s₀.Calm (t.blank quiet) → ∀ (b : Bool) (r : Option LandingRef),
      s₀.Calm ((if b then t.tripLanding .localDrop r else t).blank quiet) := fun t h b r => by split <;> simp [h]
  unfold State.resetShutter
  split
  · exact before
  · dsimp only
    split
    · split
      · simp [before]
      · exact State.calm_setShutter (dropped _ (by simp [before]) _ _) i .unknown
    · split
      · simp [before]
      · exact State.calm_setShutter (dropped _ (by simp [before]) _ _) i .unknown
    all_goals simp [before]

@[simp] theorem State.calm_orderResetZone (z : Nat) : s₀.Calm ((s.orderResetZone z).1.blank quiet) := by
  have retried := State.calm_forEach (is := s.zoneShutters z) (f := State.retryShutter)
    (fun t i => by unfold State.retryShutter; split <;> simp) before
  have reset : s₀.Calm (((s.setZone z .resetting).forEach ((s.setZone z .resetting).zoneShutters z) State.resetShutter).blank quiet) :=
    State.calm_forEach (fun t i => State.calm_resetShutter (.refl t) i) (State.calm_setZone before z .resetting)
  have checked : ∀ t : State, s₀.Calm (t.blank quiet) → ∀ old, s₀.Calm
      (((((t.updateSounders z).settlePlayback).notifyZone z old).completionCheck z).blank quiet) := fun t h old =>
    State.calm_completionCheck (by simp [h]) z
  unfold State.orderResetZone
  dsimp only
  split
  · exact before
  · cases (s.zone z).state with
    | normal | alert | isolated => exact before
    | alarm | silenced =>
      simp only [reduceCtorEq, if_false]
      split
      · exact before
      · dsimp only; exact checked _ reset _
    | resetting =>
      simp only [if_true]
      split
      · exact before
      · exact State.calm_completionCheck retried z

@[simp] theorem State.calm_orderIsolate (z : Nat) : s₀.Calm ((s.orderIsolate z).1.blank quiet) := by
  have isolated : ∀ t : State, s₀.Calm (t.blank quiet) → s₀.Calm
      (((t.setZone z .isolated).forEach ((t.setZone z .isolated).zoneShutters z) State.isolateShutter).blank quiet) := fun t h =>
    State.calm_forEach (fun t i => State.calm_isolateShutter (.refl t) i) (State.calm_setZone h z .isolated)
  unfold State.orderIsolate
  dsimp only
  (repeat' split) <;> simp [before, isolated]

/-! ### Shutters (chapter 5) -/

@[simp] theorem State.calm_uncommanded (i : Nat) (c : ShutterCfg) (p : CurtainPos) :
    s₀.Calm ((s.uncommanded i c p).blank quiet) := by
  have positioned : ∀ f, s₀.Calm ((((s.tripLanding .localDrop c.landing).modShutter i f).shutterFromPosition i p).blank quiet) :=
    fun f => State.calm_shutterFromPosition (by simp [before]) i p
  unfold State.uncommanded
  simp [positioned]

@[simp] theorem State.calm_shutterReport (i : Nat) (c : ShutterCfg) (r : DriveReport) :
    s₀.Calm ((s.shutterReport i c r).blank quiet) := by
  have isolated : ∀ t : State, s₀.Calm (t.blank quiet) → ∀ prev, s₀.Calm ((t.reportIsolated i c prev r).blank quiet) :=
    fun t h prev => by unfold State.reportIsolated; dsimp only; split <;> simp [h]
  have active : ∀ t : State, s₀.Calm (t.blank quiet) → s₀.Calm ((t.reportActive i c r).blank quiet) :=
    fun t h => by unfold State.reportActive; (repeat' split) <;> simp [h]
  unfold State.shutterReport
  simp [before, isolated, active]

@[simp] theorem State.calm_shutstat (sender : Option Nat) (payload : List Byte) :
    s₀.Calm ((s.shutstat sender payload).blank quiet) := by
  unfold State.shutstat; dsimp only; (repeat' split) <;> simp [before]

@[simp] theorem State.calm_rederive (i : Nat) : s₀.Calm ((s.rederive i).1.blank quiet) := by
  unfold State.rederive; dsimp only; (repeat' split) <;> simp [before]

@[simp] theorem State.calm_reportAnew (i : Nat) : s₀.Calm ((s.reportAnew i).blank quiet) := by
  unfold State.reportAnew; (repeat' split) <;> simp [before]

theorem State.calm_rederiveFold (is drops : List Nat) : s₀.Calm ((is.foldl rederiveStep (s, drops)).1.blank quiet) := by
  induction is generalizing s drops with
  | nil => exact before
  | cons i is ih => exact ih (State.calm_rederive before i) _

@[simp] theorem State.calm_rederiveZone (z : Nat) : s₀.Calm ((s.rederiveZone z).blank quiet) :=
  State.calm_forEach (fun t i => State.calm_localDrop (.refl t) z i) (State.calm_rederiveFold before _ _)

@[simp] theorem State.calm_orderRestore (z : Nat) : s₀.Calm ((s.orderRestore z).1.blank quiet) := by
  have notified : s₀.Calm (((s.setZone z .normal).notifyZone z .isolated).blank quiet) := by simp [before]
  have rederived := State.calm_rederiveZone notified z
  unfold State.orderRestore
  split
  · exact before
  · split
    · dsimp only
      generalize ((s.setZone z .normal).notifyZone z .isolated).rederiveZone z = t at rederived ⊢
      have reported : s₀.Calm ((t.forEach (t.zonePoints z) State.reportAnew).blank quiet) :=
        State.calm_forEach (fun t i => State.calm_reportAnew (.refl t) i) rederived
      simp [reported]
    · exact before

/-! ### The trading day (chapter 8) -/

@[simp] theorem State.calm_beginClosing (src : ModeSource) : s₀.Calm ((s.beginClosing src).blank quiet) := by
  unfold State.beginClosing; simp [before]

@[simp] theorem State.calm_lastCall (src : ModeSource) : s₀.Calm ((s.lastCall src).blank quiet) :=
  State.calm_lastRunOrder (State.calm_lastRunOrder (State.calm_enterMode before .lastCall src) 0) 1

@[simp] theorem State.calm_closeStore (src : ModeSource) (a : Announcement) : s₀.Calm ((s.closeStore src a).blank quiet) := by
  unfold State.closeStore; simp [before]

@[simp] theorem State.calm_cancelClosing (src : ModeSource) : s₀.Calm ((s.cancelClosing src).blank quiet) := by
  have cancelled := State.calm_cancelOrder (State.calm_cancelOrder before (k := 0) (by decide)) (k := 1) (by decide)
  unfold State.cancelClosing
  simp [cancelled]

theorem State.calm_modeAction {m : ModeAction} {src : ModeSource} {a : Announcement} {t : State}
    (acts : s.modeAction m src a = some t) : s₀.Calm (t.blank quiet) := by
  have begun := State.calm_beginClosing before src
  unfold State.modeAction at acts
  split at acts
  case h_6 =>
    split at acts <;> cases acts
    exact State.calm_closeStore before src a
  all_goals cases acts
  all_goals simp [before, begun]

theorem State.calm_fireAction {i : Nat} {x : ScheduleEntry} {t : State} (acts : s.fireAction i x = some t) :
    s₀.Calm (t.blank quiet) := by
  unfold State.fireAction at acts
  split at acts
  · exact State.calm_modeAction before acts
  · split at acts
    · split at acts <;> cases acts <;> simp [before]
    · cases acts; simp [before]

@[simp] theorem State.calm_fireEntry (i : Nat) : s₀.Calm ((s.fireEntry i).blank quiet) := by
  unfold State.fireEntry
  split
  · exact before
  · split
    · next x _ _ =>
      dsimp only
      generalize stamped : s.modDay _ = u
      have calm : s₀.Calm (u.blank quiet) := by rw [← stamped]; simp [before]
      cases acts : u.fireAction i x with
      | none => simp [calm]
      | some t => simp [State.calm_fireAction calm acts]
    · exact before

@[simp] theorem State.calm_minuteEvent : s₀.Calm (s.minuteEvent.blank quiet) := by
  unfold State.minuteEvent
  split
  · exact State.calm_forEach (fun t i => State.calm_fireEntry (.refl t) i) before
  · exact before

@[simp] theorem State.calm_orderStoreMode (f : Option ModeFields) : s₀.Calm ((s.orderStoreMode f).1.blank quiet) := by
  unfold State.orderStoreMode
  split
  · exact before
  · split
    · split
      · exact before
      · dsimp only
        split
        · next acts => exact State.calm_modeAction before acts
        · exact before
    · exact before

/-! ### Stations and frames (chapters 1 and 10) -/

@[simp] theorem State.calm_landingStationChanged (i : Nat) (regain : Bool) :
    s₀.Calm ((s.landingStationChanged i regain).blank quiet) := by
  have judged := fun k => State.calm_evaluateDegraded before k
  unfold State.landingStationChanged
  split
  · exact before
  · split
    · dsimp only; split <;> simp [judged]
    · exact before

@[simp] theorem State.calm_handLoss (i : Nat) (r : Role) : s₀.Calm ((s.handLoss i r).blank quiet) := by
  unfold State.handLoss; split <;> simp [before]

@[simp] theorem State.calm_handRegain (i : Nat) (r : Role) : s₀.Calm ((s.handRegain i r).blank quiet) := by
  unfold State.handRegain; split <;> simp [before]

@[simp] theorem State.calm_becomePresent (i : Nat) (r : Role) (old : Presence) :
    s₀.Calm ((s.becomePresent i r old).blank quiet) := by
  unfold State.becomePresent; split <;> simp [before]

@[simp] theorem State.calm_becomeMismatch (i : Nat) (r : Role) (old : Presence) :
    s₀.Calm ((s.becomeMismatch i r old).blank quiet) := by
  unfold State.becomeMismatch; split <;> simp [before]

@[simp] theorem State.calm_becomeMissing (i : Nat) (r : Role) (old : Presence) :
    s₀.Calm ((s.becomeMissing i r old).blank quiet) := by
  unfold State.becomeMissing; simp [before]

@[simp] theorem State.calm_beatFrom (i : Nat) (c : StationCfg) (role abil status : Byte) :
    s₀.Calm ((s.beatFrom i c role abil status).blank quiet) := by
  unfold State.beatFrom; dsimp only; (repeat' split) <;> simp [before]

@[simp] theorem State.calm_hearFrom (i : Nat) (c : StationCfg) : s₀.Calm ((s.hearFrom i c).blank quiet) := by
  unfold State.hearFrom; simp [before]

@[simp] theorem State.calm_tableTakes (r : Received) : s₀.Calm ((s.tableTakes r).blank quiet) := by
  unfold State.tableTakes; dsimp only; (repeat' split) <;> simp [before]

@[simp] theorem State.calm_takeHead (r : Received) : s₀.Calm ((s.takeHead r).blank quiet) := by
  unfold State.takeHead; simp [before]

@[simp] theorem State.calm_landingReport (sender : Option Nat) (sill stop : Bool) :
    s₀.Calm ((s.landingReport sender sill stop).blank quiet) := by
  have counted : ∀ k, s₀.Calm ((s.unmatchedLanding k).blank quiet) := fun k =>
    before.then (State.calm_modify (by simp [ChangesOnly])
      (State.cores_modShaft s k fun _ => rfl) (.of_status rfl rfl))
  unfold State.landingReport
  (repeat' split) <;> simp [before, counted]

/-- A step that takes a tapped frame to its job is calm if the job is (R170). -/
theorem State.calm_onHead {job : State → Received → State} (head : Option Received)
    (calm : ∀ (t : State) r, s₀.Calm (t.blank quiet) → s₀.Calm ((job t r).blank quiet)) :
    s₀.Calm ((s.onHead head job).blank quiet) := by
  unfold State.onHead
  split
  · exact before
  · next r =>
    have taken := State.calm_takeHead before r
    dsimp only
    split
    · exact calm _ r taken
    · exact taken.then (State.calm_of_quiet (by simp))

/-- A request is calm if what it asks for is (R179). -/
theorem State.calm_onRequest {want : FrameStep} {object : Option Nat} {act : State → Ticket → State}
    (calm : ∀ (t : State) k, s₀.Calm (t.blank quiet) → s₀.Calm ((act t k).blank quiet)) :
    s₀.Calm ((s.onRequest want object act).blank quiet) :=
  State.calm_onHead before _ fun t r h => by
    unfold State.judgeRequest
    dsimp only
    split
    · simp [h]
    · split
      · simp [h]
      · split
        · simp [h]
        · split
          · simp [h]
          · exact calm _ _ h

end

end Sys2Proof.Machine
end

section
/-! The SETUPs of chapter 11 that write no geometry, and the orders, are calm (R180). -/

namespace Sys2Proof.Machine

section
variable {s₀ s : State} (before : s₀.Calm (s.blank quiet))
include before

/-- A write of another table than that of the shafts. -/
theorem State.calm_withTables {x : Tables} (same : ∀ k, (x.shafts.getD k {}).geometry = s.geometry k) :
    s₀.Calm (({ s with tables := x } : State).blank quiet) :=
  before.then ⟨rfl, same, fun _ => .refl _⟩

@[simp] theorem State.calm_writeStation (i : Nat) (c : Option StationCfg) : s₀.Calm ((s.writeStation i c).blank quiet) :=
  State.calm_withTables before fun _ => rfl

@[simp] theorem State.calm_writePoint (i : Nat) (c : Option PointCfg) : s₀.Calm ((s.writePoint i c).blank quiet) :=
  State.calm_withTables before fun _ => rfl

@[simp] theorem State.calm_writeShutter (i : Nat) (c : Option ShutterCfg) : s₀.Calm ((s.writeShutter i c).blank quiet) :=
  State.calm_withTables before fun _ => rfl

@[simp] theorem State.calm_writeRoute (i : Nat) (r : Option Route) : s₀.Calm ((s.writeRoute i r).blank quiet) :=
  State.calm_withTables before fun _ => rfl

@[simp] theorem State.calm_writeSchedule (i : Nat) (x : Option ScheduleEntry) : s₀.Calm ((s.writeSchedule i x).blank quiet) :=
  State.calm_withTables before fun _ => rfl

@[simp] theorem State.calm_writeSill (k i : Nat) (x : Option Sill) : s₀.Calm ((s.writeSill k i x).blank quiet) :=
  State.calm_withTables before fun j => s.geometry_writeSill k i j x

/-! ### Stations (R4 to R6) -/

@[simp] theorem State.calm_partWith (i : Nat) (c : StationCfg) : s₀.Calm ((s.partWith i c).blank quiet) := by
  unfold State.partWith; split <;> simp [before]

@[simp] theorem State.calm_rewriteStation (i : Nat) (old c : StationCfg) :
    s₀.Calm ((s.rewriteStation i old c).blank quiet) := by
  unfold State.rewriteStation; dsimp only; (repeat' split) <;> simp [before]

@[simp] theorem State.calm_applyStation (i : Nat) (old : Option StationCfg) (c : StationCfg) :
    s₀.Calm ((s.applyStation i old c).blank quiet) := by
  have parted := fun o => State.calm_partWith before i o
  unfold State.applyStation
  (repeat' split) <;> simp [before, parted]

@[simp] theorem State.calm_freeStation (i : Nat) (o : StationCfg) : s₀.Calm ((s.freeStation i o).blank quiet) := by
  unfold State.freeStation; simp [before]

@[simp] theorem State.calm_setupStation (i : Nat) (w : Write StationFields) :
    s₀.Calm ((s.setupStation i w).1.blank quiet) := by
  unfold State.setupStation State.refuse State.carried
  dsimp only
  (repeat' split) <;> simp [before]

/-! ### Points and shutters (R57, R58, R77, R78) -/

@[simp] theorem State.calm_applyPoint (i : Nat) (old : Option PointCfg) (c : PointCfg) :
    s₀.Calm ((s.applyPoint i old c).blank quiet) := by
  unfold State.applyPoint; dsimp only; (repeat' split) <;> simp [before]

@[simp] theorem State.calm_setupPoint (i : Nat) (w : Write PointFields) : s₀.Calm ((s.setupPoint i w).1.blank quiet) := by
  unfold State.setupPoint State.refuse State.carried
  dsimp only
  (repeat' split) <;> simp [before]

@[simp] theorem State.calm_shutterRefs (old new : Option ShutterCfg) : s₀.Calm ((s.shutterRefs old new).blank quiet) :=
  State.calm_forEach (fun t k => State.calm_recomputeSet (State.calm_recomputeLamps (.refl t) k) k) before

@[simp] theorem State.calm_moveShutter (i : Nat) (c : ShutterCfg) : s₀.Calm ((s.moveShutter i c).1.blank quiet) := by
  unfold State.moveShutter; dsimp only; (repeat' split) <;> simp [before]

@[simp] theorem State.calm_applyShutter (i : Nat) (old : Option ShutterCfg) (c : ShutterCfg) :
    s₀.Calm ((s.applyShutter i old c).blank quiet) := by
  have written := State.calm_writeShutter before i (some c)
  have moved := State.calm_moveShutter written i c
  have told : ∀ (t : State) (drop : Bool), s₀.Calm (t.blank quiet) → s₀.Calm
      ((if drop then (t.shutterRefs old (some c)).localDrop c.zone i else t.shutterRefs old (some c)).blank quiet) :=
    fun t drop h => by split <;> simp [h]
  unfold State.applyShutter
  dsimp only
  split
  · split
    · exact told _ _ moved
    · exact told _ _ written
  · simp [written]

@[simp] theorem State.calm_setupShutter (i : Nat) (w : Write ShutterFields) :
    s₀.Calm ((s.setupShutter i w).1.blank quiet) := by
  unfold State.setupShutter State.refuse State.carried
  dsimp only
  (repeat' split) <;> simp [before]

/-! ### Sills, and the tables of no shaft (R16, R62, R98, R137, R173, R181) -/

@[simp] theorem State.calm_applySill (k i : Nat) (x : Option Sill) : s₀.Calm ((s.applySill k i x).blank quiet) := by
  have written := State.calm_writeSill before k i x
  have fresh : ∀ is, s₀.Calm (((s.writeSill k i x).forEach is fun s l => s.modLanding k l fun _ => {}).blank quiet) :=
    fun is => State.calm_forEach (fun t l => State.calm_modLanding (.refl t) k l _) written
  exact State.calm_recomputeSet (State.calm_recomputeLamps (State.calm_evaluateDegraded (fresh _) k) k) k

@[simp] theorem State.calm_setupSill (k i : Nat) (w : Write SillFields) : s₀.Calm ((s.setupSill k i w).1.blank quiet) := by
  unfold State.setupSill State.refuse State.carried
  dsimp only
  (repeat' split) <;> simp [before]

@[simp] theorem State.calm_setupZone (z : Nat) (f : ZoneFields) : s₀.Calm ((s.setupZone z f).1.blank quiet) := by
  have written : ∀ c, s₀.Calm (({ s with tables := { s.tables with zones := s.tables.zones.set z c } } : State).blank quiet) :=
    fun c => State.calm_withTables before fun _ => rfl
  unfold State.setupZone State.refuse State.carried
  dsimp only
  (repeat' split) <;> simp [before, written]

@[simp] theorem State.calm_setupRoute (i : Nat) (w : Write RouteFields) : s₀.Calm ((s.setupRoute i w).1.blank quiet) := by
  unfold State.setupRoute State.refuse State.carried
  dsimp only
  (repeat' split) <;> simp [before]

@[simp] theorem State.calm_setupSchedule (i : Nat) (w : Write ScheduleFields) :
    s₀.Calm ((s.setupSchedule i w).1.blank quiet) := by
  unfold State.setupSchedule State.refuse State.carried
  dsimp only
  (repeat' split) <;> simp [before]

@[simp] theorem State.calm_setupPort (p : Nat) (f : PortFields) : s₀.Calm ((s.setupPort p f).1.blank quiet) := by
  have written : ∀ c, s₀.Calm (({ s with tables := { s.tables with ports := s.tables.ports.set p c } } : State).blank quiet) :=
    fun c => State.calm_withTables before fun _ => rfl
  unfold State.setupPort State.refuse State.carried
  dsimp only
  (repeat' split) <;> simp [before, written]

@[simp] theorem State.calm_setupGlobal (i : Nat) (w : GlobalWrite) : s₀.Calm ((s.setupGlobal i w).1.blank quiet) := by
  have settings : ∀ f, s₀.Calm ((s.setupSettings f).1.blank quiet) := fun f => by
    have written : ∀ g, s₀.Calm (({ s with tables := { s.tables with globals := g } } : State).blank quiet) :=
      fun g => State.calm_withTables before fun _ => rfl
    unfold State.setupSettings State.refuse State.carried
    dsimp only
    (repeat' split) <;> simp [before, written]
  have notice : ∀ n f, s₀.Calm ((s.setupNotice n f).1.blank quiet) := fun n f => by
    have written : ∀ c, s₀.Calm (({ s with tables := { s.tables with notices := s.tables.notices.set n c } } : State).blank quiet) :=
      fun c => State.calm_withTables before fun _ => rfl
    unfold State.setupNotice State.refuse State.carried
    dsimp only
    (repeat' split) <;> simp [before, written]
  unfold State.setupGlobal State.refuse
  (repeat' split) <;> simp [before, settings, notice]

end

end Sys2Proof.Machine
end

section
/-! Every command but those that gauge a shaft, write its geometry, free it or reset the part is calm (R20 to R23, R31, R36, R37). -/

namespace Sys2Proof.Machine

/-- The commands that gauge a shaft, write its geometry, free it or reset the part. -/
def reworksShafts : Instr → Bool
  | .forwardCount _ | .backwardCount _ | .homeMark _ | .readyLost _ | .readyGained _ | .faultRaised _ | .faultCleared _
  | .speedWindowEnd _ | .setupShaft _ _ | .resetShaft _ | .powerOn | .resetPin | .autoloadEnd _ | .restartTimeout
  | .frameSent _ => true
  | _ => false

/-- A command's meaning is calm wherever it has a next state. -/
def State.CalmAfter (s : State) (o : Host.Outcome State Fault Refusal) : Prop := ∀ t, o = .next t → s.Calm (t.blank quiet)

@[simp] theorem State.calmAfter_next {s t : State} : s.CalmAfter (.next t) ↔ s.Calm (t.blank quiet) :=
  ⟨fun h => h t rfl, fun h u same => by cases same; exact h⟩

@[simp] theorem State.calmAfter_fault (s : State) (f : Fault) : s.CalmAfter (.fault f) := fun _ same => by cases same

@[simp] theorem State.calmAfter_ite {s : State} {c : Prop} [Decidable c] {o p : Host.Outcome State Fault Refusal} :
    s.CalmAfter (if c then o else p) ↔ (c → s.CalmAfter o) ∧ (¬ c → s.CalmAfter p) := by
  by_cases holds : c <;> simp [holds]

section
variable (s : State)

/-! ### Timers and moments -/

theorem State.calmAfter_homeTimeout (k : Nat) : s.CalmAfter (execHomeTimeout k s) := by
  unfold execHomeTimeout; split <;> simp

theorem State.calmAfter_lampRefresh (k l : Nat) : s.CalmAfter (execLampRefresh k l s) := by
  have cleared : ∀ t f, s.Calm (((s.reach t).modLanding k l f).blank quiet) := fun t f =>
    State.calm_modLanding (by simp) k l f
  unfold execLampRefresh
  split <;> simp [cleared]

theorem State.calmAfter_supervisionTimeout (i : Nat) : s.CalmAfter (execSupervisionTimeout i s) := by
  unfold execSupervisionTimeout; split <;> simp

theorem State.calmAfter_knockWindowExpiry (z : Nat) : s.CalmAfter (execKnockWindowExpiry z s) := by
  unfold execKnockWindowExpiry; dsimp only; split <;> simp

theorem State.calmAfter_resendTimer (i : Nat) : s.CalmAfter (execResendTimer i s) := by
  unfold execResendTimer; dsimp only; (repeat' split) <;> simp

theorem State.calmAfter_clearanceTimeout (i : Nat) : s.CalmAfter (execClearanceTimeout i s) := by
  have tripped : ∀ t f r, s.Calm ((((s.reach t).modShutter i f).tripLanding .forcedRelease r).blank quiet) := fun t f r =>
    State.calm_tripLanding (by simp) _ r
  unfold execClearanceTimeout
  dsimp only
  split <;> simp [tripped]

theorem State.calmAfter_warningTimeout (i : Nat) : s.CalmAfter (execWarningTimeout i s) := by
  unfold execWarningTimeout; split <;> simp

theorem State.calmAfter_motionTimeout (i : Nat) : s.CalmAfter (execMotionTimeout i s) := by
  unfold execMotionTimeout; dsimp only; split <;> simp

theorem State.calmAfter_escalationStep1 (n : Nat) : s.CalmAfter (execEscalationStep1 n s) := by
  unfold execEscalationStep1; (repeat' split) <;> simp

theorem State.calmAfter_escalationStep2 (n : Nat) : s.CalmAfter (execEscalationStep2 n s) := by
  unfold execEscalationStep2; dsimp only; (repeat' split) <;> simp

theorem State.calmAfter_patternEnd (i : Nat) : s.CalmAfter (execPatternEnd i s) := by
  unfold execPatternEnd; split <;> simp

theorem State.calmAfter_startLimit (i : Nat) : s.CalmAfter (execStartLimit i s) := by
  unfold execStartLimit; split <;> simp

theorem State.calmAfter_preemptTimeout (i : Nat) : s.CalmAfter (execPreemptTimeout i s) := by
  unfold execPreemptTimeout; (repeat' split) <;> simp

theorem State.calmAfter_evacRefresh (i : Nat) : s.CalmAfter (execEvacRefresh i s) := by
  unfold execEvacRefresh; split <;> simp

theorem State.calmAfter_closeWaitExpiry : s.CalmAfter (execCloseWaitExpiry s) := by
  have waited : ∀ u : State, s.Calm (u.blank quiet) → s.Calm (((u.closeWaitShaft 0).closeWaitShaft 1).blank quiet) := fun u h =>
    State.calm_closeWaitShaft (State.calm_closeWaitShaft h (by decide)) (by decide)
  unfold execCloseWaitExpiry
  split
  · simp
  · exact State.calmAfter_next.2 (State.calm_closingCheck (waited _ (by simp)))

theorem State.calmAfter_secondBoundary : s.CalmAfter (execSecondBoundary s) := by
  unfold execSecondBoundary; simp

theorem State.calmAfter_crystalLoss : s.CalmAfter (execCrystalLoss s) := by
  unfold execCrystalLoss; simp

theorem State.calmAfter_noticeRepeat (k : NoticeKey) : s.CalmAfter (execNoticeRepeat k s) := by
  unfold execNoticeRepeat; split <;> simp

/-! ### Playback (chapter 9) -/

theorem State.calmAfter_tuneEvacRefresh : s.CalmAfter (execTuneEvacRefresh s) := by
  unfold execTuneEvacRefresh
  split
  · simp
  · split
    · simp
    · exact State.calmAfter_next.2
        (State.calm_forEach (fun t z => State.calm_forEach (fun t i => by simp) (.refl t)) (by simp))

theorem State.calmAfter_blockMoment (c : PhraseChannel) : s.CalmAfter (execBlockMoment c s) := by
  have evac : ∀ p t, s.CalmAfter (s.evacMoment p t) := fun p t => by unfold State.evacMoment; simp
  have stored : ∀ p t, s.CalmAfter (s.storedMoment p t) := fun p t => by unfold State.storedMoment; simp
  unfold execBlockMoment
  (repeat' split) <;> simp [evac, stored]

theorem State.calmAfter_pageBlockMoment : s.CalmAfter (execPageBlockMoment s) := by
  unfold execPageBlockMoment; split <;> simp

theorem State.calmAfter_underrunTimeout : s.CalmAfter (execUnderrunTimeout s) := by
  unfold execUnderrunTimeout; split <;> simp

theorem State.calmAfter_pageIdleTimeout : s.CalmAfter (execPageIdleTimeout s) := by
  unfold execPageIdleTimeout; split <;> simp

/-! ### Lines and frames (chapter 10) -/

theorem State.calmAfter_frameReceive (p : Nat) (line : LineEvent) : s.CalmAfter (execFrameReceive p line s) := by
  unfold execFrameReceive; (repeat' split) <;> simp

theorem State.calmAfter_portSilenceTimeout (p : Nat) : s.CalmAfter (execPortSilenceTimeout p s) := by
  unfold execPortSilenceTimeout; split <;> simp

theorem State.calmAfter_keepInterval (p : Nat) : s.CalmAfter (execKeepInterval p s) := by
  unfold execKeepInterval; split <;> simp

theorem State.calmAfter_earlyClash (p : Nat) : s.CalmAfter (execEarlyClash p s) := by
  unfold execEarlyClash; (repeat' split) <;> simp

theorem State.calmAfter_lateClash (p : Nat) : s.CalmAfter (execLateClash p s) := by
  unfold execLateClash; (repeat' split) <;> simp

theorem State.calmAfter_backoffEnd (p : Nat) : s.CalmAfter (execBackoffEnd p s) := by
  unfold execBackoffEnd; (repeat' split) <;> simp

theorem State.calmAfter_lineTestReceive (p : Nat) (line : LineEvent) : s.CalmAfter (execLineTestReceive p line s) := by
  unfold execLineTestReceive; (repeat' split) <;> simp

theorem State.calmAfter_lineTestTimeout (p : Nat) : s.CalmAfter (execLineTestTimeout p s) := by
  unfold execLineTestTimeout; split <;> simp

theorem State.calmAfter_keep : s.CalmAfter (execKeep s) := by
  unfold execKeep; split <;> simp

theorem State.calmAfter_beat : s.CalmAfter (execBeat s) := by
  unfold execBeat; split <;> simp

theorem State.calmAfter_forward : s.CalmAfter (execForward s) := by
  unfold execForward; split <;> simp

theorem State.calmAfter_onFrame {want : FrameStep} {job : State → Received → State}
    (calm : ∀ (t : State) r, s.Calm (t.blank quiet) → s.Calm ((job t r).blank quiet)) :
    s.CalmAfter (.next (s.onFrame want job)) :=
  State.calmAfter_next.2 (State.calm_onHead (.refl s) _ calm)

theorem State.calm_landingFrame {s₀ s : State} (before : s₀.Calm (s.blank quiet)) (r : Received) :
    s₀.Calm ((s.landingFrame r).blank quiet) := by
  unfold State.landingFrame; split <;> simp [before]

/-! ### Requests and saves (chapter 11) -/

theorem State.calmAfter_onSetup {index : Option Nat} {act : State → State × Status × Detail}
    (calm : ∀ t : State, s.Calm (t.blank quiet) → s.Calm ((act t).1.blank quiet)) : s.CalmAfter (s.onSetup index act) :=
  State.calmAfter_next.2 (State.calm_onRequest (.refl s) fun t _ h => by unfold answer; simp [calm t h])

theorem State.calmAfter_onOrder {object : Option Nat} {act : State → State × Status × Detail}
    (calm : ∀ t : State, s.Calm (t.blank quiet) → s.Calm ((act t).1.blank quiet)) : s.CalmAfter (s.onOrder object act) :=
  State.calmAfter_next.2 (State.calm_onRequest (.refl s) fun t _ h => by unfold answer; simp [calm t h])

theorem State.calmAfter_saveEnd (r : SaveResult) : s.CalmAfter (execSaveEnd r s) := by
  unfold execSaveEnd; (repeat' split) <;> simp

theorem State.calmAfter_phraseWriteEnd (bytes : List Byte) : s.CalmAfter (execPhraseWriteEnd bytes s) := by
  unfold execPhraseWriteEnd; split <;> simp

/-! ### Orders of the shafts -/

section
variable {s₀ s : State} (before : s₀.Calm (s.blank quiet)) {k : Nat} (left : (s.shaft k).state ≠ .tripped)
include before left

theorem State.calm_enterRunning : s₀.Calm ((s.enterRunning k).blank quiet) :=
  before.then (State.calm_modify (by simp [ChangesOnly])
    (s.cores_enterRunning k) (Shaft.steady_startRunning (x := (s.shaft k).core) left _ _ _))

theorem State.calm_enterHoming (inside : k < 2) : s₀.Calm ((s.enterHoming k).blank quiet) := by
  obtain ⟨timer, -, cores⟩ := s.cores_enterHoming k inside
  exact before.then (State.calm_modify
    (by simp [ChangesOnly]) cores
    (Shaft.steady_startHoming (x := (s.shaft k).core) left _ _ _ timer))

end

theorem State.calm_orderStart {s₀ s : State} (before : s₀.Calm (s.blank quiet)) (k : Nat) :
    s₀.Calm ((s.orderStart k).1.blank quiet) := by
  by_cases allowed : k < 2 ∧ s.shaftEnabled k = true ∧ (s.shaft k).state ∈ [ShaftState.idle, .held] ∧ s.startBarred k = false
  · obtain ⟨inside, enabled, standing, free⟩ := allowed
    obtain ⟨c, o, h, cores⟩ := State.core_readied inside enabled standing
    have ready : s₀.Calm ((s.readied k).blank quiet) :=
      before.then (State.calm_modify ((s.readied_changes k).mono (by decide)) cores (.of_status rfl rfl))
    have left : ((s.readied k).shaft k).state ≠ .tripped := by
      obtain ⟨l, same⟩ := State.shaft_of_modify inside cores
      rw [same]
      intro tripped
      have here : (s.shaft k).state = .tripped := tripped
      simp [here] at standing
    rw [State.orderStart_taken inside enabled standing free]
    dsimp only
    split
    · exact State.calm_enterRunning ready left
    · exact State.calm_enterHoming ready left inside
  · by_cases inside : k < 2
    · have against : s.shaftEnabled k = false ∨ (s.shaft k).state ∉ [ShaftState.idle, .held] ∨ s.startBarred k = true := by
        by_contra none
        simp only [not_or, Bool.not_eq_false, not_not, Bool.not_eq_true] at none
        exact allowed ⟨inside, none⟩
      rw [State.orderStart_refused inside against]
      exact before
    · unfold State.orderStart
      rw [if_pos (Nat.le_of_not_lt inside)]
      exact before

theorem State.calm_orderStop {s₀ s : State} (before : s₀.Calm (s.blank quiet)) (k : Nat) :
    s₀.Calm ((s.orderStop k).1.blank quiet) := by
  unfold State.orderStop
  split
  · exact before
  · next inside =>
    split
    · exact before
    · exact State.calm_requestPark before (Nat.lt_of_not_le inside) .order

theorem State.calm_clearAllCounters {s₀ s : State} (before : s₀.Calm (s.blank quiet)) :
    s₀.Calm (s.clearAllCounters.blank quiet) := by
  have cleared : ∀ k, (s.clearAllCounters.shaft k).core = (s.shaft k).core.clearCounters := fun k => by
    by_cases inside : k < 2
    · obtain ⟨x, here⟩ := s.shafts.get?_eq_some inside
      simp only [State.shaft, State.clearAllCounters, Tab.getD, Tab.get?_map, here, Option.map_some, Option.getD_some]
      rfl
    · have outside : ∀ u : State, u.shaft k = {} := fun u => Tab.getD_eq_of_le _ (Nat.le_of_not_lt inside) _
      rw [outside, outside]; rfl
  refine before.then ⟨rfl, fun _ => rfl, fun k => ?_⟩
  rw [cleared]
  exact .of_status rfl rfl

/-! ### The table of the commands -/

theorem exec_calm {c : Instr} (still : reworksShafts c = false) : s.CalmAfter (exec c s) := by
  cases c
  case homeTimeout => exact s.calmAfter_homeTimeout _
  case lampRefresh => exact s.calmAfter_lampRefresh _ _
  case supervisionTimeout => exact s.calmAfter_supervisionTimeout _
  case knockWindowExpiry => exact s.calmAfter_knockWindowExpiry _
  case resendTimer => exact s.calmAfter_resendTimer _
  case clearanceTimeout => exact s.calmAfter_clearanceTimeout _
  case warningTimeout => exact s.calmAfter_warningTimeout _
  case motionTimeout => exact s.calmAfter_motionTimeout _
  case escalationStep1 => exact s.calmAfter_escalationStep1 _
  case escalationStep2 => exact s.calmAfter_escalationStep2 _
  case patternEnd => exact s.calmAfter_patternEnd _
  case startLimit => exact s.calmAfter_startLimit _
  case preemptTimeout => exact s.calmAfter_preemptTimeout _
  case evacRefresh => exact s.calmAfter_evacRefresh _
  case closeWaitExpiry => exact s.calmAfter_closeWaitExpiry
  case secondBoundary => exact s.calmAfter_secondBoundary
  case crystalLoss => exact s.calmAfter_crystalLoss
  case crystalCyclesResume => exact State.calmAfter_next.2 (by simp)
  case noticeRepeat => exact s.calmAfter_noticeRepeat _
  case tuneEvacRefresh => exact s.calmAfter_tuneEvacRefresh
  case blockMoment => exact s.calmAfter_blockMoment _
  case pageBlockMoment => exact s.calmAfter_pageBlockMoment
  case underrunTimeout => exact s.calmAfter_underrunTimeout
  case pageIdleTimeout => exact s.calmAfter_pageIdleTimeout
  case frameReceive => exact s.calmAfter_frameReceive _ _
  case portSilenceTimeout => exact s.calmAfter_portSilenceTimeout _
  case keepInterval => exact s.calmAfter_keepInterval _
  case deferralEnd => exact State.calmAfter_next.2 (by simp)
  case earlyClash => exact s.calmAfter_earlyClash _
  case lateClash => exact s.calmAfter_lateClash _
  case backoffEnd => exact s.calmAfter_backoffEnd _
  case lineTestReceive => exact s.calmAfter_lineTestReceive _ _
  case lineTestTimeout => exact s.calmAfter_lineTestTimeout _
  case keep => exact s.calmAfter_keep
  case beat => exact s.calmAfter_beat
  case forward => exact s.calmAfter_forward
  case detect => exact s.calmAfter_onFrame fun t r h => State.calm_detect h _ _
  case shutstat => exact s.calmAfter_onFrame fun t r h => State.calm_shutstat h _ _
  case landing => exact s.calmAfter_onFrame fun t r h => State.calm_landingFrame h r
  case callPress => exact s.calmAfter_onFrame fun t r h => by unfold State.callFrame; (repeat' split) <;> simp [h]
  case callCancel => exact s.calmAfter_onFrame fun t r h => by unfold State.callFrame; (repeat' split) <;> simp [h]
  case callAck => exact s.calmAfter_onFrame fun t r h => by simp [h]
  case pageSamples => exact s.calmAfter_onFrame fun t r h => by simp [h]
  case setupStation => exact s.calmAfter_onSetup fun t h => State.calm_setupStation h _ _
  case setupPoint => exact s.calmAfter_onSetup fun t h => State.calm_setupPoint h _ _
  case setupZone => exact s.calmAfter_onSetup fun t h => State.calm_setupZone h _ _
  case setupShutter => exact s.calmAfter_onSetup fun t h => State.calm_setupShutter h _ _
  case setupRoute => exact s.calmAfter_onSetup fun t h => State.calm_setupRoute h _ _
  case setupSill => exact s.calmAfter_onSetup fun t h => State.calm_setupSill h _ _ _
  case setupSchedule => exact s.calmAfter_onSetup fun t h => State.calm_setupSchedule h _ _
  case setupPort => exact s.calmAfter_onSetup fun t h => State.calm_setupPort h _ _
  case setupGlobal => exact s.calmAfter_onSetup fun t h => State.calm_setupGlobal h _ _
  case query => exact State.calmAfter_next.2 (State.calm_onRequest (.refl s) fun t _ h => by unfold answer; simp [h])
  case setClock => exact s.calmAfter_onOrder fun t h => by simp [h]
  case stepClock => exact s.calmAfter_onOrder fun t h => by simp [h]
  case setTrim => exact s.calmAfter_onOrder fun t h => by simp [h]
  case startShaft => exact s.calmAfter_onOrder fun t h => State.calm_orderStart h _
  case stopShaft => exact s.calmAfter_onOrder fun t h => State.calm_orderStop h _
  case silenceZone => exact s.calmAfter_onOrder fun t h => State.calm_orderSilence h _
  case resetZone => exact s.calmAfter_onOrder fun t h => State.calm_orderResetZone h _
  case isolateZone => exact s.calmAfter_onOrder fun t h => State.calm_orderIsolate h _
  case restoreZone => exact s.calmAfter_onOrder fun t h => State.calm_orderRestore h _
  case storeMode => exact s.calmAfter_onOrder fun t h => State.calm_orderStoreMode h _
  case play => exact s.calmAfter_onOrder fun t h => by simp [h]
  case pageStart => exact State.calmAfter_next.2 (State.calm_onRequest (.refl s) fun t _ h => by unfold answer; simp [h])
  case pageEnd => exact s.calmAfter_onOrder fun t h => by simp [h]
  case clearCalls => exact s.calmAfter_onOrder fun t h => by simp [h]
  case lineTest => exact State.calmAfter_next.2 (State.calm_onRequest (.refl s) fun t _ h => by simp [h])
  case clearCounters => exact s.calmAfter_onOrder fun t h => State.calm_clearAllCounters h
  case saveSettings => exact State.calmAfter_next.2 (State.calm_onRequest (.refl s) fun t _ h => by simp [h])
  case saveEnd => exact s.calmAfter_saveEnd _
  case writePhraseBlock => exact State.calmAfter_next.2 (State.calm_onRequest (.refl s) fun t _ h => by simp [h])
  case phraseWriteEnd => exact s.calmAfter_phraseWriteEnd _
  case lockPhrases => exact s.calmAfter_onOrder fun t h => by simp [State.carried, h]
  case restart => exact State.calmAfter_next.2 (State.calm_onRequest (.refl s) fun t _ h => by simp [h])
  case unknownOrder => exact s.calmAfter_onOrder fun t h => h
  all_goals cases still

end

end Sys2Proof.Machine
end

section
/-! The counts, the home mark, the speed windows and the drive inputs keep the outputs right, a VALID position within the loop,
and a trip latched (R15, R18, R20 to R23, R30, R31). -/

namespace Sys2Proof.Machine

/-! ### The relation -/

/-- A change that keeps right outputs, a latched trip and a position within the loop, and gives a disabled shaft no position. -/
structure Shaft.Holds (g : Geometry) (x y : Shaft) : Prop where
  outputs : x.outputsOk = true → y.outputsOk = true
  latched : x.state = .tripped → y.state = .tripped ∧ y.trip = x.trip
  position : g.H < g.L → (x.posValid = true → x.pos < g.L) → y.posValid = true → y.pos < g.L
  unknown : g.enabled = false → x.posValid = false → y.posValid = false

namespace Shaft.Holds

variable {g : Geometry} {x y z : Shaft}

theorem trans (first : Holds g x y) (second : Holds g y z) : Holds g x z :=
  ⟨fun ok => second.outputs (first.outputs ok), fun tripped =>
    have ⟨still, cause⟩ := first.latched tripped
    ⟨(second.latched still).1, (second.latched still).2.trans cause⟩,
   fun loop within => second.position loop (first.position loop within),
   fun off none => second.unknown off (first.unknown off none)⟩

theorem of_steady (steady : Steady x y) : Holds g x y := by
  obtain ⟨pos, valid, -⟩ := Shaft.status_of_gauge steady.gauge
  exact ⟨steady.outputs, steady.latched, fun _ within known => pos ▸ within (valid ▸ known), fun _ none => valid.trans none⟩

/-- A change that neither shows nor moves. -/
theorem of_status (status : y.status = x.status)
    (position : g.H < g.L → (x.posValid = true → x.pos < g.L) → y.posValid = true → y.pos < g.L)
    (unknown : g.enabled = false → x.posValid = false → y.posValid = false) : Holds g x y := by
  simp only [Shaft.status, Prod.mk.injEq] at status
  obtain ⟨⟨state, trip⟩, permit, creep, brake, degraded⟩ := status
  refine ⟨fun ok => ?_, fun tripped => ⟨state.trans tripped, trip⟩, position, unknown⟩
  rw [← ok, outputsOk, outputsOk, state, permit, creep, brake, degraded]

end Shaft.Holds

/-- A step that keeps the geometries and what every shaft shows. -/
structure State.Keeps (s t : State) : Prop where
  inPlace : t.inPlace = s.inPlace
  geometry : ∀ k, t.geometry k = s.geometry k
  shaft : ∀ k, Shaft.Holds (s.geometry k) (s.shaft k).core (t.shaft k).core

section
variable {s t u : State} {k : Nat} {F : List Field}

theorem State.Keeps.trans (first : s.Keeps t) (second : t.Keeps u) : s.Keeps u :=
  ⟨second.inPlace.trans first.inPlace, fun k => (second.geometry k).trans (first.geometry k),
    fun k => (first.shaft k).trans (first.geometry k ▸ second.shaft k)⟩

theorem State.Calm.keeps (calm : s.Calm (t.blank quiet)) : s.Keeps t :=
  have calm := (State.calm_blank _ _).1 calm
  ⟨calm.inPlace, calm.geometry, fun k => .of_steady (calm.shaft k)⟩

theorem State.Keeps.refl (s : State) : s.Keeps s := State.Calm.keeps (.refl s)

/-- A further step that is calm. -/
theorem State.Keeps.calm (first : s.Keeps t) (second : t.Calm (u.blank quiet)) : s.Keeps u := first.trans second.keeps

theorem State.keeps_modShaft {f : Shaft → Shaft} (blind : ∀ x, (f x).core = f x.core)
    (holds : Shaft.Holds (s.geometry k) (s.shaft k).core (f (s.shaft k).core)) : s.Keeps (s.modShaft k f) := by
  refine ⟨rfl, fun _ => rfl, fun j => ?_⟩
  by_cases same : j = k
  · subst same
    by_cases inside : j < 2
    · rw [State.core_of_modify inside (s.cores_modShaft j blind)]; exact holds
    · have outside : ∀ u : State, u.shaft j = {} := fun u => Tab.getD_eq_of_le _ (Nat.le_of_not_lt inside) _
      rw [outside, outside]
      exact .of_steady (.refl _)
  · rw [State.core_of_modify_other (s.cores_modShaft k blind) same]
    exact .of_steady (.refl _)

/-! ### What is kept of the invariants -/

theorem State.Keeps.outputsOk (keeps : s.Keeps t) (ok : s.outputsOk) : t.outputsOk :=
  fun k inside => (keeps.shaft k).outputs (ok k inside)

theorem State.Keeps.positionsOk (keeps : s.Keeps t) (ok : s.PositionsOk) : t.PositionsOk where
  loop k inside := by rw [keeps.geometry]; exact ok.loop k inside
  position k inside known := by
    rw [keeps.geometry]
    exact (keeps.shaft k).position (ok.loop k inside).2 (ok.position k inside) known
  loaded out k inside := by
    obtain ⟨off, none⟩ := ok.loaded (keeps.inPlace ▸ out) k inside
    rw [State.shaftEnabled] at off ⊢
    exact ⟨(congrArg Geometry.enabled (keeps.geometry k)).trans off, (keeps.shaft k).unknown off none⟩

theorem State.Keeps.latched (keeps : s.Keeps t) (tripped : (s.shaft k).state = .tripped) :
    (t.shaft k).state = .tripped ∧ (t.shaft k).trip = (s.shaft k).trip := (keeps.shaft k).latched tripped

end

/-! ### The commands that gauge a shaft -/

section
variable (s : State) (k : Nat)

theorem State.calm_afterForward (inside : k < 2) : s.Calm ((s.afterForward k).blank quiet) :=
  State.Calm.then (.refl s) (State.calm_modify
    (by simp [ChangesOnly])
    (s.cores_afterForward k inside) (Shaft.steady_afterForward _ _ _ _))

theorem State.calm_afterBackward : s.Calm ((s.afterBackward k).blank quiet) :=
  State.Calm.then (.refl s) (State.calm_modify
    (by simp [ChangesOnly])
    (s.cores_afterBackward k) (Shaft.steady_afterBackward _ _))

theorem State.calm_heldReevaluate : s.Calm ((s.heldReevaluate k).blank quiet) :=
  State.Calm.then (.refl s) (State.calm_modify
    (by simp [ChangesOnly])
    (s.cores_heldReevaluate k) (Shaft.steady_evaluated _ _))

theorem State.calm_standstillEvent (inside : k < 2) : s.Calm ((s.standstillEvent k).blank quiet) :=
  State.Calm.then (.refl s) (State.calm_modify
    (by simp [ChangesOnly])
    (s.cores_standstillEvent k inside) (Shaft.steady_standstillEvent _ _ _ _))

theorem State.inside_of_enabled {s : State} {k : Nat} (enabled : s.shaftEnabled k = true) : k < 2 := by
  by_contra outside
  rw [State.shaftEnabled_outside (Nat.le_of_not_lt outside)] at enabled
  cases enabled

theorem State.keeps_forwardCount (enabled : s.shaftEnabled k = true) :
    s.Keeps ((s.modShaft k fun x => x.countForward (s.geometry k).L).afterForward k) := by
  have counted : s.Keeps (s.counted k) := by
    refine State.keeps_modShaft (fun _ => rfl) (.of_status rfl (fun loop _ known => ?_) fun _ none => none)
    have known : (s.shaft k).posValid = true := known
    change (if (s.shaft k).posValid then ((s.shaft k).pos + 1) % (s.geometry k).L else _) < _
    rw [if_pos known]
    exact Nat.mod_lt _ (by omega)
  exact counted.calm (State.calm_afterForward _ k (State.inside_of_enabled enabled))

theorem State.keeps_backwardCount :
    s.Keeps ((s.modShaft k fun x => x.countBackward (s.geometry k).L).afterBackward k) := by
  have counted : s.Keeps (s.countedBack k) := by
    refine State.keeps_modShaft (fun _ => rfl) (.of_status rfl (fun loop _ known => ?_) fun _ none => none)
    have known : (s.shaft k).posValid = true := known
    change (if (s.shaft k).posValid then subMod (s.shaft k).pos 1 (s.geometry k).L else _) < _
    rw [if_pos known]
    unfold subMod
    exact Nat.mod_lt _ (by omega)
  exact counted.calm (State.calm_afterBackward _ k)

theorem State.keeps_homeMark (enabled : s.shaftEnabled k = true) : s.Keeps (s.homeMark k) := by
  have homed : s.Keeps (s.homed k) :=
    State.keeps_modShaft (fun _ => rfl) (.of_status rfl (fun loop _ _ => loop) fun off _ => by
      rw [State.shaftEnabled, off] at enabled; cases enabled)
  unfold State.homeMark
  dsimp only
  split
  · have lost : s.Keeps (s.modShaft k fun x => { x with posValid := false }) :=
      State.keeps_modShaft (fun _ => rfl) (.of_status rfl (fun _ _ known => Bool.noConfusion known) fun _ _ => rfl)
    exact lost.calm (State.calm_tripShaft (.refl _) k .slip)
  · split
    · next homing =>
      refine State.Keeps.calm (t := (s.homed k).modShaft k fun x => { x with homeTimer := none })
        (homed.trans (State.keeps_modShaft (fun _ => rfl) (.of_steady (.of_status rfl rfl))))
        (State.calm_enterRunning (.refl _) fun tripped => ?_)
      have inside := State.inside_of_enabled enabled
      rw [State.shaft_modShaft, if_pos ⟨rfl, inside⟩, State.homed, State.shaft_modShaft, if_pos ⟨rfl, inside⟩] at tripped
      have tripped : (s.shaft k).state = .tripped := tripped
      rw [homing] at tripped
      cases tripped
    · exact homed.calm (State.calm_heldReevaluate _ k)
    · exact homed

/-- A change of what is neither shown nor a position. -/
theorem State.keeps_modShaft_of_status {f : Shaft → Shaft} (blind : ∀ x, (f x).core = f x.core)
    (status : ∀ x, (f x).status = x.status) (pos : ∀ x, (f x).pos = x.pos ∧ (f x).posValid = x.posValid) :
    s.Keeps (s.modShaft k f) :=
  State.keeps_modShaft blind (.of_status (status _)
    (fun _ within known => by rw [(pos _).1]; exact within ((pos _).2.symm.trans known)) fun _ none => (pos _).2.trans none)

theorem State.keeps_measured : s.Keeps (s.measured k) := by
  have gauged : ∀ (t : State) (v : Nat) (moved : Bool), s.Keeps t → s.Keeps (t.modShaft k fun y => { y with
      speed := v, standstill := if moved then y.standstill else min 3 (y.standstill + 1) }) := fun t v _ h =>
    h.trans (State.keeps_modShaft_of_status t k (fun _ => rfl) (fun _ => rfl) fun _ => ⟨rfl, rfl⟩)
  have tripped : ∀ (c : Prop) [Decidable c] (t : State), s.Keeps t → s.Keeps (if c then t.tripShaft k .overspeed else t) :=
    fun c _ t h => by
      split
      · exact h.calm (State.calm_tripShaft (.refl t) k .overspeed)
      · exact h
  unfold State.measured
  dsimp only
  apply gauged
  apply tripped
  exact State.keeps_modShaft_of_status s k (fun _ => rfl) (fun _ => rfl) fun _ => ⟨rfl, rfl⟩

theorem State.keeps_endWindow : s.Keeps (s.endWindow k) := by
  have measured := s.keeps_measured k
  rw [State.endWindow_eq]
  split
  · next stands =>
    simp only [Bool.and_eq_true] at stands
    exact measured.calm (State.calm_standstillEvent _ k (State.inside_of_enabled stands.1))
  · exact measured

/-! ### The table of the commands -/

/-- The commands that free a shaft, write its geometry or reset the part. -/
def resetsShafts : Instr → Bool
  | .setupShaft _ _ | .resetShaft _ | .powerOn | .resetPin | .autoloadEnd _ | .restartTimeout | .frameSent _ => true
  | _ => false

theorem State.keeps_readyChange (b : Bool) : s.Keeps (s.modShaft k fun x => { x with ready := b }) :=
  State.keeps_modShaft_of_status _ k (fun _ => rfl) (fun _ => rfl) fun _ => ⟨rfl, rfl⟩

theorem State.keeps_faultChange (b : Bool) : s.Keeps (s.modShaft k fun x => { x with fault := b }) :=
  State.keeps_modShaft_of_status _ k (fun _ => rfl) (fun _ => rfl) fun _ => ⟨rfl, rfl⟩

variable {s k}

theorem exec_keeps {c : Instr} {t : State} (still : resetsShafts c = false) (step : exec c s = .next t) : s.Keeps t := by
  by_cases plain : reworksShafts c = false
  · exact (exec_calm s plain t step).keeps
  · cases c
    case forwardCount k =>
      change (if s.shaftEnabled k = true then _ else _) = _ at step
      split at step
      · next enabled => cases step; exact s.keeps_forwardCount k enabled
      · cases step; exact .refl s
    case backwardCount k =>
      change (if s.shaftEnabled k = true then _ else _) = _ at step
      split at step
      · cases step; exact s.keeps_backwardCount k
      · cases step; exact .refl s
    case homeMark k =>
      change (if s.shaftEnabled k = true then _ else _) = _ at step
      split at step
      · next enabled => cases step; exact s.keeps_homeMark k enabled
      · cases step; exact .refl s
    case readyLost k =>
      change execReadyLost k s = _ at step
      unfold execReadyLost at step
      dsimp only at step
      split at step
      · cases step; exact (s.keeps_readyChange k false).calm (State.calm_tripShaft (.refl _) k .drive)
      · cases step; exact s.keeps_readyChange k false
    case readyGained k => cases step; exact s.keeps_readyChange k true
    case faultRaised k => cases step; exact (s.keeps_faultChange k true).calm (State.calm_tripShaft (.refl _) k .drive)
    case faultCleared k => cases step; exact s.keeps_faultChange k false
    case speedWindowEnd k =>
      change execSpeedWindowEnd k s = _ at step
      unfold execSpeedWindowEnd at step
      split at step
      · cases step; exact .refl s
      · cases step
        have begun : ∀ e, s.Keeps ((s.reach e).modShaft k fun x => { x with windowEnd := some (e + Config.speedWindow) }) :=
          fun e => State.Keeps.trans (t := s.reach e) (State.Calm.keeps (by simp))
            (State.keeps_modShaft_of_status _ k (fun _ => rfl) (fun _ => rfl) fun _ => ⟨rfl, rfl⟩)
        exact (begun _).trans (State.keeps_endWindow _ k)
    all_goals first | exact absurd rfl plain | cases still

end

end Sys2Proof.Machine
end

section
/-! The orders and resets that free a shaft, write its geometry or start the part afresh (R17, R36, R37, R188, R192): O11, and
what every step keeps of the outputs and the positions. -/

namespace Sys2Proof.Machine

/-! ### Requests (R179) -/

/-- A request is taken only while the tables are in place (R188). -/
theorem State.inPlace_of_requestFor {s : State} {want : FrameStep} {object : Option Nat} {r : Received}
    (head : s.requestFor want object = some r) : s.inPlace = true := by
  obtain ⟨here, -⟩ := State.requestFor_eq_some head
  unfold State.headFor at here
  split at here
  · split at here
    · next both => simp only [Bool.and_eq_true] at both; exact both.1
    · cases here
  · cases here

/-- A request that is carried out is carried out with the tables in place, on a state that is calmly reached; one that is not
leaves a calm step. -/
theorem State.onRequest_cases (s : State) (want : FrameStep) (object : Option Nat) (act : State → Ticket → State) :
    s.Calm ((s.onRequest want object act).blank quiet) ∨
    ∃ u k, s.inPlace = true ∧ s.Calm (u.blank quiet) ∧ s.onRequest want object act = act u k := by
  unfold State.onRequest State.onHead
  split
  · exact .inl (.refl s)
  · next r head =>
    have taken := State.calm_takeHead (.refl s) r
    have loaded := State.inPlace_of_requestFor head
    dsimp only
    split
    · unfold State.judgeRequest
      dsimp only
      split
      · exact .inl (by simp [taken])
      · split
        · exact .inl (by simp [taken])
        · split
          · exact .inl (by simp [taken])
          · split
            · exact .inl (by simp [taken])
            · exact .inr ⟨_, _, loaded, taken, rfl⟩
    · exact .inl (taken.then (State.calm_of_quiet (by simp)))

/-! ### RESET_SHAFT (R36) -/

/-- A shaft freed of its trip, its set answered (R36, R54). -/
def Shaft.freed (x : Shaft) (g : Geometry) : Shaft :=
  let y := { x.standIdle with reapproach := 0 }
  if x.clearSet = [] then y else y.evaluated g

theorem Shaft.outputsOk_freed (x : Shaft) (g : Geometry) : (x.freed g).outputsOk = true ∧ (x.freed g).gauge = x.gauge := by
  have idle : x.standIdle.outputsOk = true := outputsOk_enter_braked _ (.inl rfl)
  unfold freed
  dsimp only
  split
  · exact ⟨idle, rfl⟩
  · exact ⟨idle, rfl⟩

/-- RESET_SHAFT leaves the shafts as they were, or makes the one it names IDLE with safe outputs. -/
theorem State.orderReset_cores (s : State) (k : Nat) : (s.orderReset k).1 = s ∨
    k < 2 ∧ (s.orderReset k).1.cores = s.cores.modify k fun x => x.freed (s.geometry k) := by
  by_cases allowed : k < 2 ∧ s.shaftEnabled k = true ∧ (s.shaft k).state = .tripped ∧ s.notCleared k = none
  · obtain ⟨inside, enabled, tripped, cleared⟩ := allowed
    have changes : ChangesOnly [.shafts, .net] s (s.freed k) := by unfold State.freed; simp [ChangesOnly]
    refine .inr ⟨inside, ?_⟩
    rw [State.orderReset_of_cleared inside enabled tripped cleared]
    change ((s.freed k).answerSet k).closingCheck.cores = _
    rw [State.closingCheck_cores, State.cores_answerSet, State.geometry_of_changes changes k, State.freed, State.cores_modShaft,
      State.cores_enterIdle, Tab.modify_modify, Tab.modify_modify]
    · rfl
    · exact fun _ => rfl
  · refine .inl ?_
    unfold State.orderReset
    split
    · rfl
    · split
      · rfl
      · split
        · rfl
        · split
          · rfl
          · next inside enabled tripped _ cleared =>
            exact absurd ⟨Nat.lt_of_not_le inside, by simpa using enabled, by simpa using tripped, cleared⟩ allowed

/-! ### The blocks started (R188, R192) -/

theorem State.keeps_startShaftBlock (s : State) (k : Nat) : s.Keeps (s.startShaftBlock k) := by
  have begun : ∀ timer, s.Keeps (s.modShaft k fun x => { x with windowEnd := timer }) := fun timer =>
    State.keeps_modShaft_of_status s k (fun _ => rfl) (fun _ => rfl) fun _ => ⟨rfl, rfl⟩
  unfold State.startShaftBlock
  dsimp only
  split
  · exact (begun _).calm (State.calm_tripShaft (.refl _) k .drive)
  · exact begun _

theorem State.keeps_startBlocks (s : State) : ({ s with inPlace := true } : State).Keeps s.startBlocks := by
  have calm : ∀ t : State, t.Keeps (((t.forEach (List.range 5) fun s p =>
      s.modPort p fun x => { x with keepTimer := s.after Config.keepInterval }).startShaftBlock 0).startShaftBlock 1) := fun t =>
    ((State.Calm.keeps (by simp)).trans (State.keeps_startShaftBlock _ 0)).trans (State.keeps_startShaftBlock _ 1)
  unfold State.startBlocks
  dsimp only
  refine State.Keeps.trans ?_ (calm _)
  exact State.Calm.keeps (by simp)

/-! ### SETUP SHAFT (R17) -/

namespace Shaft

variable (x : Shaft) (g : Geometry)

theorem outputsOk_disable {x : Shaft} (undegraded : x.degraded = false) : (x.disable g).outputsOk = true := by
  unfold disable
  dsimp only
  split <;> simp [outputsOk, evaluated, undegraded]

/-- A shaft whose outputs are right, without a position. -/
def Unplaced (x : Shaft) : Prop := x.outputsOk = true ∧ x.posValid = false

theorem unplaced_ite {c : Prop} [Decidable c] {x y : Shaft} (first : x.Unplaced) (second : y.Unplaced) :
    (if c then x else y).Unplaced := by
  split
  · exact first
  · exact second

theorem Unplaced.trips {x : Shaft} (unplaced : x.Unplaced) (enabled : Bool) (c : TripCause) : (x.trips enabled c).Unplaced :=
  have steady := steady_trips x enabled c
  ⟨steady.outputs unplaced.1, (status_of_gauge steady.gauge).2.1.trans unplaced.2⟩

theorem unplaced_enable : (x.enable g).Unplaced := by
  have idle : ({ x with posValid := false, standstill := 0 } : Shaft).standIdle.Unplaced :=
    ⟨outputsOk_enter_braked _ (.inl rfl), rfl⟩
  have answered := unplaced_ite (c := x.clearSet = []) idle
    (show ({ x with posValid := false, standstill := 0 } : Shaft).standIdle.evaluated g |>.Unplaced from idle)
  exact unplaced_ite (answered.trips g.enabled .drive) answered

end Shaft

section
variable (s : State) {k : Nat} {o g : Geometry} (inside : k < 2)
include inside

/-- A geometry that leaves the shaft enabled or disabled changes of its record only the position and the clear set (R17). -/
theorem State.applyShaft_steady (same : o.enabled = g.enabled) : Shaft.Steady
    { (s.shaft k).core with posValid := (s.shaft k).posValid && decide (o.L = g.L ∧ o.N = g.N ∧ o.H = g.H) }
    ((s.applyShaft k o g).shaft k).core := by
  have lamps : ((s.regauged k o g).recomputeLamps k).cores = (s.regauged k o g).cores := State.recomputeLamps_cores ..
  have before := State.core_of_modify inside (lamps.trans (s.cores_regauged k o g))
  have after := State.core_of_modify inside (State.cores_recomputeSet ((s.regauged k o g).recomputeLamps k) k inside)
  rw [← s.applyShaft_same k o g same, before] at after
  rw [after]
  exact Shaft.steady_takeSet _ _ _ _ _

theorem State.core_applyShaft_other {j : Nat} (other : j ≠ k) : ((s.applyShaft k o g).shaft j).core = (s.shaft j).core := by
  have before := State.core_of_modify_other (s.cores_regauged k o g) other
  rw [← before]
  by_cases same : o.enabled = g.enabled
  · rw [s.applyShaft_same k o g same, State.core_of_modify_other (State.cores_recomputeSet _ k inside) other,
      State.core_shaft (State.recomputeLamps_cores _ k)]
  · cases on : o.enabled with
    | true =>
      rw [s.applyShaft_off k o g on (by rw [on] at same; simpa using Ne.symm same)]
      exact State.core_of_modify_other (State.cores_disableShaft _ k inside) other
    | false =>
      rw [s.applyShaft_on k o g on (by rw [on] at same; simpa using Ne.symm same)]
      exact State.core_of_modify_other (State.cores_enableShaft _ k inside) other

/-- A geometry written to a shaft that stands leaves it with safe outputs and a position within its loop (R17, R18). -/
theorem State.applyShaft_sound (stands : o.enabled = false ∨ (s.shaft k).state = .idle ∨ (s.shaft k).state = .tripped) :
    ((s.shaft k).outputsOk = true → ((s.applyShaft k o g).shaft k).outputsOk = true) ∧
    (((s.shaft k).posValid = true → (s.shaft k).pos < o.L) →
      ((s.applyShaft k o g).shaft k).posValid = true → ((s.applyShaft k o g).shaft k).pos < g.L) := by
  have before := State.core_of_modify inside (s.cores_regauged k o g)
  by_cases same : o.enabled = g.enabled
  · have steady := s.applyShaft_steady inside same
    obtain ⟨pos, valid, -⟩ := Shaft.status_of_gauge steady.gauge
    have pos : ((s.applyShaft k o g).shaft k).pos = (s.shaft k).pos := pos
    have valid : ((s.applyShaft k o g).shaft k).posValid =
      ((s.shaft k).posValid && decide (o.L = g.L ∧ o.N = g.N ∧ o.H = g.H)) := valid
    refine ⟨fun ok => steady.outputs ok, fun within known => ?_⟩
    rw [valid, Bool.and_eq_true, decide_eq_true_eq] at known
    rw [pos, ← known.2.1]
    exact within known.1
  · cases on : o.enabled with
    | true =>
      have off : g.enabled = false := by rw [on] at same; simpa using Ne.symm same
      have after := State.core_of_modify inside (State.cores_disableShaft (s.regauged k o g) k inside)
      rw [← s.applyShaft_off k o g on off] at after
      refine ⟨fun ok => ?_, fun _ known => ?_⟩
      · have undegraded : ((s.regauged k o g).shaft k).core.degraded = false := by
          rw [before]
          change (s.shaft k).degraded = false
          rw [on] at stands
          rcases stands.resolve_left (by simp) with here | here <;> simp [Shaft.outputsOk, here] at ok <;> exact ok.2
        have safe := Shaft.outputsOk_disable ((s.regauged k o g).geometry k) undegraded
        rw [← after] at safe
        exact safe
      · rw [(s.applyShaft_disabled k inside on off).2.1] at known
        cases known
    | false =>
      have on' : g.enabled = true := by rw [on] at same; simpa using Ne.symm same
      have after := State.core_of_modify inside (State.cores_enableShaft (s.regauged k o g) k inside)
      rw [← s.applyShaft_on k o g on on'] at after
      have spec := Shaft.unplaced_enable ((s.regauged k o g).shaft k).core ((s.regauged k o g).geometry k)
      rw [← after] at spec
      exact ⟨fun _ => spec.1, fun _ known => by cases spec.2.symm.trans known⟩

end

end Sys2Proof.Machine
end

section
/-! What the commands that free a shaft, write its geometry or start the part afresh do to the shafts: O11, and the first two
parts of O54. -/

namespace Sys2Proof.Machine

section
variable {s t : State}

/-! ### The steps of the orders and SETUPs -/

theorem exec_resetShaft_cases {k : Nat} (step : exec (.resetShaft k) s = .next t) : s.Keeps t ∨
    k < 2 ∧ ∃ u, s.Keeps u ∧ t.tables = u.tables ∧ t.inPlace = u.inPlace ∧
      t.cores = u.cores.modify k fun x => x.freed (u.geometry k) := by
  have job : exec (.resetShaft k) s = .next (s.onRequest .order (some k) fun s t => answer t (s.orderReset k)) := rfl
  rw [job] at step
  rcases s.onRequest_cases .order (some k) (fun s t => answer t (s.orderReset k)) with calm | ⟨u, ticket, -, reached, same⟩
  · cases step; exact .inl calm.keeps
  · rw [same] at step
    cases step
    have replied : ChangesOnly [.net] (u.orderReset k).1 (answer ticket (u.orderReset k)) := by simp [answer, ChangesOnly]
    have cores : (answer ticket (u.orderReset k)).cores = (u.orderReset k).1.cores := State.cores_congr replied.shafts
    rcases u.orderReset_cores k with idle | ⟨inside, freed⟩
    · rw [idle] at replied cores
      exact .inl (reached.keeps.trans (State.Calm.keeps ((State.calm_blank _ _).2 (State.calm_of_cores (replied.mono (by decide)) cores))))
    · have order : ChangesOnly [.shafts, .shutters, .calls, .arbiters, .day, .net, .tokens] u (u.orderReset k).1 :=
        State.orderReset_blank (by decide) (by decide) (by decide) (by decide) (by decide) (by decide) (by decide) u k
      exact .inr ⟨inside, u, reached.keeps, replied.tables.trans order.tables, replied.inPlace.trans order.inPlace,
        cores.trans freed⟩

theorem exec_setupShaft_cases {k : Nat} {f : ShaftFields} (step : exec (.setupShaft k f) s = .next t) : s.Keeps t ∨
    k < 2 ∧ s.inPlace = true ∧ ∃ u g, s.Keeps u ∧ g.H < g.L ∧
      ((u.geometry k).enabled = false ∨ (u.shaft k).state = .idle ∨ (u.shaft k).state = .tripped) ∧
      t.tables = (u.applyShaft k (u.geometry k) g).tables ∧ t.inPlace = u.inPlace ∧
      t.cores = (u.applyShaft k (u.geometry k) g).cores := by
  have job : exec (.setupShaft k f) s = .next (s.onRequest .setup (some k) fun s t => answer t (s.setupShaft k f)) := rfl
  rw [job] at step
  rcases s.onRequest_cases .setup (some k) (fun s t => answer t (s.setupShaft k f)) with calm | ⟨u, ticket, loaded, reached, same⟩
  · cases step; exact .inl calm.keeps
  · rw [same] at step
    cases step
    have replied : ChangesOnly [.net] (u.setupShaft k f).1 (answer ticket (u.setupShaft k f)) := by simp [answer, ChangesOnly]
    have cores : (answer ticket (u.setupShaft k f)).cores = (u.setupShaft k f).1.cores := State.cores_congr replied.shafts
    have unchanged : (u.setupShaft k f).1 = u → s.Keeps (answer ticket (u.setupShaft k f)) := fun idle => by
      rw [idle] at replied cores
      exact reached.keeps.trans (State.Calm.keeps ((State.calm_blank _ _).2 (State.calm_of_cores (replied.mono (by decide)) cores)))
    by_cases inside : k < 2
    · by_cases ok : u.tables.shaftOk k (shaftDraft (u.geometry k) f) = true
      · by_cases free : u.shaftWritable k = true
        · by_cases fast : (shaftDraft (u.geometry k) f).clamp.Vc < (shaftDraft (u.geometry k) f).clamp.Vmax
          · have written := State.setupShaft_written inside ok free fast
            by_cases same : u.geometry k = (shaftDraft (u.geometry k) f).clamp
            · rw [if_pos same] at written
              exact .inl (unchanged (by rw [written]; rfl))
            · rw [if_neg same] at written
              have result : (u.setupShaft k f).1 = u.applyShaft k (u.geometry k) (shaftDraft (u.geometry k) f).clamp := by
                rw [written]; rfl
              rw [result] at replied cores
              have loop : (shaftDraft (u.geometry k) f).clamp.H < (shaftDraft (u.geometry k) f).clamp.L := by
                simp only [Tables.shaftOk, Bool.and_eq_true, decide_eq_true_eq] at ok
                obtain ⟨⟨-, -, -, -, loop⟩, -⟩ := ok
                exact loop
              refine .inr ⟨inside, loaded, u, (shaftDraft (u.geometry k) f).clamp, reached.keeps, loop, ?_, replied.tables, ?_, cores⟩
              · have standing := (u.shaftWritable_iff k).1 free
                rw [State.shaftEnabled] at standing
                simpa using standing
              · have apply : ChangesOnly [.tables, .shafts, .shutters, .calls, .arbiters, .day, .net, .tokens] u
                    (u.applyShaft k (u.geometry k) (shaftDraft (u.geometry k) f).clamp) :=
                  State.applyShaft_blank (by decide) (by decide) (by decide) (by decide) (by decide) (by decide) (by decide)
                    (by decide) u k _ _
                exact replied.inPlace.trans apply.inPlace
          · exact .inl (unchanged (by rw [State.setupShaft_slow inside ok free (Nat.le_of_not_lt fast)]; rfl))
        · exact .inl (unchanged (by rw [State.setupShaft_held inside ok (by simpa using free)]; rfl))
      · exact .inl (unchanged (by rw [State.setupShaft_bad inside (by simpa using ok)]; rfl))
    · exact .inl (unchanged (by rw [State.setupShaft_outside (Nat.le_of_not_lt inside)]; rfl))

/-! ### Restarts and sent frames (R174, R192) -/

/-- What a restart starts from: every live state cleared, the tables in place (R192). -/
def State.cleared (s : State) : State := { s.clearLive with inPlace := true }

theorem State.keeps_restartNow (s : State) : s.cleared.Keeps s.restartNow := State.keeps_startBlocks s.clearLive

theorem exec_restartTimeout_cases (step : exec .restartTimeout s = .next t) : s.Keeps t ∨
    s.settings.restart ≠ none ∧ ∃ u, s.Keeps u ∧ u.cleared.Keeps t := by
  change execRestartTimeout s = .next t at step
  unfold execRestartTimeout at step
  split at step
  · cases step; exact .inl (.refl s)
  · next e due =>
    injection step with result
    subst result
    exact .inr ⟨by simp [due], s.reach e, State.Calm.keeps (by simp), State.keeps_restartNow _⟩

theorem exec_frameSent_cases {p : Nat} (step : exec (.frameSent p) s = .next t) : s.Keeps t ∨
    s.settings.restart ≠ none ∧ ∃ u, s.Keeps u ∧ u.cleared.Keeps t := by
  have sent : ∀ (u v : State) (c : QueueClass), u.Keeps v → u.Keeps (v.nextFrame p c) := fun u v c h => h.calm (by simp)
  have tolled : ∀ (v : State) i k, s.Keeps v → s.Keeps (v.tollReport i k) := fun v i k h => h.calm (by simp)
  have calm : ∀ r, s.Keeps ((s.modPort p fun x => (x.countSent s.now).dropHead r)) := fun r => State.Calm.keeps (by simp)
  change execFrameSent p s = .next t at step
  unfold execFrameSent at step
  split at step
  · cases step; exact .inl (.refl s)
  · split at step
    · cases step; exact .inl (State.Calm.keeps (by simp))
    · next c _ =>
      split at step
      · next f _ =>
        cases step
        unfold State.frameSent
        dsimp only
        unfold State.actOnReport
        split
        · exact .inl (sent _ _ c (calm c))
        · exact .inl (sent _ _ c (tolled _ _ _ (calm c)))
        · split
          · next pending =>
            have pending : s.settings.restart.isSome = true := pending
            exact .inr ⟨by simpa using Option.isSome_iff_ne_none.1 pending, _, calm c, sent _ _ c (State.keeps_restartNow _)⟩
          · exact .inl (sent _ _ c (calm c))
      · cases step; exact .inl (.refl s)

/-! ### The autoload (R188) -/

/-- The tables that the autoload finds: those of a VALID image, else the defaults. -/
theorem exec_autoloadEnd_cases {a : Bool} (step : exec (.autoloadEnd a) s = .next t) : s.Keeps t ∨
    s.inPlace = false ∧ ∃ u : State, u.shafts = s.shafts ∧ u.inPlace = true ∧ u.Keeps t ∧
      (u.tables = {} ∨ u.tables.check = true) := by
  change execAutoloadEnd a s = .next t at step
  unfold execAutoloadEnd at step
  split at step
  · cases step; exact .inl (.refl s)
  · next out =>
    dsimp only at step
    generalize judged : judgeImage a s.settings.eeprom = image at step
    have noticed : ∀ v : State, ChangesOnly [.net] v (if image = ImageState.valid then v else v.notify .storeInvalid) :=
      fun v => by split <;> simp [ChangesOnly]
    have loaded : (if image = ImageState.valid then s.settings.eeprom.tables else {}) = {} ∨
        (if image = ImageState.valid then s.settings.eeprom.tables else {}).check = true := by
      split
      · next valid =>
        rw [valid] at judged
        refine .inr ?_
        unfold judgeImage at judged
        split at judged
        · cases judged
        · split at judged
          · next good => simp only [Bool.and_eq_true] at good; exact good.2
          · cases judged
      · exact .inl rfl
    generalize (if image = ImageState.valid then s.settings.eeprom.tables else ({} : Tables)) = tables at step loaded
    generalize loading : ({ s with tables := tables, settings := { s.settings with image := image }, net := {} } : State) = v at step
    have told := noticed v
    generalize (if image = ImageState.valid then v else v.notify .storeInvalid) = w at step told
    injection step with result
    subst result
    have stamped : ChangesOnly [.day] w w.stampImage := State.stampImage_blank (by decide) w
    refine .inr ⟨by simpa using out, _, ?_, rfl, State.keeps_startBlocks _, ?_⟩
    · exact stamped.shafts.trans (told.shafts.trans (by rw [← loading]))
    · have same : w.stampImage.tables = tables := stamped.tables.trans (told.tables.trans (by rw [← loading]))
      change w.stampImage.tables = {} ∨ w.stampImage.tables.check = true
      rw [same]
      exact loaded

end

/-! ### A trip is latched: O11 -/

/-- A trip outlasts every command but those that free its shaft, write its geometry or reset the part. -/
theorem exec_latched {c : Instr} {s t : State} {k : Nat} (tripped : (s.shaft k).state = .tripped) (step : exec c s = .next t) :
    ((t.shaft k).state = .tripped ∧ (t.shaft k).trip = (s.shaft k).trip) ∨ c = .resetShaft k ∨
      (∃ f, c = .setupShaft k f) ∨ c = .powerOn ∨ c = .resetPin ∨
      s.settings.restart ≠ none ∧ (c = .restartTimeout ∨ ∃ p, c = .frameSent p) := by
  have other : ∀ {u : State}, s.Keeps u → (t.shaft k).core = (u.shaft k).core →
      (t.shaft k).state = .tripped ∧ (t.shaft k).trip = (s.shaft k).trip := fun {u} keeps same => by
    obtain ⟨still, cause⟩ := keeps.latched tripped
    exact ⟨(congrArg Shaft.state same).trans still, (congrArg Shaft.trip same).trans cause⟩
  by_cases plain : resetsShafts c = false
  · exact .inl ((exec_keeps plain step).latched tripped)
  · cases c
    case powerOn => simp
    case resetPin => simp
    case resetShaft j =>
      by_cases same : j = k
      · simp [same]
      · rcases exec_resetShaft_cases step with keeps | ⟨-, u, keeps, -, -, cores⟩
        · exact .inl (keeps.latched tripped)
        · exact .inl (other keeps (State.core_of_modify_other cores (Ne.symm same)))
    case setupShaft j f =>
      by_cases same : j = k
      · simp [same]
      · rcases exec_setupShaft_cases step with keeps | ⟨inside, -, u, g, keeps, -, -, -, -, cores⟩
        · exact .inl (keeps.latched tripped)
        · exact .inl (other keeps ((State.core_shaft cores k).trans (u.core_applyShaft_other inside (Ne.symm same))))
    case autoloadEnd a =>
      rcases exec_autoloadEnd_cases step with keeps | ⟨-, u, shafts, -, keeps, -⟩
      · exact .inl (keeps.latched tripped)
      · have same : u.shaft k = s.shaft k := by rw [State.shaft, shafts]; rfl
        rw [← same] at tripped ⊢
        exact .inl (keeps.latched tripped)
    case restartTimeout =>
      rcases exec_restartTimeout_cases step with keeps | ⟨pending, -⟩
      · exact .inl (keeps.latched tripped)
      · simp [pending]
    case frameSent p =>
      rcases exec_frameSent_cases step with keeps | ⟨pending, -⟩
      · exact .inl (keeps.latched tripped)
      · simp [pending]
    all_goals exact absurd rfl plain

/-- Settles O11: only the commands of `exec_latched` reach the trip of a shaft. -/
theorem tripIsLatched : Obligations.TripIsLatched := by
  intro c s t k _ _ tripped step
  exact exec_latched tripped step

end Sys2Proof.Machine
end

section
/-! Every step keeps the outputs of the shafts and their positions (R15, R18, R20): the first two parts of O54. -/

namespace Sys2Proof.Machine

section
variable {s t : State}

theorem Shaft.position_of_core {x y : Shaft} (same : x.core = y.core) : x.pos = y.pos ∧ x.posValid = y.posValid := by
  have pos : x.core.pos = y.core.pos := by rw [same]
  have valid : x.core.posValid = y.core.posValid := by rw [same]
  exact ⟨pos, valid⟩

/-! ### The live state after a reset (R37) -/

/-- Two shafts that stand in IDLE without a position. -/
def State.Unmoved (s : State) : Prop := ∀ k < 2, (s.shaft k).outputsOk = true ∧ (s.shaft k).posValid = false

theorem State.unmoved_of_afterReset {u : State} (reset : u.shafts = s.shafts.map Shaft.afterReset) : u.Unmoved := by
  intro k inside
  obtain ⟨x, here⟩ := s.shafts.get?_eq_some inside
  have same : u.shaft k = x.afterReset := by rw [State.shaft, reset, Tab.getD, Tab.get?_map, here]; rfl
  rw [same]
  exact ⟨rfl, rfl⟩

theorem State.unmoved_clearLive (s : State) : s.clearLive.Unmoved := State.unmoved_of_afterReset rfl

theorem State.unmoved_unload (s : State) : s.unload.Unmoved := by
  have shafts : s.cutShort.shafts = s.shafts :=
    ChangesOnly.shafts (F := [.store, .draws]) (State.cutShort_blank (by decide) (by decide) s)
  exact State.unmoved_of_afterReset (s := s) (by rw [← shafts]; rfl)

theorem State.Unmoved.outputsOk (still : s.Unmoved) : s.outputsOk := fun k inside => (still k inside).1

/-- A loop of a length, with its home mark on it, of each shaft (R15). -/
def Tables.Looped (t : Tables) : Prop :=
  ∀ k < 2, 0 < (t.shafts.getD k {}).geometry.L ∧ (t.shafts.getD k {}).geometry.H < (t.shafts.getD k {}).geometry.L

theorem Tables.looped_default : Tables.Looped {} := by unfold Tables.Looped; decide

theorem Tables.looped_of_check {x : Tables} (good : x.check = true) : x.Looped := by
  have shafts : ∀ k ∈ [0, 1], x.shaftOk k (x.shafts.getD k {}).geometry = true := by
    unfold Tables.check at good
    simp only [Bool.and_eq_true, List.all_eq_true] at good
    obtain ⟨⟨⟨⟨⟨-, shafts⟩, -⟩, -⟩, -⟩, -⟩ := good
    exact fun k mem => (shafts k mem).1.1
  intro k inside
  have ok := shafts k (by have := inside; simp; omega)
  simp only [Tables.shaftOk, Bool.and_eq_true, decide_eq_true_eq] at ok
  obtain ⟨⟨-, -, -, -, loop⟩, -⟩ := ok
  exact ⟨by omega, loop⟩

/-- With a loop for each shaft, and no position, the positions are right while the tables are in place. -/
theorem State.Unmoved.positionsOk (still : s.Unmoved) (looped : s.tables.Looped) (loaded : s.inPlace = true) : s.PositionsOk where
  loop := looped
  position k inside known := by cases (still k inside).2.symm.trans known
  loaded out := by rw [loaded] at out; cases out

/-! ### The outputs (R18) -/

theorem exec_outputsOk {c : Instr} (ok : s.outputsOk) (step : exec c s = .next t) : t.outputsOk := by
  by_cases plain : resetsShafts c = false
  · exact (exec_keeps plain step).outputsOk ok
  · cases c
    case powerOn => cases step; exact (State.unmoved_unload s).outputsOk
    case resetPin => cases step; exact (State.unmoved_unload s).outputsOk
    case resetShaft k =>
      rcases exec_resetShaft_cases step with keeps | ⟨inside, u, keeps, -, -, cores⟩
      · exact keeps.outputsOk ok
      · intro j there
        by_cases same : j = k
        · subst same
          have freed := (Shaft.outputsOk_freed (u.shaft j).core (u.geometry j)).1
          rw [← State.core_of_modify inside cores] at freed
          exact freed
        · have kept := keeps.outputsOk ok j there
          exact (congrArg Shaft.outputsOk (State.core_of_modify_other cores same)).trans kept
    case setupShaft k f =>
      rcases exec_setupShaft_cases step with keeps | ⟨inside, -, u, g, keeps, -, stands, -, -, cores⟩
      · exact keeps.outputsOk ok
      · intro j there
        have kept := keeps.outputsOk ok j there
        refine (congrArg Shaft.outputsOk (State.core_shaft cores j)).trans ?_
        by_cases same : j = k
        · subst same
          exact (u.applyShaft_sound inside stands).1 kept
        · exact (congrArg Shaft.outputsOk (u.core_applyShaft_other inside same)).trans kept
    case autoloadEnd a =>
      rcases exec_autoloadEnd_cases step with keeps | ⟨-, u, shafts, -, keeps, -⟩
      · exact keeps.outputsOk ok
      · refine keeps.outputsOk fun k inside => ?_
        have same : u.shaft k = s.shaft k := by rw [State.shaft, shafts]; rfl
        rw [same]
        exact ok k inside
    case restartTimeout =>
      rcases exec_restartTimeout_cases step with keeps | ⟨-, u, -, keeps⟩
      · exact keeps.outputsOk ok
      · exact keeps.outputsOk (State.unmoved_clearLive u).outputsOk
    case frameSent p =>
      rcases exec_frameSent_cases step with keeps | ⟨-, u, -, keeps⟩
      · exact keeps.outputsOk ok
      · exact keeps.outputsOk (State.unmoved_clearLive u).outputsOk
    all_goals exact absurd rfl plain

/-! ### The positions (R15, R20) -/

theorem State.positionsOk_unload (s : State) {u : State} (tables : u.tables = s.unload.tables) (shafts : u.shafts = s.unload.shafts)
    (out : u.inPlace = false) : u.PositionsOk := by
  have none : u.tables = {} := tables
  have still : u.Unmoved := fun k inside => by
    have same : u.shaft k = s.unload.shaft k := by rw [State.shaft, shafts]; rfl
    rw [same]
    exact s.unmoved_unload k inside
  have off : ∀ k < 2, (Tab.getD ({} : Tables).shafts k {}).geometry.enabled = false := by decide
  refine ⟨fun k inside => ?_, fun k inside known => ?_, fun _ k inside => ⟨?_, (still k inside).2⟩⟩
  · rw [State.geometry, none]
    exact Tables.looped_default k inside
  · cases (still k inside).2.symm.trans known
  · rw [State.shaftEnabled, State.geometry, none]
    exact off k inside

theorem State.positionsOk_restart {u : State} (ok : s.PositionsOk) (keeps : s.Keeps u) (after : u.cleared.Keeps t) : t.PositionsOk :=
  after.positionsOk (State.Unmoved.positionsOk (s := u.cleared) (State.unmoved_clearLive u) (keeps.positionsOk ok).loop rfl)

theorem exec_positionsOk {c : Instr} (ok : s.PositionsOk) (step : exec c s = .next t) : t.PositionsOk := by
  by_cases plain : resetsShafts c = false
  · exact (exec_keeps plain step).positionsOk ok
  · cases c
    case powerOn => cases step; exact s.positionsOk_unload rfl rfl rfl
    case resetPin => cases step; exact s.positionsOk_unload rfl rfl rfl
    case resetShaft k =>
      rcases exec_resetShaft_cases step with keeps | ⟨inside, u, keeps, tables, inPlace, cores⟩
      · exact keeps.positionsOk ok
      · have kept := keeps.positionsOk ok
        have geometry : ∀ j, t.geometry j = u.geometry j := fun j => by rw [State.geometry, tables]; rfl
        have gauge : ∀ j, (t.shaft j).posValid = (u.shaft j).posValid ∧ (t.shaft j).pos = (u.shaft j).pos := fun j => by
          by_cases same : j = k
          · subst same
            have freed := (Shaft.outputsOk_freed (u.shaft j).core (u.geometry j)).2
            rw [← State.core_of_modify inside cores] at freed
            obtain ⟨pos, valid, -⟩ := Shaft.status_of_gauge freed
            exact ⟨valid, pos⟩
          · obtain ⟨pos, valid⟩ := Shaft.position_of_core (State.core_of_modify_other cores same)
            exact ⟨valid, pos⟩
        refine ⟨fun j there => ?_, fun j there known => ?_, fun out j there => ?_⟩
        · rw [geometry]; exact kept.loop j there
        · rw [(gauge j).2, geometry]
          exact kept.position j there ((gauge j).1 ▸ known)
        · rw [State.shaftEnabled, geometry, (gauge j).1]
          exact kept.loaded (inPlace ▸ out) j there
    case setupShaft k f =>
      rcases exec_setupShaft_cases step with keeps | ⟨inside, loaded, u, g, keeps, loop, stands, tables, inPlace, cores⟩
      · exact keeps.positionsOk ok
      · have kept := keeps.positionsOk ok
        have geometry : ∀ j < 2, t.geometry j = if k = j then g else u.geometry j := fun j there => by
          rw [State.geometry, tables]
          refine (u.geometry_applyShaft k (u.geometry k) g j).trans ?_
          simp only [there, and_true]
        have core := fun j => Shaft.position_of_core (State.core_shaft cores j)
        refine ⟨fun j there => ?_, fun j there known => ?_, fun out => ?_⟩
        · rw [geometry j there]
          split
          · exact ⟨Nat.lt_of_le_of_lt (Nat.zero_le _) loop, loop⟩
          · exact kept.loop j there
        · rw [geometry j there, (core j).1]
          rw [(core j).2] at known
          by_cases same : j = k
          · subst same
            rw [if_pos rfl]
            exact (u.applyShaft_sound inside stands).2 (kept.position j there) known
          · obtain ⟨pos, valid⟩ := Shaft.position_of_core (u.core_applyShaft_other (o := u.geometry k) (g := g) inside same)
            rw [if_neg (Ne.symm same), pos]
            exact kept.position j there (valid ▸ known)
        · have loaded : t.inPlace = true := inPlace.trans (keeps.inPlace.trans loaded)
          rw [loaded] at out
          cases out
    case autoloadEnd a =>
      rcases exec_autoloadEnd_cases step with keeps | ⟨out, u, shafts, loaded, keeps, found⟩
      · exact keeps.positionsOk ok
      · have looped : u.tables.Looped := by
          rcases found with default | good
          · rw [default]; exact Tables.looped_default
          · exact Tables.looped_of_check good
        refine keeps.positionsOk ⟨looped, fun k inside known => ?_, fun none => by rw [loaded] at none; cases none⟩
        have same : u.shaft k = s.shaft k := by rw [State.shaft, shafts]; rfl
        rw [same, (ok.loaded out k inside).2] at known
        cases known
    case restartTimeout =>
      rcases exec_restartTimeout_cases step with keeps | ⟨-, u, before, keeps⟩
      · exact keeps.positionsOk ok
      · exact State.positionsOk_restart ok before keeps
    case frameSent p =>
      rcases exec_frameSent_cases step with keeps | ⟨-, u, before, keeps⟩
      · exact keeps.positionsOk ok
      · exact State.positionsOk_restart ok before keeps
    all_goals exact absurd rfl plain

end

end Sys2Proof.Machine
end

section
/-! The sounders with their zones (R119, R120, R126, R127): a predicate that every operation of chapters 1 to 11 keeps, with the
sounders that an operation under way has still to bring into line. -/

namespace Sys2Proof.Machine

/-! ### The predicate -/

/-- EVACUATING has CONTINUOUS in force, ARBITRATING never, SILENT nothing at all (R123, R126, R127). -/
def Arbiter.Sound (a : Arbiter) : Prop :=
  (a.service = .evacuating ↔ a.inForce = .continuous) ∧ (a.service = .silent → a.inForce = .none)

/-- What a change of an arbiter keeps: its service and, unless it is ARBITRATING, its pattern in force. -/
def Arbiter.Follows (a b : Arbiter) : Prop :=
  b.service = a.service ∧ (b.inForce = a.inForce ∨ a.service = .arbitrating ∧ b.inForce ≠ .continuous)

theorem Arbiter.Follows.sound {a b : Arbiter} (follows : a.Follows b) (sound : a.Sound) : b.Sound := by
  obtain ⟨service, same | ⟨arbitrates, timed⟩⟩ := follows
  · unfold Arbiter.Sound
    rw [service, same]
    exact sound
  · rw [arbitrates] at service
    exact ⟨⟨fun h => (by cases service.symm.trans h), fun h => absurd h timed⟩, fun h => by cases service.symm.trans h⟩

/-- A timed pattern is in force only at an ARBITRATING sounder. -/
theorem Arbiter.Sound.arbitrating {a : Arbiter} (sound : a.Sound) (timed : a.inForce ≠ .none) (other : a.inForce ≠ .continuous) :
    a.service = .arbitrating := by
  cases service : a.service with
  | arbitrating => rfl
  | evacuating => exact absurd (sound.1.1 service) other
  | silent => exact absurd (sound.2 service) timed

/-- The fields that no arbiter, station record or zone's state is read from. -/
abbrev hushed : List Field :=
  [.stations, .unknownSource, .mismatchDrop, .shafts, .points, .unknownPoint, .shutters, .unknownDrive, .calls, .clock, .day,
   .playback, .net, .exchange, .settings, .store, .pending, .now, .draws, .tokens]

/-- The sounders follow their zones, but for those listed: an operation under way has still to set the services of the sounders
`away` afresh, and to make or end the arbiters of the stations `gone`. It reads no field that is `hushed`, and is stated of
states without them. -/
structure State.Tuned (s : State) (away gone : List Nat) : Prop where
  loaded : s.inPlace = false → ∀ i, s.arbiter i = none
  being : ∀ i, i ∉ gone → (s.arbiter i).isSome = (s.station i).any fun c => decide (c.role = .sounder)
  service : ∀ i, i ∉ away → ∀ a, s.arbiter i = some a → a.service = s.serviceFor i
  sound : ∀ i a, s.arbiter i = some a → a.Sound

theorem State.arbiter_outside (s : State) {i : Nat} (outside : ¬ i < 96) : s.arbiter i = none := by
  cases here : s.arbiter i with
  | none => rfl
  | some a => exact absurd (State.arbiter_lt here) outside

theorem State.soundersFollow_iff_tuned (s : State) : s.SoundersFollow ↔ s.Tuned [] [] := by
  constructor
  · intro h
    refine ⟨fun out i => ?_, fun i _ => ?_, fun i _ a here => h.service i (State.arbiter_lt here) a here,
      fun i a here => h.pattern i (State.arbiter_lt here) a here⟩
    · by_cases inside : i < 96
      · exact h.loaded out i inside
      · exact s.arbiter_outside inside
    · by_cases inside : i < 96
      · exact h.being i inside
      · rw [s.arbiter_outside inside, State.station, Tab.at?, Tab.get?_eq_none _ (Nat.le_of_not_lt inside)]
        rfl
  · intro h
    exact ⟨fun out i _ => h.loaded out i, fun i _ => h.being i (by simp), fun i _ => h.service i (by simp),
      fun i _ => h.sound i⟩

section
variable {s t : State} {away gone : List Nat} {F : List Field}

theorem State.tuned_blank (s : State) : (s.blank hushed).Tuned away gone ↔ s.Tuned away gone :=
  ⟨fun h => ⟨h.loaded, h.being, h.service, h.sound⟩, fun h => ⟨h.loaded, h.being, h.service, h.sound⟩⟩

/-- Every sounder whose service may be wrong is also exempt from a longer list. -/
theorem State.Tuned.mono {more most : List Nat} (h : s.Tuned away gone) (services : away ⊆ more) (beings : gone ⊆ most) :
    s.Tuned more most :=
  ⟨h.loaded, fun i out => h.being i fun mem => out (beings mem), fun i out => h.service i fun mem => out (services mem), h.sound⟩

@[simp] theorem State.tuned_ite {c : Prop} [Decidable c] :
    (if c then s else t).Tuned away gone ↔ (c → s.Tuned away gone) ∧ (¬ c → t.Tuned away gone) := by
  by_cases holds : c <;> simp [holds]

/-- A step that changes no field that is read. -/
theorem State.tuned_of_hushed (before : (s.blank hushed).Tuned away gone) (same : t.blank hushed = s.blank hushed) :
    (t.blank hushed).Tuned away gone := same ▸ before

theorem State.tuned_foldl {α : Type} {f : State → α → State}
    (each : ∀ (t : State) a, (t.blank hushed).Tuned away gone → ((f t a).blank hushed).Tuned away gone) (l : List α)
    (before : (s.blank hushed).Tuned away gone) : ((l.foldl f s).blank hushed).Tuned away gone := by
  induction l generalizing s with
  | nil => exact before
  | cons a l ih => exact ih (each s a before)

@[simp] theorem State.tuned_forEach {f : State → Nat → State} {is : List Nat} (before : (s.blank hushed).Tuned away gone)
    (each : ∀ (t : State) i, (t.blank hushed).Tuned away gone → ((f t i).blank hushed).Tuned away gone) :
    ((s.forEach is f).blank hushed).Tuned away gone :=
  State.tuned_foldl each is before

end

/-! ### Arbiters and zones changed in place -/

section
variable {s : State} {away gone : List Nat} (before : (s.blank hushed).Tuned away gone)
include before

/-- A change of an arbiter that keeps its service and the rule of its pattern. -/
theorem State.tuned_follow {i : Nat} {f : Arbiter → Arbiter} (follows : ∀ a, s.arbiter i = some a → a.Sound → a.Follows (f a)) :
    ((s.modArbiter i f).blank hushed).Tuned away gone := by
  have before := (State.tuned_blank _).1 before
  rw [State.tuned_blank]
  have at_ : ∀ j b, (s.modArbiter i f).arbiter j = some b → ∃ a, s.arbiter j = some a ∧ b.service = a.service ∧ b.Sound :=
    fun j b here => by
      rw [State.arbiter_modArbiter] at here
      split at here
      · next same =>
        subst same
        obtain ⟨a, old, rfl⟩ := Option.map_eq_some_iff.1 here
        have kept := follows a old (before.sound _ _ old)
        exact ⟨a, old, kept.1, kept.sound (before.sound _ _ old)⟩
      · exact ⟨b, here, rfl, before.sound _ _ here⟩
  refine ⟨fun out j => ?_, fun j in_ => ?_, fun j in_ b here => ?_, fun j b here => (at_ j b here).choose_spec.2.2⟩
  · rw [State.arbiter_modArbiter, before.loaded out j]
    simp
  · refine Eq.trans ?_ (before.being j in_)
    rw [State.arbiter_modArbiter]
    split <;> simp
  · obtain ⟨a, old, service, -⟩ := at_ j b here
    exact service.trans (before.service j in_ a old)

@[simp] theorem State.tuned_modArbiter {i : Nat} {f : Arbiter → Arbiter} (service : ∀ a, (f a).service = a.service)
    (inForce : ∀ a, (f a).inForce = a.inForce) : ((s.modArbiter i f).blank hushed).Tuned away gone :=
  State.tuned_follow before fun a _ _ => ⟨service a, .inl (inForce a)⟩

@[simp] theorem State.tuned_modZone {z : Nat} {f : ZoneLive → ZoneLive} (state : ∀ x, (f x).state = x.state) :
    ((s.modZone z f).blank hushed).Tuned away gone := by
  have before := (State.tuned_blank _).1 before
  rw [State.tuned_blank]
  refine ⟨before.loaded, before.being, fun i in_ a here => (before.service i in_ a here).trans ?_, before.sound⟩
  refine (State.serviceFor_congr (s := s) (t := s.modZone z f) rfl fun y => ?_).symm
  rw [State.zone_modZone]
  split
  · exact state _
  · rfl

end

/-! ### The Sounder Arbiter (chapter 7) -/

section
variable {s : State} {away gone : List Nat} (before : (s.blank hushed).Tuned away gone)
include before

@[simp] theorem State.tuned_toll (i : Nat) (t : Toll) (report : Report) : ((s.toll i t report).blank hushed).Tuned away gone := by
  unfold State.toll; simp [before]

/-- A request is served at an ARBITRATING sounder only. -/
theorem State.tuned_serve {i : Nat} (arbitrates : ∀ a, s.arbiter i = some a → a.service = .arbitrating) (r : Ring) :
    ((s.serve i r).blank hushed).Tuned away gone := by
  have counted : (({ s with tokens := s.tokens + 1 } : State).blank hushed).Tuned away gone := State.tuned_of_hushed before rfl
  unfold State.serve
  refine State.tuned_toll (State.tuned_follow counted fun a here _ => ?_) i _ _
  exact ⟨rfl, .inr ⟨arbitrates a here, by simp⟩⟩

@[simp] theorem State.tuned_choose (i : Nat) : ((s.choose i).blank hushed).Tuned away gone := by
  unfold State.choose
  split
  · exact before
  · next a here =>
    split
    · next free =>
      split
      · exact State.tuned_serve before (fun b there => by cases here.symm.trans there; exact free.1) _
      · exact before
    · exact before

/-- A pattern is ended at an ARBITRATING sounder only. -/
theorem State.tuned_endPattern {i : Nat} (arbitrates : ∀ a, s.arbiter i = some a → a.service = .arbitrating) :
    ((s.endPattern i).blank hushed).Tuned away gone :=
  State.tuned_follow before fun a here _ => ⟨rfl, .inr ⟨arbitrates a here, by simp⟩⟩

@[simp] theorem State.tuned_ring (i : Nat) (c : RingClass) (p : Pattern) (o : RingOwner) :
    ((s.ring i c p o).1.blank hushed).Tuned away gone := by
  unfold State.ring
  dsimp only
  (repeat' split) <;> simp [before]

@[simp] theorem State.tuned_withdraw (i : Nat) (o : RingOwner) : ((s.withdraw i o).blank hushed).Tuned away gone := by
  unfold State.withdraw
  split
  · exact before
  · next a here =>
    dsimp only
    split
    · next owned =>
      have sound := ((State.tuned_blank _).1 before).sound i a here
      have timed : a.inForce ≠ .none ∧ a.inForce ≠ .continuous := by
        constructor <;> intro none <;> rw [none] at owned <;> cases owned
      have arbitrates := sound.arbitrating timed.1 timed.2
      have ended : ∀ f, (∀ a : Arbiter, (f a).service = a.service) → (∀ a, (f a).inForce = a.inForce) →
          (((s.modArbiter i f).endPattern i).blank hushed).Tuned away gone := fun f service inForce =>
        State.tuned_endPattern (State.tuned_modArbiter before service inForce) fun b there => by
          cases (State.arbiter_modArbiter_some here f).symm.trans there
          exact (service a).trans arbitrates
      refine State.tuned_choose (State.tuned_toll (ended _ ?_ ?_) i _ _) i <;> exact fun _ => rfl
    · simp [before]

@[simp] theorem State.tuned_withdrawAll (o : RingOwner) : ((s.withdrawAll o).blank hushed).Tuned away gone :=
  State.tuned_forEach before fun _ i h => State.tuned_withdraw h i o

@[simp] theorem State.tuned_sounderLoss (i : Nat) : ((s.sounderLoss i).blank hushed).Tuned away gone :=
  State.tuned_follow before fun a _ sound => by
    refine ⟨rfl, ?_⟩
    dsimp only
    split
    · next same => exact .inl same.symm
    · next other =>
      by_cases none : a.inForce = .none
      · exact .inl none.symm
      · exact .inr ⟨sound.arbitrating none other, by simp⟩

@[simp] theorem State.tuned_sounderRegain (i : Nat) : ((s.sounderRegain i).blank hushed).Tuned away gone := by
  unfold State.sounderRegain; split <;> simp [before]

@[simp] theorem State.tuned_tollReport (i token : Nat) : ((s.tollReport i token).blank hushed).Tuned away gone := by
  have stray : ∀ v : Service, ((match v with
      | .arbitrating => s | .evacuating => s.toll i .continuous | .silent => s.toll i .stop).blank hushed).Tuned away gone :=
    fun v => by cases v <;> simp [before]
  unfold State.tollReport
  split
  · exact before
  · next a here =>
    dsimp only
    split
    · next starting =>
      split
      · refine State.tuned_follow before fun b there sound => ⟨rfl, .inr ⟨?_, by simp⟩⟩
        cases here.symm.trans there
        exact sound.arbitrating (by simp [starting]) (by simp [starting])
      · exact stray _
    · exact stray _

end

end Sys2Proof.Machine
end

section
/-! The operations of chapters 2, 5, 6, 8 and 9 keep the sounders with their zones. -/

namespace Sys2Proof.Machine

section
variable {s : State} {away gone : List Nat} (before : (s.blank hushed).Tuned away gone)
include before

/-! ### The Call Router (chapter 6) -/

@[simp] theorem State.tuned_placeRingsAt (r : CallRecord) (is : List Nat) : ((s.placeRingsAt r is).blank hushed).Tuned away gone :=
  State.tuned_forEach before fun _ i h => State.tuned_ring h i _ _ _

@[simp] theorem State.tuned_placeRings (r : CallRecord) : ((s.placeRings r).blank hushed).Tuned away gone :=
  State.tuned_placeRingsAt before r _

@[simp] theorem State.tuned_ringAfresh (r : CallRecord) : ((s.ringAfresh r).blank hushed).Tuned away gone :=
  State.tuned_placeRings (State.tuned_withdrawAll before _) r

@[simp] theorem State.tuned_removeRecord (n : Nat) : ((s.removeRecord n).blank hushed).Tuned away gone := by
  unfold State.removeRecord; simp [before]

@[simp] theorem State.tuned_appendRecord (p : Nat) (k : CallClass) : ((s.appendRecord p k).blank hushed).Tuned away gone := by
  unfold State.appendRecord; simp [before]

@[simp] theorem State.tuned_mergePress (r : CallRecord) : ((s.mergePress r).blank hushed).Tuned away gone := by
  unfold State.mergePress; simp [before]

@[simp] theorem State.tuned_pressFull (p : Nat) (k : CallClass) : ((s.pressFull p k).blank hushed).Tuned away gone := by
  unfold State.pressFull; split <;> simp [before]

@[simp] theorem State.tuned_press (p : Nat) (k : CallClass) : ((s.press p k).blank hushed).Tuned away gone := by
  unfold State.press; (repeat' split) <;> simp [before]

@[simp] theorem State.tuned_cancel (p : Nat) (k : CallClass) : ((s.cancel p k).blank hushed).Tuned away gone := by
  unfold State.cancel; split <;> simp [before]

@[simp] theorem State.tuned_acknowledge (a : Addr) (k : CallClass) : ((s.acknowledge a k).blank hushed).Tuned away gone := by
  unfold State.acknowledge; dsimp only; split <;> simp [before]

@[simp] theorem State.tuned_holdRecord (r : CallRecord) : ((s.holdRecord r).blank hushed).Tuned away gone := by
  unfold State.holdRecord; simp [before]

@[simp] theorem State.tuned_resumeRecord (r : CallRecord) : ((s.resumeRecord r).blank hushed).Tuned away gone := by
  unfold State.resumeRecord; simp [before]

@[simp] theorem State.tuned_holdZone (z : Nat) : ((s.holdZone z).blank hushed).Tuned away gone := by
  have held := State.tuned_foldl (fun t r h => State.tuned_holdRecord h r) (s.recordsIn z) before
  unfold State.holdZone; simp [held]

@[simp] theorem State.tuned_resumeZone (z : Nat) : ((s.resumeZone z).blank hushed).Tuned away gone := by
  have resumed := State.tuned_foldl (fun t r h => State.tuned_resumeRecord h r) (s.recordsIn z) before
  unfold State.resumeZone; simp [resumed]

@[simp] theorem State.tuned_rejudgePoint (p : Nat) : ((s.rejudgePoint p).blank hushed).Tuned away gone := by
  have judged := State.tuned_foldl (f := if s.holdsPoint p then State.holdRecord else State.resumeRecord)
    (fun t r h => by split <;> simp [h]) (s.calls.records.filter fun r => decide (r.point = p)) before
  unfold State.rejudgePoint; simp [judged]

@[simp] theorem State.tuned_moveRecord (r : CallRecord) : ((s.moveRecord r).blank hushed).Tuned away gone := by
  unfold State.moveRecord; simp [before]

@[simp] theorem State.tuned_annunciatorLoss (i : Nat) : ((s.annunciatorLoss i).blank hushed).Tuned away gone := by
  have moved := fun l => State.tuned_foldl (fun t r h => State.tuned_moveRecord h r) l before
  unfold State.annunciatorLoss; simp [moved]

@[simp] theorem State.tuned_officeSoundersChanged : ((s.officeSoundersChanged).blank hushed).Tuned away gone :=
  State.tuned_foldl (fun _ r h => State.tuned_ringAfresh h r) _ before

@[simp] theorem State.tuned_closeCalls : ((s.closeCalls).blank hushed).Tuned away gone := by
  have removed := fun l => State.tuned_foldl (f := fun (s : State) (r : CallRecord) => (s.removeRecord r.number).countCalls fun c =>
    { c with cleared := bump c.cleared, clearedAtClose := bump c.clearedAtClose }) (fun t r h => by simp [h]) l before
  unfold State.closeCalls; simp [removed]

@[simp] theorem State.tuned_clearRecords (p : CallRecord → Bool) : ((s.clearRecords p).blank hushed).Tuned away gone := by
  have removed := fun l => State.tuned_foldl (f := fun (s : State) (r : CallRecord) => (s.removeRecord r.number).countCalls fun c =>
    { c with cleared := bump c.cleared }) (fun t r h => by simp [h]) l before
  unfold State.clearRecords; simp [removed]

/-! ### Modes and trips (chapters 2 and 8) -/

@[simp] theorem State.tuned_enterMode (m : StoreMode) (src : ModeSource) : ((s.enterMode m src).blank hushed).Tuned away gone := by
  unfold State.enterMode; simp [before]

@[simp] theorem State.tuned_closingCheck : ((s.closingCheck).blank hushed).Tuned away gone := by
  unfold State.closingCheck; simp [before]

@[simp] theorem State.tuned_tripShaft (k : Nat) (c : TripCause) : ((s.tripShaft k c).blank hushed).Tuned away gone := by
  unfold State.tripShaft; simp [before]

@[simp] theorem State.tuned_tripLanding (c : TripCause) (r : Option LandingRef) : ((s.tripLanding c r).blank hushed).Tuned away gone := by
  cases r with
  | none => exact before
  | some r => exact State.tuned_tripShaft before r.shaft c

@[simp] theorem State.tuned_enterHeld (k : Nat) (o : Outcome) : ((s.enterHeld k o).blank hushed).Tuned away gone := by
  unfold State.enterHeld; simp [before]

@[simp] theorem State.tuned_attemptReapproach (k : Nat) : ((s.attemptReapproach k).blank hushed).Tuned away gone := by
  unfold State.attemptReapproach; dsimp only; (repeat' split) <;> simp [before]

@[simp] theorem State.tuned_standstillCheck (k : Nat) : ((s.standstillCheck k).blank hushed).Tuned away gone := by
  unfold State.standstillCheck; (repeat' split) <;> simp [before]

@[simp] theorem State.tuned_standstillEvent (k : Nat) : ((s.standstillEvent k).blank hushed).Tuned away gone := by
  unfold State.standstillEvent; dsimp only; (repeat' split) <;> simp [before]

@[simp] theorem State.tuned_orderReset (k : Nat) : ((s.orderReset k).1.blank hushed).Tuned away gone := by
  unfold State.orderReset; dsimp only; (repeat' split) <;> simp [before]

@[simp] theorem State.tuned_afterBackward (k : Nat) : ((s.afterBackward k).blank hushed).Tuned away gone := by
  unfold State.afterBackward; dsimp only; (repeat' split) <;> simp [before]

@[simp] theorem State.tuned_homeMark (k : Nat) : ((s.homeMark k).blank hushed).Tuned away gone := by
  unfold State.homeMark; dsimp only; (repeat' split) <;> simp [before]

@[simp] theorem State.tuned_endWindow (k : Nat) : ((s.endWindow k).blank hushed).Tuned away gone := by
  have measured : ∀ f g (n : Nat), (((if (s.geometry k).Vmax < n then (s.modShaft k f).tripShaft k .overspeed
      else s.modShaft k f).modShaft k g).blank hushed).Tuned away gone := fun f g n => by split <;> simp [before]
  have acted : ∀ (t : State) (b : Bool), (t.blank hushed).Tuned away gone →
      ((if b then t.standstillEvent k else t).blank hushed).Tuned away gone := fun t b h => by cases b <;> simp [h]
  exact acted _ _ (measured _ _ _)

/-! ### The Announcement Channels (chapter 9) -/

@[simp] theorem State.tuned_fallbackRing (z : Nat) : ((s.fallbackRing z).blank hushed).Tuned away gone :=
  State.tuned_forEach before fun t i h => by dsimp only; split <;> simp [h]

@[simp] theorem State.tuned_startRequest (r : StoredRequest) : ((s.startRequest r).blank hushed).Tuned away gone := by
  have rung := fun l => State.tuned_forEach (is := l) before fun t z h => State.tuned_fallbackRing h z
  unfold State.startRequest; simp [rung]

@[simp] theorem State.tuned_startHeads (rs : List StoredRequest) : ((s.startHeads rs).blank hushed).Tuned away gone := by
  induction rs generalizing s with
  | nil => simp [State.startHeads, before]
  | cons r rest ih =>
    have started : (((s.modPlayback fun p => { p with queue := rest }).startRequest r).blank hushed).Tuned away gone := by simp [before]
    unfold State.startHeads
    dsimp only
    split
    · exact started
    · exact ih started

@[simp] theorem State.tuned_startNext : ((s.startNext).blank hushed).Tuned away gone := by
  unfold State.startNext; simp [before]

@[simp] theorem State.tuned_abandonStored (p : StoredPlay) : ((s.abandonStored p).blank hushed).Tuned away gone := by
  unfold State.abandonStored; simp [before]

@[simp] theorem State.tuned_loseZones : ((s.loseZones).blank hushed).Tuned away gone := by
  unfold State.loseZones
  split
  · exact before
  · have rung : ∀ f l, (((s.countPlayback f).forEach l State.fallbackRing).blank hushed).Tuned away gone := fun f l =>
      State.tuned_forEach (by simp [before]) fun t z h => State.tuned_fallbackRing h z
    simp [rung]

@[simp] theorem State.tuned_settlePlayback : ((s.settlePlayback).blank hushed).Tuned away gone := by
  unfold State.settlePlayback; simp [before]

@[simp] theorem State.tuned_joinStored (q : List StoredRequest) (r : StoredRequest) : ((s.joinStored q r).blank hushed).Tuned away gone := by
  unfold State.joinStored; simp [before]

@[simp] theorem State.tuned_placeStored (phrase : Nat) (zones : ZoneMask) (gain : Nat) (urgent : Bool) (origin : RequestOrigin) :
    ((s.placeStored phrase zones gain urgent origin).1.blank hushed).Tuned away gone := by
  unfold State.placeStored; dsimp only; (repeat' split) <;> simp [before]

@[simp] theorem State.tuned_endPage (why : PageEnd) : ((s.endPage why).blank hushed).Tuned away gone := by
  unfold State.endPage; simp [before]

@[simp] theorem State.tuned_startPageOrder (zones : ZoneMask) (gain : Nat) (src : Addr) :
    ((s.startPageOrder zones gain src).blank hushed).Tuned away gone := by
  unfold State.startPageOrder; simp [before]

@[simp] theorem State.tuned_speakerLoss : ((s.speakerLoss).blank hushed).Tuned away gone := by
  unfold State.speakerLoss; simp [before]

@[simp] theorem State.tuned_speakerRegain (i : Nat) : ((s.speakerRegain i).blank hushed).Tuned away gone := by
  unfold State.speakerRegain; simp [before]

end

end Sys2Proof.Machine
end

section
/-! The services of the sounders set afresh (R119, R120), and the zones whose states they follow (R61 to R73). -/

namespace Sys2Proof.Machine

/-! ### Services set afresh -/

section
variable {s : State} {i : Nat} {is gone : List Nat} {f : Arbiter → Arbiter}

/-- An arbiter given the service of its zone, with the pattern of that service. -/
theorem State.tuned_retune (before : (s.blank hushed).Tuned (i :: is) gone)
    (service : ∀ a, s.arbiter i = some a → (f a).service = s.serviceFor i)
    (sound : ∀ a, s.arbiter i = some a → (f a).Sound) : ((s.modArbiter i f).blank hushed).Tuned is gone := by
  have before := (State.tuned_blank _).1 before
  rw [State.tuned_blank]
  refine ⟨fun out j => ?_, fun j in_ => ?_, fun j in_ b here => ?_, fun j b here => ?_⟩
  · rw [State.arbiter_modArbiter, before.loaded out j]
    simp
  · refine Eq.trans ?_ (before.being j in_)
    rw [State.arbiter_modArbiter]
    split <;> simp
  all_goals
    rw [State.arbiter_modArbiter] at here
    split at here
  · next same =>
    subst same
    obtain ⟨a, old, rfl⟩ := Option.map_eq_some_iff.1 here
    exact service a old
  · next other => exact before.service j (by simp [in_, Ne.symm other]) b here
  · next same =>
    subst same
    obtain ⟨a, old, rfl⟩ := Option.map_eq_some_iff.1 here
    exact sound a old
  · exact before.sound j b here

variable (before : (s.blank hushed).Tuned (i :: is) gone)
include before

theorem State.tuned_evacuate (service : s.serviceFor i = .evacuating) : ((s.evacuate i).blank hushed).Tuned is gone := by
  unfold State.evacuate
  refine State.tuned_toll (State.tuned_retune before (fun a _ => ?_) fun a _ => ?_) i _ _
  · exact service.symm
  · exact ⟨by simp, by simp⟩

theorem State.tuned_silence (service : s.serviceFor i = .silent) (a : Arbiter) : ((s.silence i a).blank hushed).Tuned is gone := by
  have silenced : ((s.modArbiter i fun a => { a with service := .silent, inForce := .none, preempt := none, refresh := none }).blank
      hushed).Tuned is gone := by
    refine State.tuned_retune before (fun a _ => ?_) fun a _ => ?_
    · exact service.symm
    · exact ⟨by simp, by simp⟩
  unfold State.silence
  simp [silenced]

theorem State.tuned_arbitrate (service : s.serviceFor i = .arbitrating) (a : Arbiter) :
    ((s.arbitrate i a).blank hushed).Tuned is gone := by
  have freed : ((s.modArbiter i fun a => { a with service := .arbitrating, inForce := .none, preempt := none, refresh := none }).blank
      hushed).Tuned is gone := by
    refine State.tuned_retune before (fun a _ => ?_) fun a _ => ?_
    · exact service.symm
    · exact ⟨by simp, by simp⟩
  unfold State.arbitrate
  simp [freed]

theorem State.tuned_updateService : ((s.updateService i).blank hushed).Tuned is gone := by
  have settled : (∀ a, s.arbiter i = some a → a.service = s.serviceFor i) → (s.blank hushed).Tuned is gone := fun same => by
    have before := (State.tuned_blank _).1 before
    rw [State.tuned_blank]
    refine ⟨before.loaded, before.being, fun j in_ a here => ?_, before.sound⟩
    by_cases self : j = i
    · subst self; exact same a here
    · exact before.service j (by simp [in_, self]) a here
  unfold State.updateService
  split
  · next here => exact settled fun a there => by cases here.symm.trans there
  · next a here =>
    dsimp only
    split
    · next same => exact settled fun b there => by cases here.symm.trans there; exact same
    · split
      · next due => exact State.tuned_evacuate before due
      · next due => exact State.tuned_silence before due a
      · next due => exact State.tuned_arbitrate before due a

end

section
variable {s : State} {gone : List Nat}

/-- The sounders of a zone, each brought into line (R120). -/
theorem State.tuned_updateServices {is : List Nat} (before : (s.blank hushed).Tuned is gone) :
    ((s.forEach is State.updateService).blank hushed).Tuned [] gone := by
  induction is generalizing s with
  | nil => exact before
  | cons i is ih => exact ih (State.tuned_updateService before)

theorem State.tuned_updateSounders {u : State} {z : Nat} (before : (s.blank hushed).Tuned (u.stationsIn .sounder z) gone)
    (same : s.tables = u.tables) : ((s.updateSounders z).blank hushed).Tuned [] gone := by
  have listed : s.stationsIn .sounder z = u.stationsIn .sounder z := by simp only [State.stationsIn, State.station, same]
  unfold State.updateSounders
  rw [listed]
  exact State.tuned_updateServices before

/-- A new arbiter at a SOUNDER's record (R119). -/
theorem State.tuned_createArbiter {i : Nat} {is gone : List Nat} (before : (s.blank hushed).Tuned (i :: is) (i :: gone))
    (loaded : s.inPlace = true) (sounder : i ∈ s.stationsOf .sounder) : ((s.createArbiter i).blank hushed).Tuned is gone := by
  obtain ⟨c, record, role⟩ := (s.mem_stationsOf .sounder i).1 sounder
  have inside : i < 96 := Tab.lt_of_at? record
  have at_ : ∀ j, ({ s with arbiters := s.arbiters.set i (some {}) } : State).arbiter j = if i = j then some {} else s.arbiter j :=
    fun j => by simp [State.arbiter, Tab.at?_set, inside]
  have made : (({ s with arbiters := s.arbiters.set i (some {}) } : State).blank hushed).Tuned (i :: is) gone := by
    have before := (State.tuned_blank _).1 before
    rw [State.tuned_blank]
    refine ⟨fun out => absurd (loaded.symm.trans out) (by simp), fun j in_ => ?_, fun j in_ a here => ?_, fun j a here => ?_⟩
    · rw [at_]
      split
      · next same =>
        subst same
        refine (?_ : _ = (s.station i).any fun c => decide (c.role = .sounder))
        simp [record, role]
      · next other => exact before.being j (by simp [in_, Ne.symm other])
    · rw [at_] at here
      split at here
      · next same => exact absurd same.symm (by simp only [List.mem_cons, not_or] at in_; exact in_.1)
      · exact before.service j in_ a here
    · rw [at_] at here
      split at here
      · cases here; exact ⟨by simp, by simp⟩
      · exact before.sound j a here
  have due : ({ s with arbiters := s.arbiters.set i (some {}) } : State).serviceFor i = s.serviceFor i := rfl
  have new : ∀ a, ({ s with arbiters := s.arbiters.set i (some {}) } : State).arbiter i = some a → a.inForce = .none := fun a here => by
    rw [at_, if_pos rfl] at here
    cases here
    rfl
  unfold State.createArbiter
  dsimp only
  split
  · next service => exact State.tuned_evacuate made service
  · next other =>
    refine State.tuned_retune made (fun a _ => rfl) fun a here => ?_
    refine ⟨⟨fun v => absurd v other, fun inForce => ?_⟩, fun _ => new a here⟩
    cases (new a here).symm.trans inForce

end

/-! ### The states of the zones (R67) -/

section
variable {s : State} {away : List Nat}

theorem State.tuned_setZone (before : (s.blank hushed).Tuned away []) {z : Nat} {st : ZoneState}
    (same : ∀ i ∉ away, i ∈ s.stationsIn .sounder z → serviceOf (some st) = serviceOf (some (s.zone z).state)) :
    ((s.setZone z st).blank hushed).Tuned away [] := by
  have before := (State.tuned_blank _).1 before
  have changed : ((s.modZone z fun x => { x with state := st }).blank hushed).Tuned away [] := by
    rw [State.tuned_blank]
    refine ⟨before.loaded, before.being, fun i in_ a here => (before.service i in_ a here).trans ?_, before.sound⟩
    have sounder : ((s.station i).any fun c => decide (c.role = .sounder)) = true := by
      rw [← before.being i (by simp)]
      exact congrArg Option.isSome here
    obtain ⟨c, record, role⟩ := (Option.any_eq_true _ _).1 sounder
    have record' : (s.modZone z fun x => { x with state := st }).station i = some c := record
    unfold State.serviceFor
    rw [record, record']
    cases zone : c.zone with
    | none => simp [zone]
    | some y =>
      simp only [Option.bind_some, zone, Option.map_some, State.zone_modZone]
      split
      · next hit =>
        obtain ⟨rfl, -⟩ := hit
        refine (same i in_ ?_).symm
        simp only [State.stationsIn, mem_indicesWhere]
        exact ⟨Tab.lt_of_at? record, by simp_all⟩
      · rfl
  unfold State.setZone
  simp [changed]

/-- A zone's change of state that its sounders do not hear of. -/
theorem State.tuned_setZone_quiet (before : (s.blank hushed).Tuned [] []) {z : Nat} {st : ZoneState}
    (same : serviceOf (some st) = serviceOf (some (s.zone z).state)) : ((s.setZone z st).blank hushed).Tuned [] [] :=
  State.tuned_setZone before fun _ _ _ => same

/-- A zone's change of state, after which its sounders are to be brought into line. -/
theorem State.tuned_setZone_away (before : (s.blank hushed).Tuned [] []) (z : Nat) (st : ZoneState) :
    ((s.setZone z st).blank hushed).Tuned (s.stationsIn .sounder z) [] := by
  have exempt : (s.blank hushed).Tuned (s.stationsIn .sounder z) [] := before.mono (by simp) (by simp)
  exact State.tuned_setZone exempt fun i out mem => absurd mem out

end

end Sys2Proof.Machine
end

section
/-! The jobs of chapters 1, 2, 4, 5 and 8 leave the sounders with their zones: a zone in alarm, a shutter's report, a mode action,
a frame heard. -/

namespace Sys2Proof.Machine

/-! ### What a zone's change of state does before its sounders hear of it -/

section
variable {s : State} {away gone : List Nat} (before : (s.blank hushed).Tuned away gone)
include before

@[simp] theorem State.tuned_recomputeFault (z : Nat) : ((s.recomputeFault z).blank hushed).Tuned away gone := by
  unfold State.recomputeFault; simp [before]

@[simp] theorem State.tuned_recomputeFaults : (s.recomputeFaults.blank hushed).Tuned away gone :=
  State.tuned_forEach before fun _ z h => State.tuned_recomputeFault h z

@[simp] theorem State.tuned_panelLoss (i : Nat) : ((s.panelLoss i).blank hushed).Tuned away gone := by
  unfold State.panelLoss
  exact State.tuned_recomputeFaults (State.tuned_forEach before fun t n h => by simp [h])

@[simp] theorem State.tuned_panelRegain (i : Nat) : ((s.panelRegain i).blank hushed).Tuned away gone := by
  unfold State.panelRegain
  exact State.tuned_recomputeFaults (State.tuned_forEach before fun t n h => by split <;> simp [h])

@[simp] theorem State.tuned_neighbourAlert (z : Nat) : ((s.neighbourAlert z).blank hushed).Tuned away gone := by
  unfold State.neighbourAlert; split <;> simp [before]

@[simp] theorem State.tuned_furtherAlarm (z : Nat) (p : AlarmPoint) : ((s.furtherAlarm z p).blank hushed).Tuned away gone := by
  unfold State.furtherAlarm; simp [before]

@[simp] theorem State.tuned_resetShutter (i : Nat) : ((s.resetShutter i).blank hushed).Tuned away gone := by
  unfold State.resetShutter
  split
  · exact before
  · dsimp only
    split
    · split <;> simp [before]
    · split <;> simp [before]
    all_goals simp [before]

@[simp] theorem State.tuned_uncommanded (i : Nat) (c : ShutterCfg) (p : CurtainPos) :
    ((s.uncommanded i c p).blank hushed).Tuned away gone := by
  unfold State.uncommanded; simp [before]

@[simp] theorem State.tuned_rederive (i : Nat) : ((s.rederive i).1.blank hushed).Tuned away gone := by
  unfold State.rederive; dsimp only; (repeat' split) <;> simp [before]

theorem State.tuned_rederiveFold (is drops : List Nat) : ((is.foldl rederiveStep (s, drops)).1.blank hushed).Tuned away gone := by
  induction is generalizing s drops with
  | nil => exact before
  | cons i is ih => exact ih (State.tuned_rederive before i) _

end

section
variable {s : State} (before : (s.blank hushed).Tuned [] [])
include before

/-! ### Zones (chapter 4) -/

/-- A zone's change of state, and its sounders brought into line after steps that write no table (R67, R120). -/
theorem State.tuned_zoneEvent {u : State} {z : Nat} {st : ZoneState}
    (later : ((s.setZone z st).blank hushed).Tuned (s.stationsIn .sounder z) [] → (u.blank hushed).Tuned (s.stationsIn .sounder z) [])
    (tables : u.tables = s.tables) : ((u.updateSounders z).blank hushed).Tuned [] [] :=
  State.tuned_updateSounders (later (State.tuned_setZone_away before z st)) tables

@[simp] theorem State.tuned_enterAlarm (z : Nat) (cause : AlarmCause) (p : AlarmPoint) :
    ((s.enterAlarm z cause p).blank hushed).Tuned [] [] := by
  have told : ∀ t : State, (t.blank hushed).Tuned [] [] →
      ((((((t.setZone z .alarm).requestReleases z).raiseFlags z).updateSounders z).voiceAlarm z).loseZones.blank hushed).Tuned [] [] :=
    fun t h => by
      have told : (((((t.setZone z .alarm).requestReleases z).raiseFlags z).updateSounders z).blank hushed).Tuned [] [] :=
        State.tuned_zoneEvent h (st := .alarm) (fun h => by simp [h])
          (ChangesOnly.tables (F := [.zones, .shafts, .shutters, .net]) (by simp [ChangesOnly]))
      simp [told]
  have finished : ∀ (t : State) (c : Prop) [Decidable c], (t.blank hushed).Tuned [] [] →
      (((if c then t.neighbourAlert z else t).settlePlayback.holdZone z).blank hushed).Tuned [] [] := fun t c _ h => by
    split
    · exact State.tuned_holdZone (by simp [h]) z
    · simp [h]
  unfold State.enterAlarm
  dsimp only
  rw [State.notifyZone_blank (by decide)]
  exact finished _ _ (told _ (State.tuned_modZone before (by simp)))

/-- ALERT and ISOLATED leave a sounder ARBITRATING, as NORMAL does. -/
theorem State.tuned_enterAlert {z : Nat} (normal : (s.zone z).state = .normal) (knock : Option Nat) :
    ((s.enterAlert z knock).blank hushed).Tuned [] [] := by
  have changed : ∀ f : ZoneLive → ZoneLive, (∀ x, (f x).state = x.state) →
      (((s.modZone z f).setZone z .alert).blank hushed).Tuned [] [] := fun f same => State.tuned_setZone_quiet (State.tuned_modZone before same) (by
      rw [State.zone_modZone]
      split
      · rw [same, normal]; rfl
      · rw [normal]; rfl)
  unfold State.enterAlert
  simp [changed]

@[simp] theorem State.tuned_report (z i : Nat) (isNew : Bool) (c : ReportClass) : ((s.report z i isNew c).blank hushed).Tuned [] [] := by
  unfold State.report
  split
  · next normal => unfold State.reportNormal; split <;> simp [before, State.tuned_enterAlert before normal]
  · unfold State.reportAlert; (repeat' split) <;> simp [before]
  · unfold State.reportAlarm; split <;> simp [before]
  · unfold State.reportReentry; split <;> simp [before]
  · unfold State.reportReentry; split <;> simp [before]
  · exact before

@[simp] theorem State.tuned_localDrop (z i : Nat) : ((s.localDrop z i).blank hushed).Tuned [] [] := by
  unfold State.localDrop; split <;> simp [before]

@[simp] theorem State.tuned_detect (sender : Option Nat) (payload : List Byte) :
    ((s.detect sender payload).blank hushed).Tuned [] [] := by
  have unknown : (({ s with unknownPoint := bump s.unknownPoint } : State).blank hushed).Tuned [] [] :=
    State.tuned_of_hushed before rfl
  unfold State.detect
  dsimp only
  split
  · split
    · split
      · exact unknown
      · exact State.tuned_report (by simp [before]) _ _ _ _
    · exact unknown
  · exact unknown

@[simp] theorem State.tuned_completeReset (z : Nat) : ((s.completeReset z).blank hushed).Tuned [] [] := by
  have resumed : ∀ t : State, (t.blank hushed).Tuned [] [] →
      ((((t.setZone z .normal).resumeZone z).updateSounders z).blank hushed).Tuned [] [] := fun t h =>
    State.tuned_zoneEvent h (st := .normal) (fun h => by simp [h])
      (ChangesOnly.tables (F := [.zones, .shafts, .calls, .arbiters, .tokens, .net]) (by simp [ChangesOnly]))
  have lowered : ((s.forEach [0, 1] fun s k => s.setZoneFlag k z false).blank hushed).Tuned [] [] :=
    State.tuned_forEach before fun t k h => by simp [h]
  unfold State.completeReset
  dsimp only
  rw [State.notifyZone_blank (by decide)]
  exact State.tuned_settlePlayback (resumed _ (State.tuned_modZone lowered (by simp)))

@[simp] theorem State.tuned_completionCheck (z : Nat) : ((s.completionCheck z).blank hushed).Tuned [] [] := by
  unfold State.completionCheck
  simp [before]

@[simp] theorem State.tuned_orderSilence (z : Nat) : ((s.orderSilence z).1.blank hushed).Tuned [] [] := by
  have silenced : (((s.setZone z .silenced).updateSounders z).blank hushed).Tuned [] [] :=
    State.tuned_zoneEvent before (st := .silenced) (fun h => h)
      (ChangesOnly.tables (F := [.zones, .shafts, .net]) (by simp [ChangesOnly]))
  unfold State.orderSilence
  (repeat' split) <;> simp [before, silenced]

@[simp] theorem State.tuned_orderResetZone (z : Nat) : ((s.orderResetZone z).1.blank hushed).Tuned [] [] := by
  have reset : ∀ is, ((((s.setZone z .resetting).forEach is State.resetShutter).updateSounders z).blank hushed).Tuned [] [] := fun is =>
    State.tuned_zoneEvent before (st := .resetting) (fun h => State.tuned_forEach h fun t i h => State.tuned_resetShutter h i)
      (ChangesOnly.tables (F := [.zones, .shafts, .shutters, .calls, .arbiters, .day, .tokens, .net]) (by simp [ChangesOnly]))
  have retried : ((s.forEach (s.zoneShutters z) State.retryShutter).blank hushed).Tuned [] [] :=
    State.tuned_forEach before fun t i h => by unfold State.retryShutter; split <;> simp [h]
  unfold State.orderResetZone
  dsimp only
  (repeat' split) <;> simp [before, reset, retried]

@[simp] theorem State.tuned_orderIsolate (z : Nat) : ((s.orderIsolate z).1.blank hushed).Tuned [] [] := by
  unfold State.orderIsolate
  dsimp only
  split
  · exact before
  · split
    · next open_ =>
      have isolated : ∀ f : ZoneLive → ZoneLive, (∀ x, (f x).state = x.state) →
          (((s.modZone z f).setZone z .isolated).blank hushed).Tuned [] [] := fun f same =>
        State.tuned_setZone_quiet (State.tuned_modZone before same) (by
          rw [State.zone_modZone]
          split <;> rcases open_ with state | state <;> simp [same, state, serviceOf])
      have told : ∀ u : State, (u.blank hushed).Tuned [] [] →
          (((u.forEach (u.zoneShutters z) State.isolateShutter).updateSounders z).blank hushed).Tuned [] [] := fun u h =>
        State.tuned_updateSounders (State.Tuned.mono (away := []) (gone := []) (by simp [h]) (by simp) (by simp)) rfl
      dsimp only
      rw [State.notifyZone_blank (by decide)]
      exact State.tuned_settlePlayback (told _ (isolated _ (by simp)))
    · exact before

/-! ### Shutters (chapter 5) -/

@[simp] theorem State.tuned_shutterReport (i : Nat) (c : ShutterCfg) (r : DriveReport) :
    ((s.shutterReport i c r).blank hushed).Tuned [] [] := by
  have isolated : ∀ t : State, (t.blank hushed).Tuned [] [] → ∀ prev, ((t.reportIsolated i c prev r).blank hushed).Tuned [] [] :=
    fun t h prev => by unfold State.reportIsolated; dsimp only; split <;> simp [h]
  have active : ∀ t : State, (t.blank hushed).Tuned [] [] → ((t.reportActive i c r).blank hushed).Tuned [] [] :=
    fun t h => by unfold State.reportActive; (repeat' split) <;> simp [h]
  unfold State.shutterReport
  simp [before, isolated, active]

@[simp] theorem State.tuned_shutstat (sender : Option Nat) (payload : List Byte) :
    ((s.shutstat sender payload).blank hushed).Tuned [] [] := by
  unfold State.shutstat; dsimp only; (repeat' split) <;> simp [before]

@[simp] theorem State.tuned_reportAnew (i : Nat) : ((s.reportAnew i).blank hushed).Tuned [] [] := by
  unfold State.reportAnew; (repeat' split) <;> simp [before]

@[simp] theorem State.tuned_rederiveZone (z : Nat) : ((s.rederiveZone z).blank hushed).Tuned [] [] :=
  State.tuned_forEach (State.tuned_rederiveFold before _ _) fun _ i h => State.tuned_localDrop h z i

@[simp] theorem State.tuned_orderRestore (z : Nat) : ((s.orderRestore z).1.blank hushed).Tuned [] [] := by
  unfold State.orderRestore
  split
  · exact before
  · split
    · next isolated =>
      have restored : ((s.setZone z .normal).blank hushed).Tuned [] [] :=
        State.tuned_setZone_quiet before (by rw [isolated]; rfl)
      have rederived : ((((s.setZone z .normal).notifyZone z .isolated).rederiveZone z).blank hushed).Tuned [] [] :=
        State.tuned_rederiveZone (by simp [restored]) z
      dsimp only
      generalize ((s.setZone z .normal).notifyZone z .isolated).rederiveZone z = t at rederived ⊢
      have reported : ((t.forEach (t.zonePoints z) State.reportAnew).blank hushed).Tuned [] [] :=
        State.tuned_forEach rederived fun u i h => State.tuned_reportAnew h i
      simp [reported]
    · exact before

end

end Sys2Proof.Machine
end

section
/-! The trading day, the frames heard and the SETUP of a station leave the sounders with their zones (R4 to R13, R119, R141 to R146). -/

namespace Sys2Proof.Machine

/-! ### The trading day (chapter 8) -/

section
variable {s : State} {away gone : List Nat} (before : (s.blank hushed).Tuned away gone)
include before

@[simp] theorem State.tuned_announce (a : Announcement) : ((s.announce a).blank hushed).Tuned away gone := by
  unfold State.announce; split <;> simp [before]

@[simp] theorem State.tuned_closingRings (p : Pattern) (is : List Nat) : ((s.closingRings p is).blank hushed).Tuned away gone := by
  unfold State.closingRings
  exact State.tuned_forEach before fun t i h => State.tuned_ring h i _ _ _

@[simp] theorem State.tuned_beginClosing (src : ModeSource) : ((s.beginClosing src).blank hushed).Tuned away gone := by
  unfold State.beginClosing; simp [before]

@[simp] theorem State.tuned_lastCall (src : ModeSource) : ((s.lastCall src).blank hushed).Tuned away gone := by
  unfold State.lastCall; simp [before]

@[simp] theorem State.tuned_closeStore (src : ModeSource) (a : Announcement) : ((s.closeStore src a).blank hushed).Tuned away gone := by
  unfold State.closeStore
  exact State.tuned_closingCheck (State.tuned_announce (by simp [before]) a)

@[simp] theorem State.tuned_cancelClosing (src : ModeSource) : ((s.cancelClosing src).blank hushed).Tuned away gone := by
  unfold State.cancelClosing; simp [before]

theorem State.tuned_modeAction {m : ModeAction} {src : ModeSource} {a : Announcement} {t : State}
    (acts : s.modeAction m src a = some t) : (t.blank hushed).Tuned away gone := by
  have begun := State.tuned_beginClosing before src
  unfold State.modeAction at acts
  split at acts
  case h_6 =>
    split at acts <;> cases acts
    exact State.tuned_closeStore before src a
  all_goals cases acts
  all_goals simp [before, begun]

theorem State.tuned_fireAction {i : Nat} {x : ScheduleEntry} {t : State} (acts : s.fireAction i x = some t) :
    (t.blank hushed).Tuned away gone := by
  unfold State.fireAction at acts
  split at acts
  · exact State.tuned_modeAction before acts
  · split at acts
    · split at acts <;> cases acts <;> simp [before]
    · cases acts; simp [before]

@[simp] theorem State.tuned_fireEntry (i : Nat) : ((s.fireEntry i).blank hushed).Tuned away gone := by
  unfold State.fireEntry
  split
  · exact before
  · split
    · next x _ _ =>
      dsimp only
      generalize stamped : s.modDay _ = u
      have kept : (u.blank hushed).Tuned away gone := by rw [← stamped]; simp [before]
      cases acts : u.fireAction i x with
      | none => simp [kept]
      | some t => simp [State.tuned_fireAction kept acts]
    · exact before

@[simp] theorem State.tuned_minuteEvent : (s.minuteEvent.blank hushed).Tuned away gone := by
  unfold State.minuteEvent
  split
  · exact State.tuned_forEach before fun t i h => State.tuned_fireEntry h i
  · exact before

@[simp] theorem State.tuned_orderStoreMode (f : Option ModeFields) : ((s.orderStoreMode f).1.blank hushed).Tuned away gone := by
  unfold State.orderStoreMode
  split
  · exact before
  · split
    · split
      · exact before
      · dsimp only
        split
        · next acts => exact State.tuned_modeAction before acts
        · exact before
    · exact before

/-! ### Stations and frames (chapters 1 and 10) -/

@[simp] theorem State.tuned_handLoss (i : Nat) (r : Role) : ((s.handLoss i r).blank hushed).Tuned away gone := by
  unfold State.handLoss; split <;> simp [before]

@[simp] theorem State.tuned_handRegain (i : Nat) (r : Role) : ((s.handRegain i r).blank hushed).Tuned away gone := by
  unfold State.handRegain; split <;> simp [before]

@[simp] theorem State.tuned_becomePresent (i : Nat) (r : Role) (old : Presence) :
    ((s.becomePresent i r old).blank hushed).Tuned away gone := by
  unfold State.becomePresent
  split
  · exact before
  · exact State.tuned_handRegain (by simp [before]) i r

@[simp] theorem State.tuned_becomeMismatch (i : Nat) (r : Role) (old : Presence) :
    ((s.becomeMismatch i r old).blank hushed).Tuned away gone := by
  unfold State.becomeMismatch; split <;> simp [before]

@[simp] theorem State.tuned_becomeMissing (i : Nat) (r : Role) (old : Presence) :
    ((s.becomeMissing i r old).blank hushed).Tuned away gone := by
  unfold State.becomeMissing; simp [before]

@[simp] theorem State.tuned_beatFrom (i : Nat) (c : StationCfg) (role abil status : Byte) :
    ((s.beatFrom i c role abil status).blank hushed).Tuned away gone := by
  unfold State.beatFrom; dsimp only; (repeat' split) <;> simp [before]

@[simp] theorem State.tuned_hearFrom (i : Nat) (c : StationCfg) : ((s.hearFrom i c).blank hushed).Tuned away gone := by
  unfold State.hearFrom; simp [before]

@[simp] theorem State.tuned_tableTakes (r : Received) : ((s.tableTakes r).blank hushed).Tuned away gone := by
  have unknown : (({ s with unknownSource := bump s.unknownSource } : State).blank hushed).Tuned away gone :=
    State.tuned_of_hushed before rfl
  unfold State.tableTakes
  split
  · exact unknown
  · split
    · exact before
    · dsimp only; (repeat' split) <;> simp [before]

@[simp] theorem State.tuned_takeHead (r : Received) : ((s.takeHead r).blank hushed).Tuned away gone := by
  unfold State.takeHead; simp [before]

@[simp] theorem State.tuned_landingReport (sender : Option Nat) (sill stop : Bool) :
    ((s.landingReport sender sill stop).blank hushed).Tuned away gone := by
  unfold State.landingReport; (repeat' split) <;> simp [before]

@[simp] theorem State.tuned_landingFrame (r : Received) : ((s.landingFrame r).blank hushed).Tuned away gone := by
  unfold State.landingFrame; split <;> simp [before]

@[simp] theorem State.tuned_ackFrame (r : Received) : ((s.ackFrame r).blank hushed).Tuned away gone := by
  unfold State.ackFrame; dsimp only; (repeat' split) <;> simp [before]

/-- A step that takes a tapped frame to its job leaves the sounders with their zones if the job does (R170). -/
theorem State.tuned_onHead {job : State → Received → State} {head : Option Received}
    (keeps : ∀ (t : State) r, head = some r → t.inPlace = s.inPlace → (t.blank hushed).Tuned away gone →
      ((job t r).blank hushed).Tuned away gone) :
    ((s.onHead head job).blank hushed).Tuned away gone := by
  unfold State.onHead
  split
  · exact before
  · next r =>
    have taken := State.tuned_takeHead before r
    have loaded : (s.takeHead r).inPlace = s.inPlace :=
      ChangesOnly.inPlace (F := [.stations, .unknownSource, .shafts, .points, .zones, .shutters, .calls, .arbiters, .playback, .net,
        .exchange, .tokens]) (by simp [ChangesOnly])
    dsimp only
    split
    · exact keeps _ r rfl loaded taken
    · exact State.tuned_of_hushed taken (by simp)

/-- A request leaves the sounders with their zones if what it asks for does, while the tables are in place (R179). -/
theorem State.tuned_onRequest {want : FrameStep} {object : Option Nat} {act : State → Ticket → State}
    (keeps : ∀ (t : State) k, t.inPlace = true → (t.blank hushed).Tuned away gone → ((act t k).blank hushed).Tuned away gone) :
    ((s.onRequest want object act).blank hushed).Tuned away gone :=
  State.tuned_onHead before fun t r head same h => by
    have loaded := same.trans (State.inPlace_of_requestFor head)
    unfold State.judgeRequest
    dsimp only
    split
    · simp [h]
    · split
      · simp [h]
      · split
        · simp [h]
        · split
          · simp [h]
          · exact keeps _ _ loaded h

end

/-! ### A station's record written (R4 to R6) -/

section
variable {s : State} {i : Nat}

/-- While a record is written, nothing is said of its sounder. -/
theorem State.tuned_writeStation {away gone : List Nat} (before : (s.blank hushed).Tuned away gone) (c : Option StationCfg) :
    ((s.writeStation i c).blank hushed).Tuned (i :: away) (i :: gone) := by
  have before := (State.tuned_blank _).1 before
  have other : ∀ j, j ≠ i → (s.writeStation i c).station j = s.station j := fun j other => by
    simp [State.station, State.writeStation, Tab.at?_set, Ne.symm other]
  rw [State.tuned_blank]
  refine ⟨before.loaded, fun j out => ?_, fun j out a here => ?_, before.sound⟩
  · simp only [List.mem_cons, not_or] at out
    rw [other j out.1]
    exact before.being j out.2
  · simp only [List.mem_cons, not_or] at out
    exact (before.service j out.2 a here).trans (State.serviceFor_congr (other j out.1) fun _ => rfl).symm

/-- A record that has no arbiter, as it is no SOUNDER, or that keeps the one it has, is bound to its zone again. -/
theorem State.tuned_rebound (before : (s.blank hushed).Tuned [i] [i])
    (being : (s.arbiter i).isSome = (s.station i).any fun c => decide (c.role = .sounder))
    (service : ∀ a, s.arbiter i = some a → a.service = s.serviceFor i) : (s.blank hushed).Tuned [] [] := by
  have before := (State.tuned_blank _).1 before
  rw [State.tuned_blank]
  refine ⟨before.loaded, fun j _ => ?_, fun j _ => ?_, before.sound⟩
  all_goals by_cases same : j = i
  · subst same; exact being
  · exact before.being j (by simp [same])
  · subst same; exact service
  · exact before.service j (by simp [same])

theorem State.tuned_removeArbiter {away gone : List Nat} (before : (s.blank hushed).Tuned away gone) :
    ((s.removeArbiter i).blank hushed).Tuned away (i :: gone) := by
  have before := (State.tuned_blank _).1 before
  have at_ : ∀ j, (s.removeArbiter i).arbiter j = if i = j then none else s.arbiter j := fun j => by
    by_cases inside : i < 96
    · simp [State.arbiter, State.removeArbiter, Tab.at?_set, inside]
    · split
      · next same => subst same; exact State.arbiter_outside _ inside
      · simp [State.arbiter, State.removeArbiter, Tab.at?_set, inside]
  have old : ∀ j a, (s.removeArbiter i).arbiter j = some a → s.arbiter j = some a := fun j a here => by
    rw [at_] at here
    split at here
    · cases here
    · exact here
  rw [State.tuned_blank]
  refine ⟨fun out j => ?_, fun j out => ?_, fun j out a here => before.service j out a (old j a here),
    fun j a here => before.sound j a (old j a here)⟩
  · rw [at_, before.loaded out j]; simp
  · simp only [List.mem_cons, not_or] at out
    rw [at_, if_neg (Ne.symm out.1)]
    exact before.being j out.2

/-- A written SOUNDER has an arbiter, in service of its zone; another record has none (R119, R120). -/
theorem State.tuned_ensureArbiter {c : StationCfg} (before : (s.blank hushed).Tuned [i] [i]) (loaded : s.inPlace = true)
    (written : s.station i = some c) (none : c.role ≠ .sounder → s.arbiter i = none) :
    ((s.ensureArbiter i c).blank hushed).Tuned [] [] := by
  unfold State.ensureArbiter
  split
  · next sounder =>
    split
    · exact State.tuned_createArbiter before loaded ((s.mem_stationsOf _ _).2 ⟨c, written, sounder⟩)
    · next some_ =>
      have being : (s.blank hushed).Tuned [i] [] := by
        have before := (State.tuned_blank _).1 before
        rw [State.tuned_blank]
        refine ⟨before.loaded, fun j _ => ?_, before.service, before.sound⟩
        by_cases same : j = i
        · subst same
          rw [written, Option.isSome_iff_ne_none.2 some_]
          simp [sounder]
        · exact before.being j (by simp [same])
      exact State.tuned_updateService being
  · next other =>
    refine State.tuned_rebound before ?_ fun a here => ?_
    · rw [none other, written]; simp [other]
    · cases (none other).symm.trans here

theorem State.tuned_afterStation {away gone : List Nat} (before : (s.blank hushed).Tuned away gone) (old new : Option StationCfg) :
    ((s.afterStation old new).blank hushed).Tuned away gone := by
  unfold State.afterStation; simp [before]

theorem State.station_writeStation (inside : i < 96) (c : Option StationCfg) : (s.writeStation i c).station i = c := by
  simp [State.station, State.writeStation, Tab.at?_set, inside]

/-- A record put in use, or made a new station. -/
theorem State.tuned_enterStation {old : Option StationCfg} {c : StationCfg} (before : (s.blank hushed).Tuned [] [i])
    (loaded : s.inPlace = true) (inside : i < 96) (none : c.role ≠ .sounder → s.arbiter i = none) :
    ((s.enterStation i old c).blank hushed).Tuned [] [] := by
  have written : (((s.writeStation i (some c)).freshStation i c).blank hushed).Tuned [i] [i] := by
    have written := State.tuned_writeStation (i := i) before (some c)
    unfold State.freshStation
    simp only [State.modStation_blank (F := hushed) (by decide)]
    exact written.mono (by simp) (by simp)
  exact State.tuned_afterStation (State.tuned_ensureArbiter written loaded (State.station_writeStation inside _) none) _ _

/-- A station parted with leaves its arbiter only while it is a SOUNDER's. -/
theorem State.tuned_partWith {away gone : List Nat} (before : (s.blank hushed).Tuned away gone) (c : StationCfg) :
    ((s.partWith i c).blank hushed).Tuned away gone := by
  unfold State.partWith; split <;> simp [before]

theorem State.tuned_endIdentity (before : (s.blank hushed).Tuned [] []) (old : StationCfg) (new : Option StationCfg) :
    ((s.endIdentity i old new).blank hushed).Tuned [] [i] := by
  have removed := State.tuned_removeArbiter (i := i) before
  have kept : (s.blank hushed).Tuned [] [i] := before.mono (by simp) (by simp)
  unfold State.endIdentity
  dsimp only
  split <;> simp [removed, kept]

/-- A record whose new role is no SOUNDER's has no arbiter after its identity has ended. -/
theorem State.arbiter_none_endIdentity {old : StationCfg} {new : Option StationCfg} (inside : i < 96)
    (being : (s.arbiter i).isSome = decide (old.role = .sounder)) (ends : ∀ c, new = some c → c.role ≠ .sounder) :
    (s.endIdentity i old new).arbiter i = none := by
  by_cases was : old.role = .sounder
  · exact State.arbiter_endIdentity inside was ends
  · have unchanged : (s.endIdentity i old new).arbiters = s.arbiters := by
      unfold State.endIdentity
      dsimp only
      rw [if_neg fun h => was h.1]
      rfl
    rw [State.arbiter, unchanged]
    refine Option.not_isSome_iff_eq_none.1 fun some_ => was ?_
    rw [show (s.arbiters.at? i).isSome = (s.arbiter i).isSome from rfl, being] at some_
    exact of_decide_eq_true some_

end

end Sys2Proof.Machine
end

section
/-! The SETUPs and orders of chapter 11 leave the sounders with their zones (R119, R180). -/

namespace Sys2Proof.Machine

/-! ### SETUP STATION (R4 to R6) -/

section
variable {s : State} {i : Nat} {o c : StationCfg} (before : (s.blank hushed).Tuned [] [])
include before

/-- A record in use that keeps its role keeps its arbiter. -/
theorem State.tuned_rewritten (used : s.station i = some o) (role : o.role = c.role) :
    ((s.writeStation i (some c)).blank hushed).Tuned [i] [] := by
  have written := (State.tuned_blank _).1 (State.tuned_writeStation (i := i) before (some c))
  have before := (State.tuned_blank _).1 before
  rw [State.tuned_blank]
  refine ⟨written.loaded, fun j _ => ?_, written.service, written.sound⟩
  by_cases same : j = i
  · subst same
    rw [State.station_writeStation (Tab.lt_of_at? used)]
    refine (before.being j (by simp)).trans ?_
    rw [used]
    simp [role]
  · exact written.being j (by simp [same])

/-- A record that keeps its role, and its zone if it is a SOUNDER's, keeps its sounder in line. -/
theorem State.tuned_rewritten_zone (used : s.station i = some o) (role : o.role = c.role)
    (zone : c.role = .sounder → o.zone = c.zone) : ((s.writeStation i (some c)).blank hushed).Tuned [] [] := by
  have written := State.station_writeStation (s := s) (Tab.lt_of_at? used) (some c)
  have kept := (State.tuned_blank _).1 (State.tuned_rewritten before used role)
  have before := (State.tuned_blank _).1 before
  rw [State.tuned_blank]
  refine ⟨kept.loaded, kept.being, fun j _ a here => ?_, kept.sound⟩
  by_cases same : j = i
  · subst same
    have sounder : c.role = .sounder := by
      have being := kept.being j (by simp)
      rw [here, written] at being
      simpa using being.symm
    refine (before.service j (by simp) a here).trans ?_
    unfold State.serviceFor
    rw [used, written, Option.bind_some, Option.bind_some, zone sounder]
    rfl
  · exact kept.service j (by simp [same]) a here

theorem State.tuned_rewriteStation (used : s.station i = some o) (role : o.role = c.role) :
    ((s.rewriteStation i o c).blank hushed).Tuned [] [] := by
  have refreshed : ∀ away gone, ((s.writeStation i (some c)).blank hushed).Tuned away gone →
      ((if o.beatPeriod = c.beatPeriod then s.writeStation i (some c) else (s.writeStation i (some c)).refresh i c).blank
        hushed).Tuned away gone := fun away gone h => by simp [h]
  have kept := refreshed _ _ (State.tuned_rewritten before used role)
  unfold State.rewriteStation
  dsimp only
  generalize (if o.beatPeriod = c.beatPeriod then s.writeStation i (some c) else (s.writeStation i (some c)).refresh i c) = u
    at kept refreshed ⊢
  have zoned := fun zone => refreshed _ _ (State.tuned_rewritten_zone before used role zone)
  split
  · split
    · next same => exact zoned fun _ => same
    · exact State.tuned_updateService kept
  · next point =>
    have settled := zoned fun sounder => by cases point.symm.trans sounder
    split <;> simp [settled]
  · next speaker =>
    have settled := zoned fun sounder => by cases speaker.symm.trans sounder
    split <;> simp [settled]
  · next other _ _ => exact zoned fun sounder => absurd sounder other

theorem State.tuned_applyStation (loaded : s.inPlace = true) (inside : i < 96) :
    ((s.applyStation i (s.station i) c).blank hushed).Tuned [] [] := by
  have being := ((State.tuned_blank _).1 before).being i (by simp)
  cases used : s.station i with
  | none =>
    refine State.tuned_enterStation (before.mono (by simp) (by simp)) loaded inside fun _ => ?_
    rw [used] at being
    exact Option.not_isSome_iff_eq_none.1 (by rw [being]; simp)
  | some o =>
    by_cases same : o.address = c.address ∧ o.role = c.role
    · rw [State.applyStation_kept same.1 same.2]
      exact State.tuned_afterStation (State.tuned_rewriteStation before used same.2) _ _
    · rw [State.applyStation_moved (not_and_or.1 same)]
      have parted := State.tuned_partWith before (i := i) o
      have left : ∀ j, (s.partWith i o).station j = s.station j := fun j => by
        have tables : (s.partWith i o).tables = s.tables :=
          ChangesOnly.tables (F := [.stations, .shafts, .points, .zones, .shutters, .calls, .arbiters, .playback, .net, .tokens])
            (by simp [ChangesOnly])
        simp only [State.station, tables]
      refine State.tuned_enterStation (State.tuned_endIdentity parted o (some c)) ?_ inside fun other => ?_
      · have changes : ChangesOnly [.stations, .shafts, .points, .zones, .shutters, .calls, .arbiters, .playback, .net, .tokens] s
            ((s.partWith i o).endIdentity i o (some c)) := by simp [ChangesOnly]
        exact changes.inPlace.trans loaded
      · refine State.arbiter_none_endIdentity inside ?_ fun x same => by cases same; exact other
        have being := ((State.tuned_blank _).1 parted).being i (by simp)
        rw [left, used] at being
        exact being

theorem State.tuned_freeStation (used : s.station i = some o) : ((s.freeStation i o).blank hushed).Tuned [] [] := by
  have inside : i < 96 := Tab.lt_of_at? used
  have parted := State.tuned_partWith before (i := i) o
  have tables : (s.partWith i o).tables = s.tables :=
    ChangesOnly.tables (F := [.stations, .shafts, .points, .zones, .shutters, .calls, .arbiters, .playback, .net, .tokens])
      (by simp [ChangesOnly])
  have none : ((s.partWith i o).endIdentity i o none).arbiter i = none := by
    refine State.arbiter_none_endIdentity inside ?_ fun x same => by cases same
    have being := ((State.tuned_blank _).1 parted).being i (by simp)
    rw [State.station, tables] at being
    rw [being]
    exact congrArg (Option.any _) used
  have written := State.tuned_writeStation (i := i) (State.tuned_endIdentity (i := i) parted o Option.none) Option.none
  have freed := State.tuned_rebound (i := i) (written.mono (by simp) (by simp)) (by
    rw [State.station_writeStation inside]
    exact congrArg Option.isSome none) fun a here => by cases none.symm.trans here
  refine State.tuned_afterStation ?_ _ _
  simp [freed]

theorem State.tuned_setupStation (loaded : s.inPlace = true) (i : Nat) (w : Write StationFields) :
    ((s.setupStation i w).1.blank hushed).Tuned [] [] := by
  unfold State.setupStation State.refuse State.carried
  split
  · split
    · exact before
    · split
      · exact before
      · next used =>
        split
        · exact before
        · exact State.tuned_freeStation before used
  · dsimp only
    split
    · exact before
    · split
      · exact before
      · next inside =>
        split
        · exact before
        · split
          · exact before
          · split
            · exact before
            · split
              · exact before
              · split
                · exact before
                · exact State.tuned_applyStation before loaded (Nat.lt_of_not_le inside)

end

/-! ### The other SETUPs -/

theorem Tab.at?_map_option {α : Type} {n : Nat} (t : Tab (Option α) n) (f : α → α) (i : Nat) :
    (t.map (Option.map f)).at? i = (t.at? i).map f := by
  simp only [Tab.at?, Tab.get?_map]
  rcases t.get? i with _ | _ | a <;> rfl

section
variable {s : State} {away gone : List Nat} (before : (s.blank hushed).Tuned away gone)
include before

/-- A change of every arbiter that keeps its service and its pattern in force, with the records and zones as they were. -/
theorem State.tuned_map {t : State} {f : Arbiter → Arbiter} (inPlace : t.inPlace = s.inPlace)
    (stations : t.tables.stations = s.tables.stations) (zones : ∀ z, (t.zone z).state = (s.zone z).state)
    (mapped : ∀ i, t.arbiter i = (s.arbiter i).map f) (service : ∀ a, (f a).service = a.service)
    (inForce : ∀ a, (f a).inForce = a.inForce) : (t.blank hushed).Tuned away gone := by
  have before := (State.tuned_blank _).1 before
  have record : ∀ i, t.station i = s.station i := fun i => by simp only [State.station, stations]
  have old : ∀ i b, t.arbiter i = some b → ∃ a, s.arbiter i = some a ∧ f a = b :=
    fun i b here => Option.map_eq_some_iff.1 ((mapped i).symm.trans here)
  rw [State.tuned_blank]
  refine ⟨fun out i => ?_, fun i in_ => ?_, fun i in_ b here => ?_, fun i b here => ?_⟩
  · rw [mapped, before.loaded (inPlace ▸ out) i]; rfl
  · rw [mapped, Option.isSome_map, record]
    exact before.being i in_
  · obtain ⟨a, there, rfl⟩ := old i b here
    rw [service, State.serviceFor_congr (record i) zones]
    exact before.service i in_ a there
  · obtain ⟨a, there, rfl⟩ := old i b here
    exact Arbiter.Follows.sound ⟨service a, .inl (inForce a)⟩ (before.sound i a there)

/-- A write of another table than that of the stations. -/
theorem State.tuned_withTables {x : Tables} (same : x.stations = s.tables.stations) :
    (({ s with tables := x } : State).blank hushed).Tuned away gone :=
  State.tuned_map before rfl same (fun _ => rfl) (f := id) (fun _ => Option.map_id.symm ▸ rfl) (fun _ => rfl) fun _ => rfl

@[simp] theorem State.tuned_writePoint (i : Nat) (c : Option PointCfg) : ((s.writePoint i c).blank hushed).Tuned away gone :=
  State.tuned_withTables before rfl

@[simp] theorem State.tuned_writeShutter (i : Nat) (c : Option ShutterCfg) : ((s.writeShutter i c).blank hushed).Tuned away gone :=
  State.tuned_withTables before rfl

@[simp] theorem State.tuned_writeRoute (i : Nat) (r : Option Route) : ((s.writeRoute i r).blank hushed).Tuned away gone :=
  State.tuned_withTables before rfl

@[simp] theorem State.tuned_writeGeometry (k : Nat) (g : Geometry) : ((s.writeGeometry k g).blank hushed).Tuned away gone :=
  State.tuned_withTables before rfl

@[simp] theorem State.tuned_writeSill (k i : Nat) (x : Option Sill) : ((s.writeSill k i x).blank hushed).Tuned away gone :=
  State.tuned_withTables before rfl

@[simp] theorem State.tuned_writeSchedule (i : Nat) (x : Option ScheduleEntry) : ((s.writeSchedule i x).blank hushed).Tuned away gone :=
  State.tuned_withTables before rfl

@[simp] theorem State.tuned_pointFaults (old : Option PointCfg) (z : Nat) : ((s.pointFaults old z).blank hushed).Tuned away gone := by
  unfold State.pointFaults; dsimp only; split <;> simp [before]

@[simp] theorem State.tuned_moveShutter (i : Nat) (c : ShutterCfg) : ((s.moveShutter i c).1.blank hushed).Tuned away gone := by
  unfold State.moveShutter; dsimp only; (repeat' split) <;> simp [before]

@[simp] theorem State.tuned_disableShaft (k : Nat) : ((s.disableShaft k).blank hushed).Tuned away gone := by
  unfold State.disableShaft; simp [before]

@[simp] theorem State.tuned_enableShaft (k : Nat) : ((s.enableShaft k).blank hushed).Tuned away gone := by
  have answered : ∀ t : State, (t.blank hushed).Tuned away gone →
      ((if (t.shaft k).clearSet = [] then t else t.evaluateAndDeliver k).blank hushed).Tuned away gone := fun t h => by
    split <;> simp [h]
  have tripped : ∀ t : State, (t.blank hushed).Tuned away gone →
      ((if (t.shaft k).fault then t.tripShaft k .drive else t).closingCheck.blank hushed).Tuned away gone := fun t h => by
    split <;> simp [h]
  exact tripped _ (answered _ (by simp [before]))

@[simp] theorem State.tuned_applyShaft (k : Nat) (o g : Geometry) : ((s.applyShaft k o g).blank hushed).Tuned away gone := by
  have moved : ∀ f, ((if o.L = g.L ∧ o.N = g.N ∧ o.H = g.H then s.writeGeometry k g
      else (s.writeGeometry k g).modShaft k f).blank hushed).Tuned away gone := fun f => by split <;> simp [before]
  unfold State.applyShaft
  dsimp only
  split
  · exact State.tuned_disableShaft (moved _) k
  · exact State.tuned_enableShaft (moved _) k
  · simp [before]

@[simp] theorem State.tuned_setupShaft (k : Nat) (f : ShaftFields) : ((s.setupShaft k f).1.blank hushed).Tuned away gone := by
  unfold State.setupShaft State.refuse State.carried
  dsimp only
  (repeat' split) <;> simp [before]

@[simp] theorem State.tuned_applySill (k i : Nat) (x : Option Sill) : ((s.applySill k i x).blank hushed).Tuned away gone := by
  unfold State.applySill; simp [before]

@[simp] theorem State.tuned_setupSill (k i : Nat) (w : Write SillFields) : ((s.setupSill k i w).1.blank hushed).Tuned away gone := by
  unfold State.setupSill State.refuse State.carried
  dsimp only
  (repeat' split) <;> simp [before]

@[simp] theorem State.tuned_setupZone (z : Nat) (f : ZoneFields) : ((s.setupZone z f).1.blank hushed).Tuned away gone := by
  have written : ∀ c, (({ s with tables := { s.tables with zones := s.tables.zones.set z c } } : State).blank hushed).Tuned away gone :=
    fun c => State.tuned_withTables before rfl
  unfold State.setupZone State.refuse State.carried
  dsimp only
  (repeat' split) <;> simp [before, written]

@[simp] theorem State.tuned_setupRoute (i : Nat) (w : Write RouteFields) : ((s.setupRoute i w).1.blank hushed).Tuned away gone := by
  unfold State.setupRoute State.refuse State.carried
  dsimp only
  (repeat' split) <;> simp [before]

@[simp] theorem State.tuned_setupSchedule (i : Nat) (w : Write ScheduleFields) :
    ((s.setupSchedule i w).1.blank hushed).Tuned away gone := by
  unfold State.setupSchedule State.refuse State.carried
  dsimp only
  (repeat' split) <;> simp [before]

@[simp] theorem State.tuned_setupPort (p : Nat) (f : PortFields) : ((s.setupPort p f).1.blank hushed).Tuned away gone := by
  have written : ∀ c, (({ s with tables := { s.tables with ports := s.tables.ports.set p c } } : State).blank hushed).Tuned away gone :=
    fun c => State.tuned_withTables before rfl
  unfold State.setupPort State.refuse State.carried
  dsimp only
  (repeat' split) <;> simp [before, written]

@[simp] theorem State.tuned_stopPreempts : (s.stopPreempts.blank hushed).Tuned away gone :=
  State.tuned_map before rfl rfl (fun _ => rfl) (Tab.at?_map_option s.arbiters _) (fun _ => rfl) fun _ => rfl

theorem State.tuned_clearAllCounters : (s.clearAllCounters.blank hushed).Tuned away gone := by
  refine State.tuned_map before rfl rfl (fun z => ?_) (Tab.at?_map_option s.arbiters _) (fun _ => rfl) fun _ => rfl
  by_cases inside : z < 16
  · obtain ⟨x, here⟩ := s.zones.get?_eq_some inside
    simp only [State.zone, State.clearAllCounters, Tab.getD, Tab.get?_map, here, Option.map_some, Option.getD_some]
  · have outside : ∀ u : State, u.zone z = {} := fun u => Tab.getD_eq_of_le _ (Nat.le_of_not_lt inside) _
    rw [outside, outside]

@[simp] theorem State.tuned_setupGlobal (i : Nat) (w : GlobalWrite) : ((s.setupGlobal i w).1.blank hushed).Tuned away gone := by
  have settings : ∀ f, ((s.setupSettings f).1.blank hushed).Tuned away gone := fun f => by
    have written : ∀ g, (({ s with tables := { s.tables with globals := g } } : State).blank hushed).Tuned away gone :=
      fun g => State.tuned_withTables before rfl
    unfold State.setupSettings State.refuse State.carried
    dsimp only
    (repeat' split) <;> simp [before, written]
  have notice : ∀ n f, ((s.setupNotice n f).1.blank hushed).Tuned away gone := fun n f => by
    have written : ∀ c, (({ s with tables := { s.tables with notices := s.tables.notices.set n c } } : State).blank hushed).Tuned
        away gone := fun c => State.tuned_withTables before rfl
    unfold State.setupNotice State.refuse State.carried
    dsimp only
    (repeat' split) <;> simp [before, written]
  unfold State.setupGlobal State.refuse
  (repeat' split) <;> simp [before, settings, notice]

/-! ### Orders of the announcements and the calls (R116, R158, R160, R163) -/

@[simp] theorem State.tuned_orderPlay (f : Option PlayFields) : ((s.orderPlay f).1.blank hushed).Tuned away gone := by
  unfold State.orderPlay State.refuse
  dsimp only
  (repeat' split) <;> simp [before]

@[simp] theorem State.tuned_orderPageStart (src : Addr) (f : Option PageFields) :
    ((s.orderPageStart src f).1.blank hushed).Tuned away gone := by
  unfold State.orderPageStart State.refuse State.carried
  (repeat' split) <;> simp [before]

@[simp] theorem State.tuned_orderPageEnd : (s.orderPageEnd.1.blank hushed).Tuned away gone := by
  unfold State.orderPageEnd State.refuse State.carried
  split <;> simp [before]

@[simp] theorem State.tuned_orderClearCalls (a : Option Nat) : ((s.orderClearCalls a).1.blank hushed).Tuned away gone := by
  unfold State.orderClearCalls State.refuse State.carried
  (repeat' split) <;> simp [before]

end

/-! ### Points and shutters, whose writes may raise an alarm -/

section
variable {s : State} (before : (s.blank hushed).Tuned [] [])
include before

@[simp] theorem State.tuned_applyPoint (i : Nat) (old : Option PointCfg) (c : PointCfg) :
    ((s.applyPoint i old c).blank hushed).Tuned [] [] := by
  have written := State.tuned_writePoint before i (some c)
  have told := State.tuned_reportAnew written i
  unfold State.applyPoint
  dsimp only
  (repeat' split) <;> simp [written, told]

@[simp] theorem State.tuned_setupPoint (i : Nat) (w : Write PointFields) : ((s.setupPoint i w).1.blank hushed).Tuned [] [] := by
  unfold State.setupPoint State.refuse State.carried
  dsimp only
  (repeat' split) <;> simp [before]

@[simp] theorem State.tuned_applyShutter (i : Nat) (old : Option ShutterCfg) (c : ShutterCfg) :
    ((s.applyShutter i old c).blank hushed).Tuned [] [] := by
  have written := State.tuned_writeShutter before i (some c)
  have moved := State.tuned_moveShutter written i c
  have told : ∀ (t : State) (drop : Bool), (t.blank hushed).Tuned [] [] →
      ((if drop then (t.shutterRefs old (some c)).localDrop c.zone i else t.shutterRefs old (some c)).blank hushed).Tuned [] [] :=
    fun t drop h => by split <;> simp [h]
  unfold State.applyShutter
  dsimp only
  split
  · split
    · exact told _ _ moved
    · exact told _ _ written
  · simp [written]

@[simp] theorem State.tuned_setupShutter (i : Nat) (w : Write ShutterFields) :
    ((s.setupShutter i w).1.blank hushed).Tuned [] [] := by
  unfold State.setupShutter State.refuse State.carried
  dsimp only
  (repeat' split) <;> simp [before]

end

end Sys2Proof.Machine
end

section
/-! What the commands mean leaves the sounders with their zones (R119, R120, R126, R127). -/

namespace Sys2Proof.Machine

/-! ### The blocks start (R119, R188, R192) -/

section
variable {s : State}

theorem State.tuned_createArbiters {is : List Nat} (before : (s.blank hushed).Tuned is is) (loaded : s.inPlace = true)
    (sounders : ∀ i ∈ is, i ∈ s.stationsOf .sounder) : ((s.forEach is State.createArbiter).blank hushed).Tuned [] [] := by
  induction is generalizing s with
  | nil => exact before
  | cons i is ih =>
    have changes : ChangesOnly [.arbiters, .net] s (s.createArbiter i) := by simp [ChangesOnly]
    have same : (s.createArbiter i).stationsOf .sounder = s.stationsOf .sounder := by
      simp only [State.stationsOf, State.station, changes.tables]
    refine ih (State.tuned_createArbiter before loaded (sounders i (by simp))) (changes.inPlace.trans loaded) fun j mem => ?_
    rw [same]
    exact sounders j (by simp [mem])

/-- With no arbiter, the sounders of the records in use are all that is to be brought into line. -/
theorem State.tuned_of_none (none : ∀ i, s.arbiter i = none) : s.Tuned (s.stationsOf .sounder) (s.stationsOf .sounder) := by
  refine ⟨fun _ => none, fun i out => ?_, fun i _ a here => ?_, fun i a here => ?_⟩
  · rw [none]
    refine (Bool.eq_false_iff.2 fun sounder => out ?_).symm
    obtain ⟨c, record, role⟩ := (Option.any_eq_true _ _).1 sounder
    exact (s.mem_stationsOf _ _).2 ⟨c, record, of_decide_eq_true role⟩
  all_goals cases (none i).symm.trans here

/-- The blocks start with an arbiter for each SOUNDER's record. -/
theorem State.tuned_startBlocks (none : ∀ i, s.arbiter i = none) : (s.startBlocks.blank hushed).Tuned [] [] := by
  unfold State.startBlocks
  dsimp only
  generalize started : (({ s with inPlace := true } : State).forEach (List.range 96) State.startStation).forEach (List.range 16)
    State.startZone = u
  have changes : ChangesOnly [.stations, .zones, .shutters] { s with inPlace := true } u := by
    rw [← started]; simp [ChangesOnly]
  have created : ((u.forEach (u.stationsOf .sounder) State.createArbiter).blank hushed).Tuned [] [] := by
    refine State.tuned_createArbiters ((State.tuned_blank _).2 (State.tuned_of_none fun i => ?_)) changes.inPlace fun i mem => mem
    rw [State.arbiter, changes.arbiters]
    exact none i
  have shaft : ∀ (t : State) k, (t.blank hushed).Tuned [] [] → ((t.startShaftBlock k).blank hushed).Tuned [] [] := fun t k h => by
    unfold State.startShaftBlock; simp [h]
  exact shaft _ 1 (shaft _ 0 (by simp [created]))

theorem State.arbiter_clearLive (s : State) (i : Nat) : s.clearLive.arbiter i = none := by
  have empty : s.clearLive.arbiters = Tab.replicate 96 none := rfl
  rw [State.arbiter, empty, Tab.at?_replicate_none]

theorem State.tuned_restartNow : (s.restartNow.blank hushed).Tuned [] [] := State.tuned_startBlocks s.arbiter_clearLive

/-- Without its tables the part has no record and no arbiter. -/
theorem State.tuned_of_unloaded {t : State} (tables : t.tables = {}) (arbiters : t.arbiters = s.clearLive.arbiters) :
    (t.blank hushed).Tuned [] [] := by
  have none : ∀ i, t.arbiter i = none := fun i => by rw [State.arbiter, arbiters]; exact s.arbiter_clearLive i
  have empty : t.stationsOf .sounder = [] := by
    refine List.eq_nil_iff_forall_not_mem.2 fun i mem => ?_
    obtain ⟨c, record, -⟩ := (t.mem_stationsOf _ _).1 mem
    rw [State.station, tables] at record
    cases (Tab.at?_replicate_none i).symm.trans record
  have tuned := State.tuned_of_none none
  rw [empty] at tuned
  exact (State.tuned_blank _).2 tuned

end

/-! ### The outcomes of the commands -/

/-- A command's meaning leaves the sounders with their zones wherever it has a next state. -/
def TunedAfter (o : Host.Outcome State Fault Refusal) : Prop := ∀ t, o = .next t → (t.blank hushed).Tuned [] []

@[simp] theorem tunedAfter_next {t : State} : TunedAfter (.next t) ↔ (t.blank hushed).Tuned [] [] :=
  ⟨fun h => h t rfl, fun h u same => by cases same; exact h⟩

@[simp] theorem tunedAfter_fault (f : Fault) : TunedAfter (.fault f) := fun _ same => by cases same

@[simp] theorem tunedAfter_ite {c : Prop} [Decidable c] {o p : Host.Outcome State Fault Refusal} :
    TunedAfter (if c then o else p) ↔ (c → TunedAfter o) ∧ (¬ c → TunedAfter p) := by
  by_cases holds : c <;> simp [holds]

section
variable {s : State} (before : (s.blank hushed).Tuned [] [])
include before

/-! ### The sounders' own timers (R123 to R126) -/

/-- A timed pattern is in force at an ARBITRATING sounder. -/
theorem State.arbitrating_of_timed {i : Nat} {a : Arbiter} (here : s.arbiter i = some a) (timed : a.inForce ≠ .none)
    (other : a.inForce ≠ .continuous) : ∀ b, s.arbiter i = some b → b.service = .arbitrating := fun b there => by
  cases here.symm.trans there
  exact (((State.tuned_blank _).1 before).sound i a here).arbitrating timed other

theorem tunedAfter_patternEnd (i : Nat) : TunedAfter (execPatternEnd i s) := by
  unfold execPatternEnd
  split
  · next sounding =>
    obtain ⟨a, here, inForce⟩ := Option.map_eq_some_iff.1 sounding
    have ended : ∀ t, (((s.reach t).endPattern i).blank hushed).Tuned [] [] := fun t =>
      State.tuned_endPattern (s := s.reach t) (by simp [before])
        (State.arbitrating_of_timed before here (by simp [inForce]) (by simp [inForce]))
    simp [ended]
  · simp [before]

theorem tunedAfter_startLimit (i : Nat) : TunedAfter (execStartLimit i s) := by
  unfold execStartLimit
  split
  · next starting =>
    obtain ⟨a, here, inForce⟩ := Option.map_eq_some_iff.1 starting
    have ended : ∀ t, (((s.reach t).endPattern i).blank hushed).Tuned [] [] := fun t =>
      State.tuned_endPattern (s := s.reach t) (by simp [before])
        (State.arbitrating_of_timed before here (by simp [inForce]) (by simp [inForce]))
    simp [ended]
  · simp [before]

theorem tunedAfter_preemptTimeout (i : Nat) : TunedAfter (execPreemptTimeout i s) := by
  unfold execPreemptTimeout
  split
  · simp [before]
  · next a here =>
    split
    · next t r rest c o p token phase _ _ timed =>
      have arbitrates := State.arbitrating_of_timed before here (by simp [timed]) (by simp [timed])
      have ended : (((s.reach t).endPattern i).blank hushed).Tuned [] [] :=
        State.tuned_endPattern (s := s.reach t) (by simp [before]) arbitrates
      have services : (((s.reach t).endPattern i).toll i .stop).services = s.services := by
        rw [State.toll_services, State.endPattern_services]
        exact State.services_congr rfl
      have served := State.tuned_serve (State.tuned_toll ended i .stop .none) (i := i) (fun b there => by
        obtain ⟨a, old, same⟩ := State.arbiter_of_services services.symm there
        exact same.symm.trans (arbitrates a old)) r
      simp [served]
    · simp [before]
    · simp [before]

theorem tunedAfter_evacRefresh (i : Nat) : TunedAfter (execEvacRefresh i s) := by
  unfold execEvacRefresh
  split
  · simp [before]
  · next t _ =>
    have restarted : ∀ f : Arbiter → Arbiter, (∀ a, (f a).service = a.service) → (∀ a, (f a).inForce = a.inForce) →
        (((s.reach t).modArbiter i f).blank hushed).Tuned [] [] := fun f service inForce =>
      State.tuned_modArbiter (by simp [before]) service inForce
    simp [restarted]

/-! ### The other timers and moments -/

theorem tunedAfter_homeTimeout (k : Nat) : TunedAfter (execHomeTimeout k s) := by
  unfold execHomeTimeout; split <;> simp [before]

theorem tunedAfter_lampRefresh (k l : Nat) : TunedAfter (execLampRefresh k l s) := by
  unfold execLampRefresh; split <;> simp [before]

theorem tunedAfter_supervisionTimeout (i : Nat) : TunedAfter (execSupervisionTimeout i s) := by
  unfold execSupervisionTimeout; split <;> simp [before]

theorem tunedAfter_knockWindowExpiry (z : Nat) : TunedAfter (execKnockWindowExpiry z s) := by
  unfold execKnockWindowExpiry
  dsimp only
  split
  · simp [before]
  · next t _ =>
    split
    · simp [before]
    · next alert =>
      have normal : ∀ f : ZoneLive → ZoneLive, (∀ x, (f x).state = x.state) →
          ((((s.reach t).modZone z f).setZone z .normal).blank hushed).Tuned [] [] := fun f same =>
        State.tuned_setZone_quiet (State.tuned_modZone (by simp [before]) same) (by
          have state : ((s.reach t).zone z).state = .alert := Decidable.not_not.1 alert
          rw [State.zone_modZone]
          split
          · rw [same, state]; rfl
          · rw [state]; rfl)
      (repeat' split) <;> simp [before, normal]

theorem tunedAfter_resendTimer (i : Nat) : TunedAfter (execResendTimer i s) := by
  unfold execResendTimer; dsimp only; (repeat' split) <;> simp [before]

theorem tunedAfter_clearanceTimeout (i : Nat) : TunedAfter (execClearanceTimeout i s) := by
  have tripped : ∀ t f r, ((((s.reach t).modShutter i f).tripLanding .forcedRelease r).blank hushed).Tuned [] [] := fun t f r =>
    State.tuned_tripLanding (by simp [before]) _ r
  unfold execClearanceTimeout
  dsimp only
  split <;> simp [before, tripped]

theorem tunedAfter_warningTimeout (i : Nat) : TunedAfter (execWarningTimeout i s) := by
  unfold execWarningTimeout; split <;> simp [before]

theorem tunedAfter_motionTimeout (i : Nat) : TunedAfter (execMotionTimeout i s) := by
  unfold execMotionTimeout; dsimp only; split <;> simp [before]

theorem tunedAfter_escalationStep1 (n : Nat) : TunedAfter (execEscalationStep1 n s) := by
  unfold execEscalationStep1; (repeat' split) <;> simp [before]

theorem tunedAfter_escalationStep2 (n : Nat) : TunedAfter (execEscalationStep2 n s) := by
  have removed : ∀ t m g body,
      (((((s.reach t).modRecord m g).notifyOffice body .escalated).removeRecord n).blank hushed).Tuned [] [] :=
    fun t m g body => State.tuned_removeRecord (by simp [before]) n
  unfold execEscalationStep2
  dsimp only
  (repeat' split) <;> simp [before, removed]

theorem tunedAfter_closeWaitExpiry : TunedAfter (execCloseWaitExpiry s) := by
  unfold execCloseWaitExpiry; split <;> simp [before]

theorem tunedAfter_secondBoundary : TunedAfter (execSecondBoundary s) := by
  unfold execSecondBoundary; simp [before]

theorem tunedAfter_crystalLoss : TunedAfter (execCrystalLoss s) := by
  unfold execCrystalLoss; simp [before]

theorem tunedAfter_noticeRepeat (k : NoticeKey) : TunedAfter (execNoticeRepeat k s) := by
  unfold execNoticeRepeat; split <;> simp [before]

/-! ### Shafts (chapter 2) -/

theorem tunedAfter_forwardCount (k : Nat) : TunedAfter (execForwardCount k s) := by
  unfold execForwardCount; simp [before]

theorem tunedAfter_backwardCount (k : Nat) : TunedAfter (execBackwardCount k s) := by
  unfold execBackwardCount; simp [before]

theorem tunedAfter_homeMark (k : Nat) : TunedAfter (execHomeMark k s) := by
  unfold execHomeMark; simp [before]

theorem tunedAfter_speedWindowEnd (k : Nat) : TunedAfter (execSpeedWindowEnd k s) := by
  unfold execSpeedWindowEnd; split <;> simp [before]

theorem tunedAfter_readyLost (k : Nat) : TunedAfter (execReadyLost k s) := by
  unfold execReadyLost; simp [before]

theorem tunedAfter_faultRaised (k : Nat) : TunedAfter (execFaultRaised k s) := by
  unfold execFaultRaised; simp [before]

/-! ### Playback (chapter 9) -/

theorem tunedAfter_tuneEvacRefresh : TunedAfter (execTuneEvacRefresh s) := by
  unfold execTuneEvacRefresh
  split
  · simp [before]
  · split
    · simp [before]
    · exact tunedAfter_next.2
        (State.tuned_forEach (by simp [before]) fun t z h => State.tuned_forEach h fun t i h => by simp [h])

theorem tunedAfter_blockMoment (c : PhraseChannel) : TunedAfter (execBlockMoment c s) := by
  have evac : ∀ p t, TunedAfter (s.evacMoment p t) := fun p t => by unfold State.evacMoment; simp [before]
  have stored : ∀ p t, TunedAfter (s.storedMoment p t) := fun p t => by
    have next : ∀ f g, (((((s.reach t).emitStored p).modPlayback f).countPlayback g).startNext.blank hushed).Tuned [] [] := fun f g =>
      State.tuned_startNext (by simp [before])
    unfold State.storedMoment
    simp [before, next]
  unfold execBlockMoment
  (repeat' split) <;> simp [before, evac, stored]

theorem tunedAfter_pageBlockMoment : TunedAfter (execPageBlockMoment s) := by
  unfold execPageBlockMoment; split <;> simp [before]

theorem tunedAfter_underrunTimeout : TunedAfter (execUnderrunTimeout s) := by
  unfold execUnderrunTimeout; split <;> simp [before]

theorem tunedAfter_pageIdleTimeout : TunedAfter (execPageIdleTimeout s) := by
  unfold execPageIdleTimeout; split <;> simp [before]

/-! ### Lines and frames (chapter 10) -/

theorem tunedAfter_frameReceive (p : Nat) (line : LineEvent) : TunedAfter (execFrameReceive p line s) := by
  unfold execFrameReceive; (repeat' split) <;> simp [before]

theorem tunedAfter_portSilenceTimeout (p : Nat) : TunedAfter (execPortSilenceTimeout p s) := by
  unfold execPortSilenceTimeout; split <;> simp [before]

theorem tunedAfter_keepInterval (p : Nat) : TunedAfter (execKeepInterval p s) := by
  unfold execKeepInterval; split <;> simp [before]

theorem tunedAfter_earlyClash (p : Nat) : TunedAfter (execEarlyClash p s) := by
  unfold execEarlyClash; (repeat' split) <;> simp [before]

theorem tunedAfter_lateClash (p : Nat) : TunedAfter (execLateClash p s) := by
  unfold execLateClash; (repeat' split) <;> simp [before]

theorem tunedAfter_backoffEnd (p : Nat) : TunedAfter (execBackoffEnd p s) := by
  unfold execBackoffEnd; (repeat' split) <;> simp [before]

theorem tunedAfter_lineTestReceive (p : Nat) (line : LineEvent) : TunedAfter (execLineTestReceive p line s) := by
  unfold execLineTestReceive; (repeat' split) <;> simp [before]

theorem tunedAfter_lineTestTimeout (p : Nat) : TunedAfter (execLineTestTimeout p s) := by
  unfold execLineTestTimeout; split <;> simp [before]

theorem tunedAfter_keep : TunedAfter (execKeep s) := by
  unfold execKeep; split <;> simp [before]

theorem tunedAfter_beat : TunedAfter (execBeat s) := by
  unfold execBeat; split <;> simp [before]

theorem tunedAfter_forward : TunedAfter (execForward s) := by
  unfold execForward; split <;> simp [before]

theorem tunedAfter_onFrame {want : FrameStep} {job : State → Received → State}
    (keeps : ∀ (t : State) r, (t.blank hushed).Tuned [] [] → ((job t r).blank hushed).Tuned [] []) :
    TunedAfter (.next (s.onFrame want job)) :=
  tunedAfter_next.2 (State.tuned_onHead before fun t r _ _ h => keeps t r h)

/-! ### Requests, saves and resets (chapter 11) -/

theorem tunedAfter_onRequest {want : FrameStep} {object : Option Nat} {act : State → Ticket → State}
    (keeps : ∀ (t : State) k, (t.blank hushed).Tuned [] [] → ((act t k).blank hushed).Tuned [] []) :
    TunedAfter (.next (s.onRequest want object act)) :=
  tunedAfter_next.2 (State.tuned_onRequest before fun t k _ h => keeps t k h)

theorem tunedAfter_onSetup {index : Option Nat} {act : State → State × Status × Detail}
    (keeps : ∀ t : State, (t.blank hushed).Tuned [] [] → ((act t).1.blank hushed).Tuned [] []) : TunedAfter (s.onSetup index act) :=
  tunedAfter_onRequest before fun t _ h => by unfold answer; simp [keeps t h]

theorem tunedAfter_onOrder {object : Option Nat} {act : State → State × Status × Detail}
    (keeps : ∀ t : State, (t.blank hushed).Tuned [] [] → ((act t).1.blank hushed).Tuned [] []) : TunedAfter (s.onOrder object act) :=
  tunedAfter_onRequest before fun t _ h => by unfold answer; simp [keeps t h]

theorem tunedAfter_saveEnd (r : SaveResult) : TunedAfter (execSaveEnd r s) := by
  unfold execSaveEnd; (repeat' split) <;> simp [before]

theorem tunedAfter_phraseWriteEnd (bytes : List Byte) : TunedAfter (execPhraseWriteEnd bytes s) := by
  unfold execPhraseWriteEnd
  split <;> simp [before]

theorem tunedAfter_autoloadEnd (a : Bool) : TunedAfter (execAutoloadEnd a s) := by
  unfold execAutoloadEnd
  split
  · simp [before]
  · next out =>
    have none := ((State.tuned_blank _).1 before).loaded (by simpa using out)
    dsimp only
    generalize (if judgeImage a s.settings.eeprom = ImageState.valid then s.settings.eeprom.tables else ({} : Tables)) = tables
    refine tunedAfter_next.2 (State.tuned_startBlocks fun i => (?_ : _ = s.arbiter i).trans (none i))
    have stamped : ∀ v : State, v.stampImage.arbiters = v.arbiters := fun v =>
      ChangesOnly.arbiters (F := [.day]) (State.stampImage_blank (by decide) v)
    rw [State.arbiter, stamped]
    split <;> rfl

theorem tunedAfter_restartTimeout : TunedAfter (execRestartTimeout s) := by
  unfold execRestartTimeout; split <;> simp [before, State.tuned_restartNow]

theorem tunedAfter_frameSent (p : Nat) : TunedAfter (execFrameSent p s) := by
  have reported : ∀ (t : State) r, (t.blank hushed).Tuned [] [] → ((t.actOnReport r).blank hushed).Tuned [] [] := fun t r h => by
    unfold State.actOnReport; split <;> simp [h, State.tuned_restartNow]
  have sent : ∀ c f, ((s.frameSent p c f).blank hushed).Tuned [] [] := fun c f => by
    unfold State.frameSent; simp [reported, before]
  unfold execFrameSent
  (repeat' split) <;> simp [before, sent]

end

end Sys2Proof.Machine
end

section
/-! The table of the commands for the sounders, and O54: every step keeps the outputs, the positions and the sounders. -/

namespace Sys2Proof.Machine

theorem exec_tuned {s : State} (before : (s.blank hushed).Tuned [] []) (c : Instr) : TunedAfter (exec c s) := by
  cases c
  case powerOn => exact tunedAfter_next.2 (State.tuned_of_unloaded (s := s.cutShort) rfl rfl)
  case resetPin => exact tunedAfter_next.2 (State.tuned_of_unloaded (s := s.cutShort) rfl rfl)
  case autoloadEnd => exact tunedAfter_autoloadEnd before _
  case homeTimeout => exact tunedAfter_homeTimeout before _
  case lampRefresh => exact tunedAfter_lampRefresh before _ _
  case supervisionTimeout => exact tunedAfter_supervisionTimeout before _
  case knockWindowExpiry => exact tunedAfter_knockWindowExpiry before _
  case resendTimer => exact tunedAfter_resendTimer before _
  case clearanceTimeout => exact tunedAfter_clearanceTimeout before _
  case warningTimeout => exact tunedAfter_warningTimeout before _
  case motionTimeout => exact tunedAfter_motionTimeout before _
  case escalationStep1 => exact tunedAfter_escalationStep1 before _
  case escalationStep2 => exact tunedAfter_escalationStep2 before _
  case patternEnd => exact tunedAfter_patternEnd before _
  case startLimit => exact tunedAfter_startLimit before _
  case preemptTimeout => exact tunedAfter_preemptTimeout before _
  case evacRefresh => exact tunedAfter_evacRefresh before _
  case closeWaitExpiry => exact tunedAfter_closeWaitExpiry before
  case secondBoundary => exact tunedAfter_secondBoundary before
  case crystalLoss => exact tunedAfter_crystalLoss before
  case crystalCyclesResume => exact tunedAfter_next.2 (by simp [before])
  case noticeRepeat => exact tunedAfter_noticeRepeat before _
  case tuneEvacRefresh => exact tunedAfter_tuneEvacRefresh before
  case blockMoment => exact tunedAfter_blockMoment before _
  case pageBlockMoment => exact tunedAfter_pageBlockMoment before
  case underrunTimeout => exact tunedAfter_underrunTimeout before
  case pageIdleTimeout => exact tunedAfter_pageIdleTimeout before
  case frameReceive => exact tunedAfter_frameReceive before _ _
  case portSilenceTimeout => exact tunedAfter_portSilenceTimeout before _
  case keepInterval => exact tunedAfter_keepInterval before _
  case deferralEnd => exact tunedAfter_next.2 (by simp [before])
  case earlyClash => exact tunedAfter_earlyClash before _
  case lateClash => exact tunedAfter_lateClash before _
  case backoffEnd => exact tunedAfter_backoffEnd before _
  case lineTestReceive => exact tunedAfter_lineTestReceive before _ _
  case lineTestTimeout => exact tunedAfter_lineTestTimeout before _
  case keep => exact tunedAfter_keep before
  case beat => exact tunedAfter_beat before
  case forward => exact tunedAfter_forward before
  case detect => exact tunedAfter_onFrame before fun t r h => State.tuned_detect h _ _
  case shutstat => exact tunedAfter_onFrame before fun t r h => State.tuned_shutstat h _ _
  case landing => exact tunedAfter_onFrame before fun t r h => State.tuned_landingFrame h r
  case callPress => exact tunedAfter_onFrame before fun t r h => by unfold State.callFrame; (repeat' split) <;> simp [h]
  case callCancel => exact tunedAfter_onFrame before fun t r h => by unfold State.callFrame; (repeat' split) <;> simp [h]
  case callAck => exact tunedAfter_onFrame before fun t r h => by simp [h]
  case pageSamples => exact tunedAfter_onFrame before fun t r h => by simp [h]
  case setupStation =>
    exact tunedAfter_next.2 (State.tuned_onRequest before fun t _ loaded h => by
      unfold answer; simp [State.tuned_setupStation h loaded])
  case setupPoint => exact tunedAfter_onSetup before fun t h => State.tuned_setupPoint h _ _
  case setupZone => exact tunedAfter_onSetup before fun t h => State.tuned_setupZone h _ _
  case setupShutter => exact tunedAfter_onSetup before fun t h => State.tuned_setupShutter h _ _
  case setupRoute => exact tunedAfter_onSetup before fun t h => State.tuned_setupRoute h _ _
  case setupSill => exact tunedAfter_onSetup before fun t h => State.tuned_setupSill h _ _ _
  case setupSchedule => exact tunedAfter_onSetup before fun t h => State.tuned_setupSchedule h _ _
  case setupPort => exact tunedAfter_onSetup before fun t h => State.tuned_setupPort h _ _
  case setupGlobal => exact tunedAfter_onSetup before fun t h => State.tuned_setupGlobal h _ _
  case query => exact tunedAfter_onRequest before fun t _ h => by unfold answer; simp [h]
  case setClock => exact tunedAfter_onOrder before fun t h => by simp [h]
  case stepClock => exact tunedAfter_onOrder before fun t h => by simp [h]
  case setTrim => exact tunedAfter_onOrder before fun t h => by simp [h]
  case startShaft => exact tunedAfter_onOrder before fun t h => by simp [h]
  case stopShaft => exact tunedAfter_onOrder before fun t h => by simp [h]
  case silenceZone => exact tunedAfter_onOrder before fun t h => State.tuned_orderSilence h _
  case resetZone => exact tunedAfter_onOrder before fun t h => State.tuned_orderResetZone h _
  case isolateZone => exact tunedAfter_onOrder before fun t h => State.tuned_orderIsolate h _
  case restoreZone => exact tunedAfter_onOrder before fun t h => State.tuned_orderRestore h _
  case storeMode => exact tunedAfter_onOrder before fun t h => State.tuned_orderStoreMode h _
  case play => exact tunedAfter_onOrder before fun t h => by simp [h]
  case pageStart => exact tunedAfter_onRequest before fun t _ h => by unfold answer; simp [h]
  case pageEnd => exact tunedAfter_onOrder before fun t h => by simp [h]
  case clearCalls => exact tunedAfter_onOrder before fun t h => by simp [h]
  case lineTest => exact tunedAfter_onRequest before fun t _ h => by simp [h]
  case clearCounters => exact tunedAfter_onOrder before fun t h => State.tuned_clearAllCounters h
  case saveSettings => exact tunedAfter_onRequest before fun t _ h => by simp [h]
  case saveEnd => exact tunedAfter_saveEnd before _
  case writePhraseBlock => exact tunedAfter_onRequest before fun t _ h => by simp [h]
  case phraseWriteEnd => exact tunedAfter_phraseWriteEnd before _
  case lockPhrases => exact tunedAfter_onOrder before fun t h => by simp [State.carried, h]
  case restart => exact tunedAfter_onRequest before fun t _ h => by simp [h]
  case unknownOrder => exact tunedAfter_onOrder before fun t h => h
  case forwardCount => exact tunedAfter_forwardCount before _
  case backwardCount => exact tunedAfter_backwardCount before _
  case homeMark => exact tunedAfter_homeMark before _
  case speedWindowEnd => exact tunedAfter_speedWindowEnd before _
  case readyLost => exact tunedAfter_readyLost before _
  case readyGained => exact tunedAfter_next.2 (by simp [before])
  case faultRaised => exact tunedAfter_faultRaised before _
  case faultCleared => exact tunedAfter_next.2 (by simp [before])
  case setupShaft => exact tunedAfter_onSetup before fun t h => State.tuned_setupShaft h _ _
  case resetShaft => exact tunedAfter_onOrder before fun t h => State.tuned_orderReset h _
  case restartTimeout => exact tunedAfter_restartTimeout before
  case frameSent => exact tunedAfter_frameSent before _

/-! ### Every step: O54 -/

/-- A step carries out a command on the rest of the queue, or it is a tick. -/
theorem exec_or_tick_of_step {s t : State} (taken : step s = .next t) :
    (∃ c rest, exec c { s with pending := rest } = .next t) ∨ t = s.tick := by
  unfold step at taken
  split at taken
  · exact .inl ⟨_, _, taken⟩
  · injection taken with same
    exact .inr same.symm

theorem State.calm_tick (s : State) : s.Calm (s.tick.blank quiet) := by simp

theorem step_soundersFollow {s t : State} (follow : s.SoundersFollow) (taken : step s = .next t) : t.SoundersFollow := by
  have tuned := (State.tuned_blank _).2 (s.soundersFollow_iff_tuned.1 follow)
  refine t.soundersFollow_iff_tuned.2 ((State.tuned_blank _).1 ?_)
  rcases exec_or_tick_of_step taken with ⟨c, rest, meant⟩ | rfl
  · have waiting : (({ s with pending := rest } : State).blank hushed).Tuned [] [] := State.tuned_of_hushed tuned rfl
    exact exec_tuned waiting c t meant
  · simp [tuned]

/-- Settles O54: the outputs and the positions by `exec_outputsOk` and `exec_positionsOk`, the sounders by `exec_tuned`. -/
theorem stepKeepsOutputsAndPositions : Obligations.StepKeepsOutputsAndPositions := by
  refine ⟨fun s t ok taken => ?outputs, fun s t ok taken => ?positions, fun s t follow taken => step_soundersFollow follow taken⟩
  case outputs =>
    rcases exec_or_tick_of_step taken with ⟨c, rest, meant⟩ | rfl
    · exact exec_outputsOk (s := { s with pending := rest }) ok meant
    · exact s.calm_tick.keeps.outputsOk ok
  case positions =>
    rcases exec_or_tick_of_step taken with ⟨c, rest, meant⟩ | rfl
    · exact exec_positionsOk (s := { s with pending := rest }) ⟨ok.loop, ok.position, ok.loaded⟩ meant
    · exact s.calm_tick.keeps.positionsOk ok

end Sys2Proof.Machine
end

section
/-! The phase circle and the target search of a plan (R1, R40, R43, R44): O12. -/

namespace Sys2Proof.Machine

/-! ### Differences modulo the pitch (R1) -/

section
variable {m : Nat} (pos : 0 < m)
include pos

theorem subMod_lt (a b : Nat) : subMod a b m < m := Nat.mod_lt _ pos

theorem subMod_add_modEq (a b : Nat) : subMod a b m + b ≡ a [MOD m] := by
  have fits : b % m ≤ m := (Nat.mod_lt b pos).le
  calc subMod a b m + b ≡ (a + (m - b % m)) + b % m [MOD m] := (Nat.mod_modEq _ _).add (Nat.mod_modEq _ _).symm
    _ = a + m := by omega
    _ ≡ a [MOD m] := Nat.add_mod_right a m

/-- The difference is the one phase of the circle that the subtrahend takes to the minuend. -/
theorem eq_subMod_iff {a b r : Nat} : r = subMod a b m ↔ r < m ∧ (r + b) % m = a % m := by
  constructor
  · rintro rfl
    exact ⟨subMod_lt pos a b, subMod_add_modEq pos a b⟩
  · rintro ⟨inside, same⟩
    have congruent : r ≡ subMod a b m [MOD m] :=
      Nat.ModEq.add_right_cancel' b (same.trans (subMod_add_modEq pos a b).symm)
    calc r = r % m := (Nat.mod_eq_of_lt inside).symm
      _ = subMod a b m % m := congruent
      _ = subMod a b m := Nat.mod_eq_of_lt (subMod_lt pos a b)

/-- A difference is at most `w` just where one of the `w + 1` phases from the subtrahend up is the minuend. -/
theorem subMod_le_iff {a b w : Nat} : subMod a b m ≤ w ↔ ∃ i ≤ w, a % m = (b + i) % m := by
  constructor
  · intro near
    refine ⟨subMod a b m, near, ?_⟩
    rw [Nat.add_comm]
    exact (subMod_add_modEq pos a b).symm
  · rintro ⟨i, near, same⟩
    have least : i % m = subMod a b m := by
      refine (eq_subMod_iff pos).2 ⟨Nat.mod_lt i pos, ?_⟩
      rw [Nat.mod_add_mod, Nat.add_comm, same]
    exact least ▸ (Nat.mod_le i m).trans near

theorem subMod_subMod (a b c : Nat) : subMod a (subMod b c m) m = subMod (a + c) b m := by
  refine (eq_subMod_iff pos).2 ⟨subMod_lt pos _ _, ?_⟩
  have below := subMod_add_modEq pos b c
  have above := subMod_add_modEq pos a (subMod b c m)
  calc subMod a (subMod b c m) m + b
      ≡ subMod a (subMod b c m) m + (subMod b c m + c) [MOD m] := below.symm.add_left _
    _ = (subMod a (subMod b c m) m + subMod b c m) + c := (Nat.add_assoc _ _ _).symm
    _ ≡ a + c [MOD m] := above.add_right c

end

/-- On the circle a difference wraps once at most. -/
theorem subMod_of_lt {a b m : Nat} (ha : a < m) (hb : b < m) : subMod a b m = if b ≤ a then a - b else a + m - b := by
  refine ((eq_subMod_iff (Nat.zero_lt_of_lt ha)).2 ?_).symm
  split
  · next le => exact ⟨by omega, by rw [Nat.sub_add_cancel le]⟩
  · next lt => exact ⟨by omega, by rw [Nat.sub_add_cancel (by omega), Nat.add_mod_right]⟩

namespace Geometry
variable (g : Geometry)

/-! ### The bands of a sill and their pieces (R40) -/

theorem pieces_of_whole (lower : Nat) (whole : g.pitch ≤ g.Gb + g.Ga + 1) : g.pieces lower = [(0, g.pitch - 1)] :=
  if_pos whole

theorem pieces_of_inside {lower : Nat} (part : g.Gb + g.Ga + 1 < g.pitch) (inside : lower + g.Gb + g.Ga < g.pitch) :
    g.pieces lower = [(lower, lower + g.Gb + g.Ga)] := by
  have upper : (lower + g.Gb + g.Ga) % g.pitch = lower + g.Gb + g.Ga := Nat.mod_eq_of_lt inside
  have ordered : lower ≤ lower + g.Gb + g.Ga := by omega
  simp only [pieces, upper, Nat.not_le.2 part, ordered, if_true, if_false]

theorem pieces_of_wraps {lower : Nat} (hlower : lower < g.pitch) (part : g.Gb + g.Ga + 1 < g.pitch)
    (wraps : g.pitch ≤ lower + g.Gb + g.Ga) :
    g.pieces lower = [(lower, g.pitch - 1), (0, lower + g.Gb + g.Ga - g.pitch)] := by
  have upper : (lower + g.Gb + g.Ga) % g.pitch = lower + g.Gb + g.Ga - g.pitch := by
    rw [Nat.mod_eq_sub_mod wraps, Nat.mod_eq_of_lt (by omega)]
  have below : ¬ lower ≤ lower + g.Gb + g.Ga - g.pitch := by omega
  simp only [pieces, upper, Nat.not_le.2 part, below, if_false]

/-- The whole circle, a band that does not wrap, and one that does. -/
theorem pieces_cases {lower : Nat} (hlower : lower < g.pitch) :
    (g.pitch ≤ g.Gb + g.Ga + 1 ∧ g.pieces lower = [(0, g.pitch - 1)]) ∨
    (lower + g.Gb + g.Ga < g.pitch ∧ g.pieces lower = [(lower, lower + g.Gb + g.Ga)]) ∨
    (g.Gb + g.Ga + 1 < g.pitch ∧ g.pitch ≤ lower + g.Gb + g.Ga ∧
      g.pieces lower = [(lower, g.pitch - 1), (0, lower + g.Gb + g.Ga - g.pitch)]) := by
  rcases Nat.lt_or_ge (g.Gb + g.Ga + 1) g.pitch with part | whole
  · rcases Nat.lt_or_ge (lower + g.Gb + g.Ga) g.pitch with inside | wraps
    · exact .inr (.inl ⟨inside, g.pieces_of_inside part inside⟩)
    · exact .inr (.inr ⟨part, wraps, g.pieces_of_wraps hlower part wraps⟩)
  · exact .inl ⟨whole, g.pieces_of_whole lower whole⟩

/-- The pieces of a band cover the phases that lie at most the band's span above its lower bound. -/
theorem covered_pieces_iff {lower phase : Nat} (hlower : lower < g.pitch) (hphase : phase < g.pitch) :
    (∃ b ∈ g.pieces lower, b.1 ≤ phase ∧ phase ≤ b.2) ↔ subMod phase lower g.pitch ≤ g.Gb + g.Ga := by
  rw [subMod_of_lt hphase hlower]
  rcases g.pieces_cases hlower with ⟨whole, pieces⟩ | ⟨inside, pieces⟩ | ⟨part, wraps, pieces⟩
  · simp only [pieces, List.mem_singleton, exists_eq_left]
    split <;> omega
  · simp only [pieces, List.mem_singleton, exists_eq_left]
    split <;> omega
  · simp only [pieces, List.mem_cons, List.not_mem_nil, or_false, exists_eq_or_imp, exists_eq_left]
    split <;> omega

theorem pieces_within {lower : Nat} (hlower : lower < g.pitch) : ∀ b ∈ g.pieces lower, b.1 ≤ b.2 ∧ b.2 < g.pitch := by
  rcases g.pieces_cases hlower with ⟨-, pieces⟩ | ⟨inside, pieces⟩ | ⟨part, wraps, pieces⟩
  · simp only [pieces, List.forall_mem_singleton]
    omega
  · simp only [pieces, List.forall_mem_singleton]
    omega
  · simp only [pieces, List.forall_mem_cons, List.not_mem_nil, false_implies, implies_true, and_true]
    omega

theorem pieces_length_le (lower : Nat) : (g.pieces lower).length ≤ 2 := by
  unfold pieces
  dsimp only
  split
  · exact Nat.le_succ 1
  · split
    · exact Nat.le_succ 1
    · exact Nat.le_refl 2

theorem mem_bands_iff {set : List Sill} {b : Nat × Nat} : b ∈ g.bands set ↔ ∃ x ∈ set,
    b ∈ g.pieces (subMod x.position g.Gb g.pitch) ∨ b ∈ g.pieces (subMod (x.position + g.C) g.Gb g.pitch) := by
  simp only [bands, List.mem_flatMap, List.mem_append]

theorem bands_within (circle : 0 < g.pitch) (set : List Sill) : ∀ b ∈ g.bands set, b.1 ≤ b.2 ∧ b.2 < g.pitch := by
  intro b here
  obtain ⟨x, -, floor | roof⟩ := g.mem_bands_iff.1 here
  · exact g.pieces_within (subMod_lt circle _ _) b floor
  · exact g.pieces_within (subMod_lt circle _ _) b roof

theorem bands_length_le (set : List Sill) : (g.bands set).length ≤ 4 * set.length := by
  induction set with
  | nil => simp [bands]
  | cons x xs ih =>
    have floor := g.pieces_length_le (subMod x.position g.Gb g.pitch)
    have roof := g.pieces_length_le (subMod (x.position + g.C) g.Gb g.pitch)
    simp only [bands, List.flatMap_cons, List.length_append, List.length_cons] at ih ⊢
    omega

/-! ### Forbidden phases and free windows (R40, R44) -/

theorem inBands_iff {x : Sill} {phase : Nat} : g.inBands x phase = true ↔
    subMod (phase + g.Gb) x.position g.pitch ≤ g.Gb + g.Ga ∨
      subMod (phase + g.Gb) (x.position + g.C) g.pitch ≤ g.Gb + g.Ga := by
  simp only [inBands, Bool.or_eq_true, decide_eq_true_eq]

theorem forbidden_iff {set : List Sill} {phase : Nat} :
    g.forbidden set phase = true ↔ ∃ x ∈ set, g.inBands x phase = true := List.any_eq_true

theorem inBands_iff_exists (circle : 0 < g.pitch) {x : Sill} {phase : Nat} : g.inBands x phase = true ↔ ∃ i ≤ g.Gb + g.Ga,
    (phase + g.Gb) % g.pitch = (x.position + i) % g.pitch ∨
      (phase + g.Gb) % g.pitch = (x.position + g.C + i) % g.pitch := by
  rw [inBands_iff, subMod_le_iff circle, subMod_le_iff circle]
  simp only [and_or_left, exists_or]

/-- A sill's bands hold a phase just where one of the sill's pieces covers it. -/
theorem inBands_iff_covered (x : Sill) {phase : Nat} (inside : phase < g.pitch) : g.inBands x phase = true ↔
    (∃ b ∈ g.pieces (subMod x.position g.Gb g.pitch), b.1 ≤ phase ∧ phase ≤ b.2) ∨
      ∃ b ∈ g.pieces (subMod (x.position + g.C) g.Gb g.pitch), b.1 ≤ phase ∧ phase ≤ b.2 := by
  have circle : 0 < g.pitch := Nat.zero_lt_of_lt inside
  rw [g.covered_pieces_iff (subMod_lt circle _ _) inside, g.covered_pieces_iff (subMod_lt circle _ _) inside,
    subMod_subMod circle, subMod_subMod circle, inBands_iff]

theorem forbidden_iff_covered (set : List Sill) {phase : Nat} (inside : phase < g.pitch) :
    g.forbidden set phase = true ↔ ∃ b ∈ g.bands set, b.1 ≤ phase ∧ phase ≤ b.2 := by
  rw [forbidden_iff]
  constructor
  · rintro ⟨x, member, held⟩
    rcases (g.inBands_iff_covered x inside).1 held with ⟨b, floor, covers⟩ | ⟨b, roof, covers⟩
    · exact ⟨b, g.mem_bands_iff.2 ⟨x, member, .inl floor⟩, covers⟩
    · exact ⟨b, g.mem_bands_iff.2 ⟨x, member, .inr roof⟩, covers⟩
  · rintro ⟨b, here, covers⟩
    obtain ⟨x, member, floor | roof⟩ := g.mem_bands_iff.1 here
    · exact ⟨x, member, (g.inBands_iff_covered x inside).2 (.inl ⟨b, floor, covers⟩)⟩
    · exact ⟨x, member, (g.inBands_iff_covered x inside).2 (.inr ⟨b, roof, covers⟩)⟩

theorem forbidden_iff_exists (circle : 0 < g.pitch) (set : List Sill) (phase : Nat) : g.forbidden set phase = true ↔
    ∃ x ∈ set, ∃ i ≤ g.Gb + g.Ga, (phase + g.Gb) % g.pitch = (x.position + i) % g.pitch ∨
      (phase + g.Gb) % g.pitch = (x.position + g.C + i) % g.pitch := by
  simp only [forbidden_iff, g.inBands_iff_exists circle]

theorem windowFree_iff (circle : 0 < g.pitch) (set : List Sill) (phase : Nat) : g.windowFree set phase = true ↔
    ∀ j ≤ 2 * g.tol, ∀ φ < g.pitch, (φ + g.tol) % g.pitch = (phase + j) % g.pitch → g.forbidden set φ = false := by
  simp only [windowFree, List.all_eq_true, List.mem_range, Nat.lt_succ_iff, Bool.not_eq_true']
  refine forall₂_congr fun j _ => ⟨fun free φ inside same => ?_, fun free => ?_⟩
  · rw [(eq_subMod_iff circle).2 ⟨inside, same⟩]
    exact free
  · exact free _ (subMod_lt circle _ _) (subMod_add_modEq circle _ _)

/-- A window of the pitch or more reaches every phase. -/
theorem windowFree_iff_of_whole (circle : 0 < g.pitch) (whole : g.pitch ≤ 2 * g.tol + 1) (set : List Sill) (phase : Nat) :
    g.windowFree set phase = true ↔ ∀ φ < g.pitch, g.forbidden set φ = false := by
  rw [g.windowFree_iff circle]
  constructor
  · intro free φ inside
    have near : subMod (φ + g.tol) phase g.pitch ≤ 2 * g.tol := by
      have := subMod_lt circle (φ + g.tol) phase
      omega
    obtain ⟨j, within, same⟩ := (subMod_le_iff circle).1 near
    exact free j within φ inside same
  · exact fun free _ _ φ inside _ => free φ inside

/-! ### The target search (R43, R44) -/

/-- The search is the library's search for the first of consecutive numbers. -/
theorem search_eq_find? (set : List Sill) (pos fuel d : Nat) :
    g.search set pos fuel d = (List.range' d fuel).find? fun e => g.windowFree set ((pos + e) % g.pitch) := by
  induction fuel generalizing d with
  | zero => rfl
  | succ fuel ih =>
    rw [search, List.range'_succ, List.find?_cons, ih]
    cases g.windowFree set ((pos + d) % g.pitch) <;> rfl

theorem search_eq_some_iff {set : List Sill} {pos fuel d e : Nat} : g.search set pos fuel d = some e ↔
    g.windowFree set ((pos + e) % g.pitch) = true ∧ (d ≤ e ∧ e < d + fuel) ∧
      ∀ c, d ≤ c → c < e → g.windowFree set ((pos + c) % g.pitch) = false := by
  simp only [search_eq_find?, List.find?_range'_eq_some, List.mem_range'_1, Bool.not_eq_true']

theorem search_eq_none_iff {set : List Sill} {pos fuel d : Nat} : g.search set pos fuel d = none ↔
    ∀ c, d ≤ c → c < d + fuel → g.windowFree set ((pos + c) % g.pitch) = false := by
  simp only [search_eq_find?, List.find?_range'_eq_none, Bool.not_eq_true']

/-- The target of a plan is the search from the slowing distance plus s_c, over one pitch. -/
theorem plan_target (set : List Sill) (pos v : Nat) : (g.plan set pos v).target =
    (g.search set pos g.pitch (g.slowing v + g.sc)).map fun d =>
      { distance := d
        phase := (pos + d) % g.pitch
        target := (pos + d) % g.L
        brakePoint := (pos + d - g.sc) % g.L } := rfl

end Geometry

/-- Settles O12: the search by the library's first hit of a range, the bands and the windows by differences modulo the pitch. -/
theorem planFindsTheFirstFreePhase : Obligations.PlanFindsTheFirstFreePhase := by
  intro g set pos v
  refine ⟨fun p found => ?found, fun unclearable => ?unclearable, fun phase inside => ?circle,
    fun circle => g.bands_within circle set, g.bands_length_le set⟩
  case found =>
    rw [g.plan_target, Option.map_eq_some_iff] at found
    obtain ⟨d, hit, rfl⟩ := found
    obtain ⟨free, ⟨least, most⟩, first⟩ := g.search_eq_some_iff.1 hit
    exact ⟨least, most, rfl, rfl, rfl, free, first⟩
  case unclearable =>
    rw [g.plan_target, Option.map_eq_none_iff] at unclearable
    exact g.search_eq_none_iff.1 unclearable
  case circle =>
    have circle : 0 < g.pitch := Nat.zero_lt_of_lt inside
    exact ⟨g.forbidden_iff_covered set inside, g.forbidden_iff_exists circle set phase, g.windowFree_iff circle set phase,
      fun whole => g.windowFree_iff_of_whole circle whole set phase⟩

end Sys2Proof.Machine
end
